-- ==== Sys2Proof/Word.lean ====
section
/-! DEFINITION. The byte and the 16-bit number that cross the serial link (spec 11, "Multi-byte numbers in
frames are sent low byte first", R199, R218). -/

namespace Sys2Proof

/-- One byte on the link, in a clip or in a frame. -/
abbrev Byte := BitVec 8

/-- A two-byte number of the link (a word id, a clip length, a CRC, a set of causes). -/
abbrev Word16 := BitVec 16

/-- The byte a count is sent as. -/
abbrev byte (n : Nat) : Byte := BitVec.ofNat 8 n

/-- A flag as the number of its bit: 1 for yes. -/
abbrev bit (b : Bool) : Nat := if b then 1 else 0

end Sys2Proof
end

