-- ==== Sys2Proof/Config.lean ====
section
/-! DEFINITION. What the manual fixes for every ES212: sizes, capacities and the lengths of the
master-clock times, each with its rule. The part has one configuration; what the host can set is in State. -/

namespace Sys2Proof.Config

/-- Slots of the Word Table (spec 01, section 1.1). -/
abbrev slots : Nat := 96
/-- Entries of a practice queue or the duel queue (R10). -/
abbrev wordQueue : Nat := 8
/-- Clip ids run from 1 to this (R171). -/
abbrev clips : Nat := 160
/-- Blocks of the Clip Store (R170). -/
abbrev blocks : Nat := 384
/-- Bytes of a block (R170). -/
abbrev blockBytes : Nat := 1024
/-- Records the Result Log holds (R95). -/
abbrev logRecords : Nat := 32
/-- Entries of a seat's key queue (R119). -/
abbrev keyQueue : Nat := 16
/-- Waiting entries of a seat's speech queue (R147). -/
abbrev seatSpeech : Nat := 6
/-- Waiting ECHOs a seat's speech queue holds at most (R149). -/
abbrev waitingEchoes : Nat := 3
/-- Waiting entries of the announcement queue (R147). -/
abbrev announcements : Nat := 4
/-- Clips of one utterance (R145). -/
abbrev utteranceClips : Nat := 20
/-- Entries of the reply queue (R206). -/
abbrev replyQueue : Nat := 4
/-- Payload bytes of a frame (R201). -/
abbrev payload : Nat := 56
/-- The start byte of a frame (R201). -/
abbrev startByte : Byte := 0xC3
/-- Largest index a letter code may have (R2). -/
abbrev letters : Nat := 27
/-- Typed letters a WORDWISE attempt keeps (R37). -/
abbrev typedLetters : Nat := 16
/-- Consecutive IDLE scans that pass the ladder check (R128). -/
abbrev ladderPass : Nat := 16
/-- Counted scans after which the ladder check fails (R128). -/
abbrev ladderScans : Nat := 64
/-- Master-clock periods in one second (R136). -/
abbrev clockHz : Nat := 12000000
/-- The sense settle time, 5 ms, in master-clock periods (R125, R136). -/
abbrev settlePeriods : Nat := 60000
/-- The link gap timeout, 2 ms, in master-clock periods (R202, R136). -/
abbrev gapPeriods : Nat := 24000
/-- Master-clock periods the verify unit takes for one byte (R176). -/
abbrev verifyPeriods : Nat := 3

/-- How many follow-up acts one event may have before the model stops following them. The manual sets no
such bound; no event of a reachable state comes near it (assumption 6). -/
abbrev cascade : Nat := 20000

end Sys2Proof.Config
end

