-- ==== Sys2Proof/Syntax.lean ====
section
/-! DEFINITION. The commands of the ES212: one constructor per row of spec/opcode_table.json. A request of
the host carries the tag of its frame and its argument bytes as they cross the link (R217, R218), so that
an argument out of range can be written down. An event carries what the outside world contributes to it. -/

namespace Sys2Proof

/-- The two seats (spec 00, "Seats"). -/
inductive Seat where
  | a
  | b
deriving DecidableEq, Repr

/-- The two voices of the Speech Engine (R152). -/
inductive Voice where
  | v0
  | v1
deriving DecidableEq, Repr

/-- The 17 payload bytes of CONFIGURE, field by field (R210). -/
structure ConfigImage where
  scanDivisor : Word16
  tickDivisor : Byte
  debounceCount : Byte
  holdLimit : Word16
  idleLimit : Word16
  nudgeLimit : Byte
  tryLimit : Byte
  letterMissLimit : Byte
  repeatLimit : Byte
  reinsertGap : Byte
  refillMark : Byte
  refillTarget : Byte
  masteryStreak : Byte
  logThreshold : Byte
deriving DecidableEq, Repr

/-- Bytes 1 to 33 of the word entry layout, field by field (R218). -/
structure WordImage where
  wordId : Word16
  owner : Byte
  length : Byte
  /-- The 16 spelling bytes. -/
  letters : List Byte
  wordClip : Byte
  sentenceClip : Byte
  hintClip : Byte
  box : Byte
  streak : Byte
  attempts : Byte
  misses : Byte
  rest : Byte
  mastered : Byte
  /-- The four bytes of the last mistake. -/
  mistakeKind : Byte
  mistakePosition : Byte
  mistakeExpected : Byte
  mistakeTyped : Byte
deriving DecidableEq, Repr

/-- The 40 bits a keyboard's identity memory sends (R124). -/
structure Identity where
  kind : Byte
  serial : BitVec 24
  check : Byte
deriving DecidableEq, Repr

/-- A level of a serial line (R199). -/
inductive LineLevel where
  | mark
  | space
deriving DecidableEq, Repr

/-- A character on the receive line: its 8 data bits and the level its stop bit was sampled at (R199). -/
structure Character where
  bits : Byte
  stop : LineLevel
deriving DecidableEq, Repr

/-- The commands. -/
inductive Instr where
  -- Restarts, status and configuration (spec 11)
  | powerOn
  | restartLesson (tag : Byte)
  | restartFull (tag : Byte)
  | status (tag : Byte)
  | readConfig (tag : Byte)
  | configure (tag : Byte) (image : ConfigImage)
  -- Word Table and Practice Queues (spec 01)
  | putWord (tag slot : Byte) (image : WordImage)
  | getWord (tag slot : Byte)
  | dropWord (tag slot : Byte)
  | queueWord (tag queue slot position : Byte)
  | clearQueue (tag queue : Byte)
  | readQueue (tag queue : Byte)
  -- Attempts and Judging (spec 02)
  | startSolo (tag seat style options : Byte)
  | stopSeat (tag seat : Byte)
  | pauseSeat (tag seat : Byte)
  | resumeSeat (tag seat : Byte)
  | skipWord (tag seat : Byte)
  | readAttempt (tag seat : Byte)
  -- Duel Rounds (spec 04)
  | startDuel (tag rounds options : Byte)
  | stopDuel (tag : Byte)
  | readDuel (tag : Byte)
  -- Result Log and Attention (spec 05)
  | peekResults (tag n : Byte)
  | releaseResults (tag k : Byte)
  | readAttention (tag : Byte)
  | setAttentionEnable (tag : Byte) (causes : Word16)
  -- Seats and Key Scanning (spec 06)
  | flushKeys (tag seat : Byte)
  | loadKeyMap (tag slot kind firstRow rows : Byte) (keys : List Byte)
  | checkSeat (tag seat : Byte)
  | readSeats (tag : Byte)
  -- Timebase (spec 07)
  | scanStart (tag : Byte)
  | scanStop (tag : Byte)
  -- Speech Queues and Voices (spec 08)
  | setRoute (tag seat setting : Byte)
  | setCues (tag : Byte) (clips : List Byte)
  | setLetters (tag : Byte) (clips : List Byte)
  | setVolume (tag channel level : Byte)
  | announce (tag route count : Byte) (clips : List Byte)
  | cancelAnnounce (tag selector handle : Byte)
  | readSpeech (tag part : Byte)
  -- Clip Store (spec 09)
  | openClip (tag id format rate : Byte) (length crc : Word16)
  | clipData (tag id : Byte) (offset : Word16) (count : Byte) (bytes : List Byte)
  | commitClip (tag id : Byte)
  | deleteClip (tag id : Byte)
  | clipStatus (tag id : Byte)
  | storeStatus (tag : Byte)
  -- Fault Banks and Lockdown (spec 10)
  | readFaults (tag bank : Byte)
  | clearFault (tag bank : Byte)
  | setFaultEnable (tag bank : Byte) (codes : Word16)
  | clearHold (tag : Byte)
  -- Events on the link
  /-- The byte is the second CRC byte, which completes the frame in the assembler. -/
  | frameComplete (last : Byte)
  | gapTimerExpiry
  | linkBreak
  | replySent
  -- Events of the timebase and of key scanning
  | scanStartIssued
  | lessonTick
  /-- The level is what the row converter gave, 0 to 1023. -/
  | rowConversionComplete (level : BitVec 10)
  | converterTimeout
  /-- The new level of the seat's sense line: whether it shows a keyboard. -/
  | senseChange (seat : Seat) (keyboard : Bool)
  | senseSettled (seat : Seat)
  /-- What the identity memory answered: nothing, or 40 bits. -/
  | identityReadComplete (seat : Seat) (answer : Option Identity)
  | holdAlert (seat : Seat) (row : Fin 8)
  -- Events of attempts, speech, clips and faults
  | idleExpiry (seat : Seat)
  | utteranceDone (voice : Voice)
  | clipAdvance (voice : Voice)
  /-- `holdFirst` says which of the two the manual leaves open comes first when the fault brings about
  HOLD: the hold entry (yes) or the handling of the FAILED report by an attempt context or DC (no) (R157). -/
  | clipParity (voice : Voice) (holdFirst : Bool)
  | verifyComplete
  | judgementTaken (seat : Seat)
  | holdEntry
  | lockdownEntry
  /-- A character of the receive line: the level of its stop bit says whether it is taken at once or held back (R199). -/
  | byteReceived (value : Character)
  | resetPinAsserted
deriving DecidableEq, Repr

end Sys2Proof
end

