-- ==== Sys2Proof/WellFormed.lean ====
section
/-! DEFINITION. Which commands can cross the link or arise at all: argument lists as long as their request's
layout says (R217, R218 and the length column of the request catalogue, spec 11.8). Argument VALUES out of
range are well formed: the owning request refuses them with BAD_FIELD. -/

namespace Sys2Proof

/-- The lists of a command have the lengths its frame gives them (spec 11.8). -/
def Instr.wellFormed : Instr → Bool
  | .putWord _ _ w => w.letters.length == 16
  | .setCues _ clips => clips.length == 8
  | .setLetters _ clips => clips.length == 27
  | .loadKeyMap _ _ _ _ rows keys => keys.length == 7 * rows.toNat && decide (rows.toNat ≤ 7)
  | .announce _ _ count clips => clips.length == count.toNat && decide (count.toNat ≤ 54)
  | .clipData _ _ _ count bytes => bytes.length == count.toNat && decide (count.toNat ≤ 52)
  | .powerOn | .restartLesson .. | .restartFull .. | .status .. | .readConfig .. | .configure ..
  | .getWord .. | .dropWord .. | .queueWord .. | .clearQueue .. | .readQueue .. | .startSolo ..
  | .stopSeat .. | .pauseSeat .. | .resumeSeat .. | .skipWord .. | .readAttempt .. | .startDuel ..
  | .stopDuel .. | .readDuel .. | .peekResults .. | .releaseResults .. | .readAttention ..
  | .setAttentionEnable .. | .flushKeys .. | .checkSeat .. | .readSeats .. | .scanStart .. | .scanStop ..
  | .setRoute .. | .setVolume .. | .cancelAnnounce .. | .readSpeech .. | .openClip .. | .commitClip ..
  | .deleteClip .. | .clipStatus .. | .storeStatus .. | .readFaults .. | .clearFault ..
  | .setFaultEnable .. | .clearHold .. | .frameComplete .. | .gapTimerExpiry | .linkBreak | .replySent
  | .scanStartIssued | .lessonTick | .rowConversionComplete .. | .converterTimeout | .senseChange ..
  | .senseSettled .. | .identityReadComplete .. | .holdAlert .. | .idleExpiry .. | .utteranceDone ..
  | .clipAdvance .. | .clipParity .. | .verifyComplete | .judgementTaken .. | .holdEntry | .lockdownEntry
  | .byteReceived .. | .resetPinAsserted => true

end Sys2Proof
end

