-- ==== Sys2Proof/Decode.lean ====
section
/-! DEFINITION. Words and frames. The table's rows give no bits, so no word spells a command
(`decodeTableWord`). A request of the host crosses the link as a kind, a tag and a payload (spec 11.2, 11.8,
R217, R218): what those spell, and the payload a request is sent as. -/

namespace Sys2Proof

/-- The command a word spells by the bits of the opcode table: the table gives no row any bits. -/
def decodeTableWord (_nbits _w : Nat) : Option Instr := none

/-- A two-byte number from its bytes, low byte first (R199). -/
def word16 (lo hi : Byte) : Word16 := hi ++ lo

/-- The low byte of a two-byte number. -/
def loByte (w : Word16) : Byte := w.extractLsb' 0 8

/-- The high byte of a two-byte number. -/
def hiByte (w : Word16) : Byte := w.extractLsb' 8 8

/-- The kind of a request (spec 11.8). The commands that are no request have kind 0, which is no request's. -/
def Instr.kind : Instr → Byte
  | .status .. => 0x01
  | .readConfig .. => 0x02
  | .configure .. => 0x03
  | .restartLesson .. => 0x04
  | .restartFull .. => 0x04
  | .putWord .. => 0x08
  | .getWord .. => 0x09
  | .dropWord .. => 0x0A
  | .queueWord .. => 0x0B
  | .clearQueue .. => 0x0C
  | .readQueue .. => 0x0D
  | .startSolo .. => 0x10
  | .stopSeat .. => 0x11
  | .pauseSeat .. => 0x12
  | .resumeSeat .. => 0x13
  | .skipWord .. => 0x14
  | .readAttempt .. => 0x15
  | .startDuel .. => 0x16
  | .stopDuel .. => 0x17
  | .readDuel .. => 0x18
  | .peekResults .. => 0x19
  | .releaseResults .. => 0x1A
  | .readAttention .. => 0x1B
  | .setAttentionEnable .. => 0x1C
  | .flushKeys .. => 0x20
  | .loadKeyMap .. => 0x21
  | .checkSeat .. => 0x22
  | .readSeats .. => 0x23
  | .scanStart .. => 0x24
  | .scanStop .. => 0x25
  | .setRoute .. => 0x28
  | .setCues .. => 0x29
  | .setLetters .. => 0x2A
  | .setVolume .. => 0x2B
  | .announce .. => 0x2C
  | .cancelAnnounce .. => 0x2D
  | .readSpeech .. => 0x2E
  | .openClip .. => 0x30
  | .clipData .. => 0x31
  | .commitClip .. => 0x32
  | .deleteClip .. => 0x33
  | .clipStatus .. => 0x34
  | .storeStatus .. => 0x35
  | .readFaults .. => 0x38
  | .clearFault .. => 0x39
  | .setFaultEnable .. => 0x3A
  | .clearHold .. => 0x3B
  | .powerOn | .frameComplete .. | .gapTimerExpiry | .linkBreak | .replySent | .scanStartIssued
  | .lessonTick | .rowConversionComplete .. | .converterTimeout | .senseChange .. | .senseSettled ..
  | .identityReadComplete .. | .holdAlert .. | .idleExpiry .. | .utteranceDone .. | .clipAdvance ..
  | .clipParity .. | .verifyComplete | .judgementTaken .. | .holdEntry | .lockdownEntry
  | .byteReceived .. | .resetPinAsserted => 0x00

/-- The tag of a request (spec 11.2); 0 for a command that is no request. -/
def Instr.tag : Instr → Byte
  | .restartLesson t | .restartFull t | .status t | .readConfig t | .configure t _ | .putWord t _ _
  | .getWord t _ | .dropWord t _ | .queueWord t _ _ _ | .clearQueue t _ | .readQueue t _
  | .startSolo t _ _ _ | .stopSeat t _ | .pauseSeat t _ | .resumeSeat t _ | .skipWord t _
  | .readAttempt t _ | .startDuel t _ _ | .stopDuel t | .readDuel t | .peekResults t _
  | .releaseResults t _ | .readAttention t | .setAttentionEnable t _ | .flushKeys t _
  | .loadKeyMap t _ _ _ _ _ | .checkSeat t _ | .readSeats t | .scanStart t | .scanStop t
  | .setRoute t _ _ | .setCues t _ | .setLetters t _ | .setVolume t _ _ | .announce t _ _ _
  | .cancelAnnounce t _ _ | .readSpeech t _ | .openClip t _ _ _ _ _ | .clipData t _ _ _ _
  | .commitClip t _ | .deleteClip t _ | .clipStatus t _ | .storeStatus t | .readFaults t _
  | .clearFault t _ | .setFaultEnable t _ _ | .clearHold t => t
  | .powerOn | .frameComplete .. | .gapTimerExpiry | .linkBreak | .replySent | .scanStartIssued
  | .lessonTick | .rowConversionComplete .. | .converterTimeout | .senseChange .. | .senseSettled ..
  | .identityReadComplete .. | .holdAlert .. | .idleExpiry .. | .utteranceDone .. | .clipAdvance ..
  | .clipParity .. | .verifyComplete | .judgementTaken .. | .holdEntry | .lockdownEntry
  | .byteReceived .. | .resetPinAsserted => 0x00

/-- The command is a request of the host. -/
def Instr.isRequest (c : Instr) : Bool := c.kind != 0

/-- The five requests that pass the lockdown filter (R204). -/
def Instr.passesLockdown : Instr → Bool
  | .status .. | .readFaults .. | .readAttention .. | .readAttempt .. | .restartFull .. => true
  | _ => false

/-- The payload of CONFIGURE (R210). -/
def ConfigImage.payload (im : ConfigImage) : List Byte :=
  [loByte im.scanDivisor, hiByte im.scanDivisor, im.tickDivisor, im.debounceCount, loByte im.holdLimit,
    hiByte im.holdLimit, loByte im.idleLimit, hiByte im.idleLimit, im.nudgeLimit, im.tryLimit, im.letterMissLimit,
    im.repeatLimit, im.reinsertGap, im.refillMark, im.refillTarget, im.masteryStreak, im.logThreshold]

/-- The payload of PUT_WORD: the word entry layout (R218). -/
def WordImage.payload (slot : Byte) (w : WordImage) : List Byte :=
  [slot, loByte w.wordId, hiByte w.wordId, w.owner, w.length] ++ w.letters ++
  [w.wordClip, w.sentenceClip, w.hintClip, w.box, w.streak, w.attempts, w.misses, w.rest, w.mastered,
    w.mistakeKind, w.mistakePosition, w.mistakeExpected, w.mistakeTyped]

/-- The payload a request is sent with (R217, R218); empty for a command that is no request. -/
def Instr.payload : Instr → List Byte
  | .restartLesson _ => [1]
  | .restartFull _ => [2]
  | .configure _ im => im.payload
  | .putWord _ slot w => w.payload slot
  | .getWord _ slot => [slot]
  | .dropWord _ slot => [slot]
  | .queueWord _ queue slot position => [queue, slot, position]
  | .clearQueue _ queue => [queue]
  | .readQueue _ queue => [queue]
  | .startSolo _ seat style options => [seat, style, options]
  | .stopSeat _ seat => [seat]
  | .pauseSeat _ seat => [seat]
  | .resumeSeat _ seat => [seat]
  | .skipWord _ seat => [seat]
  | .readAttempt _ seat => [seat]
  | .startDuel _ rounds options => [rounds, options]
  | .peekResults _ n => [n]
  | .releaseResults _ k => [k]
  | .setAttentionEnable _ causes => [loByte causes, hiByte causes]
  | .flushKeys _ seat => [seat]
  | .loadKeyMap _ slot kind firstRow rows keys => [slot, kind, firstRow, rows] ++ keys
  | .checkSeat _ seat => [seat]
  | .setRoute _ seat setting => [seat, setting]
  | .setCues _ clips => clips
  | .setLetters _ clips => clips
  | .setVolume _ channel level => [channel, level]
  | .announce _ route count clips => [route, count] ++ clips
  | .cancelAnnounce _ selector handle => [selector, handle]
  | .readSpeech _ part => [part]
  | .openClip _ id format rate length crc => [id, format, rate, loByte length, hiByte length, loByte crc, hiByte crc]
  | .clipData _ id offset count bytes => [id, loByte offset, hiByte offset, count] ++ bytes
  | .commitClip _ id => [id]
  | .deleteClip _ id => [id]
  | .clipStatus _ id => [id]
  | .readFaults _ bank => [bank]
  | .clearFault _ bank => [bank]
  | .setFaultEnable _ bank codes => [bank, loByte codes, hiByte codes]
  | .status .. | .readConfig .. | .stopDuel .. | .readDuel .. | .readAttention .. | .readSeats ..
  | .scanStart .. | .scanStop .. | .storeStatus .. | .clearHold .. | .powerOn | .frameComplete ..
  | .gapTimerExpiry | .linkBreak | .replySent | .scanStartIssued | .lessonTick
  | .rowConversionComplete .. | .converterTimeout | .senseChange .. | .senseSettled ..
  | .identityReadComplete .. | .holdAlert .. | .idleExpiry .. | .utteranceDone .. | .clipAdvance ..
  | .clipParity .. | .verifyComplete | .judgementTaken .. | .holdEntry | .lockdownEntry
  | .byteReceived .. | .resetPinAsserted => []

/-- What the kind, tag and payload of a frame spell (R203 steps 3 and 4, R204). -/
inductive Parsed where
  /-- No request of the catalogue has this kind. -/
  | badKind
  /-- The catalogue does not allow this payload length for the kind. -/
  | badLength
  /-- RESTART with an argument that is neither LESSON nor FULL (R213). -/
  | badRestart
  /-- A request. -/
  | request (c : Instr)
deriving DecidableEq, Repr

/-- A request without arguments. -/
def parse0 (p : List Byte) (c : Instr) : Parsed :=
  match p with
  | [] => .request c
  | _ => .badLength

/-- A request with one argument byte. -/
def parse1 (p : List Byte) (f : Byte → Instr) : Parsed :=
  match p with
  | [x] => .request (f x)
  | _ => .badLength

/-- A request with two argument bytes. -/
def parse2 (p : List Byte) (f : Byte → Byte → Instr) : Parsed :=
  match p with
  | [x, y] => .request (f x y)
  | _ => .badLength

/-- A request with three argument bytes. -/
def parse3 (p : List Byte) (f : Byte → Byte → Byte → Instr) : Parsed :=
  match p with
  | [x, y, z] => .request (f x y z)
  | _ => .badLength

/-- RESTART (R213). -/
def parseRestart (tag : Byte) (p : List Byte) : Parsed :=
  match p with
  | [x] => if x = 1 then .request (.restartLesson tag) else if x = 2 then .request (.restartFull tag) else .badRestart
  | _ => .badLength

/-- CONFIGURE (R210). -/
def parseConfigure (tag : Byte) (p : List Byte) : Parsed :=
  match p with
  | [s0, s1, t, d, h0, h1, i0, i1, n, y, l, r, g, m, f, k, o] =>
    .request (.configure tag {
      scanDivisor := word16 s0 s1, tickDivisor := t, debounceCount := d, holdLimit := word16 h0 h1,
      idleLimit := word16 i0 i1, nudgeLimit := n, tryLimit := y, letterMissLimit := l, repeatLimit := r,
      reinsertGap := g, refillMark := m, refillTarget := f, masteryStreak := k, logThreshold := o })
  | _ => .badLength

/-- The 13 bytes of PUT_WORD behind the spelling. -/
def parseWordTail (tag slot lo hi owner length : Byte) (letters rest : List Byte) : Parsed :=
  match rest with
  | [wc, sc, hc, box, streak, attempts, misses, rst, mastered, mk, mp, me, mt] =>
    .request (.putWord tag slot {
      wordId := word16 lo hi, owner := owner, length := length, letters := letters, wordClip := wc,
      sentenceClip := sc, hintClip := hc, box := box, streak := streak, attempts := attempts, misses := misses,
      rest := rst, mastered := mastered, mistakeKind := mk, mistakePosition := mp, mistakeExpected := me,
      mistakeTyped := mt })
  | _ => .badLength

/-- PUT_WORD: the word entry layout, 34 bytes (R218). -/
def parsePutWord (tag : Byte) (p : List Byte) : Parsed :=
  match p with
  | slot :: lo :: hi :: owner :: length :: rest =>
    parseWordTail tag slot lo hi owner length (rest.take 16) (rest.drop 16)
  | _ => .badLength

/-- A payload whose length a count byte gives is allowed when the list behind it is that long (R203 step 4). -/
def parseList (c : Instr) : Parsed := if c.wellFormed then .request c else .badLength

/-- LOAD_KEY_MAP (R217). -/
def parseLoadKeyMap (tag : Byte) (p : List Byte) : Parsed :=
  match p with
  | slot :: kind :: first :: rows :: keys => parseList (.loadKeyMap tag slot kind first rows keys)
  | _ => .badLength

/-- ANNOUNCE (R217). -/
def parseAnnounce (tag : Byte) (p : List Byte) : Parsed :=
  match p with
  | route :: count :: clips => parseList (.announce tag route count clips)
  | _ => .badLength

/-- OPEN_CLIP (R217). -/
def parseOpenClip (tag : Byte) (p : List Byte) : Parsed :=
  match p with
  | [id, format, rate, l0, l1, c0, c1] => .request (.openClip tag id format rate (word16 l0 l1) (word16 c0 c1))
  | _ => .badLength

/-- CLIP_DATA (R217). -/
def parseClipData (tag : Byte) (p : List Byte) : Parsed :=
  match p with
  | id :: o0 :: o1 :: count :: bytes => parseList (.clipData tag id (word16 o0 o1) count bytes)
  | _ => .badLength

/-- What the kind, tag and payload of a frame spell: the request catalogue (spec 11.8). -/
def parseRequest (kind tag : Byte) (p : List Byte) : Parsed :=
  match kind.toNat with
  | 0x01 => parse0 p (.status tag)
  | 0x02 => parse0 p (.readConfig tag)
  | 0x03 => parseConfigure tag p
  | 0x04 => parseRestart tag p
  | 0x08 => parsePutWord tag p
  | 0x09 => parse1 p (.getWord tag)
  | 0x0A => parse1 p (.dropWord tag)
  | 0x0B => parse3 p (.queueWord tag)
  | 0x0C => parse1 p (.clearQueue tag)
  | 0x0D => parse1 p (.readQueue tag)
  | 0x10 => parse3 p (.startSolo tag)
  | 0x11 => parse1 p (.stopSeat tag)
  | 0x12 => parse1 p (.pauseSeat tag)
  | 0x13 => parse1 p (.resumeSeat tag)
  | 0x14 => parse1 p (.skipWord tag)
  | 0x15 => parse1 p (.readAttempt tag)
  | 0x16 => parse2 p (.startDuel tag)
  | 0x17 => parse0 p (.stopDuel tag)
  | 0x18 => parse0 p (.readDuel tag)
  | 0x19 => parse1 p (.peekResults tag)
  | 0x1A => parse1 p (.releaseResults tag)
  | 0x1B => parse0 p (.readAttention tag)
  | 0x1C => parse2 p fun lo hi => .setAttentionEnable tag (word16 lo hi)
  | 0x20 => parse1 p (.flushKeys tag)
  | 0x21 => parseLoadKeyMap tag p
  | 0x22 => parse1 p (.checkSeat tag)
  | 0x23 => parse0 p (.readSeats tag)
  | 0x24 => parse0 p (.scanStart tag)
  | 0x25 => parse0 p (.scanStop tag)
  | 0x28 => parse2 p (.setRoute tag)
  | 0x29 => parseList (.setCues tag p)
  | 0x2A => parseList (.setLetters tag p)
  | 0x2B => parse2 p (.setVolume tag)
  | 0x2C => parseAnnounce tag p
  | 0x2D => parse2 p (.cancelAnnounce tag)
  | 0x2E => parse1 p (.readSpeech tag)
  | 0x30 => parseOpenClip tag p
  | 0x31 => parseClipData tag p
  | 0x32 => parse1 p (.commitClip tag)
  | 0x33 => parse1 p (.deleteClip tag)
  | 0x34 => parse1 p (.clipStatus tag)
  | 0x35 => parse0 p (.storeStatus tag)
  | 0x38 => parse1 p (.readFaults tag)
  | 0x39 => parse1 p (.clearFault tag)
  | 0x3A => parse3 p fun b lo hi => .setFaultEnable tag b (word16 lo hi)
  | 0x3B => parse0 p (.clearHold tag)
  | _ => .badKind

end Sys2Proof
end

