-- ==== Sys2Proof/Machine/State.lean ====
section
/-! DEFINITION. The state of the ES212, block by block as spec 00 "Blocks" lists them, as plain data, and
the state right after the power-on reset (R216). Fields follow the tables of R2, R23, R73, R114, R145,
R171, R186 and R210 and section 6.8. Views that the rules derive from other state (wait stamps, the ready and attention
lines, the transmitter, the channel samples) are functions of the operations' files. -/

namespace Sys2Proof.Machine

/-! ### What stops a step -/

/-- The model gives every command its meaning in every state, so no step of it faults. The type has one
constructor because the interface asks for one. -/
inductive Fault where
  /-- Raised by no command. Safe: it stops the machine. -/
  | none
deriving DecidableEq, Repr

/-- Why a step has no meaning. -/
inductive Refusal where
  /-- A command whose meaning is not written, by its mnemonic. Raised by no command of this model.
  Safe: it stops the machine. -/
  | notModelled (mnemonic : String)
deriving DecidableEq, Repr

/-! ### One of a thing for each seat -/

/-- A value for seat A and one for seat B. -/
structure Pair (α : Type) where
  a : α
  b : α
deriving DecidableEq, Repr

/-! ### Words (spec 01, spec 03) -/

/-- The owner of a word: the queue it serves (R2). -/
inductive Owner where
  | seatA
  | seatB
  | both
deriving DecidableEq, Repr

/-- The kinds of mistake (R59). -/
inductive MistakeKind where
  | substitution
  | transposition
  | omission
  | insertion
  | doubling
  | general
deriving DecidableEq, Repr

/-- A mistake code (R59). The letter class is derived, not stored (R60). -/
structure MistakeCode where
  kind : MistakeKind
  position : Nat
  expected : Option Nat
  typed : Option Nat
deriving DecidableEq, Repr

/-- A word entry: the word and its progress (R2). -/
structure WordEntry where
  wordId : Nat
  owner : Owner
  spelling : List Nat
  wordClip : Nat
  sentenceClip : Option Nat
  hintClip : Option Nat
  box : Nat
  streak : Nat
  attempts : Nat
  misses : Nat
  rest : Nat
  mastered : Bool
  lastMistake : Option MistakeCode
deriving DecidableEq, Repr

/-- A word slot (spec 01, section 1.1). `parityGood` says whether the stored parity checks (R3). -/
inductive Slot where
  | empty
  | occupied (entry : WordEntry) (parityGood : Bool)
  | damaged
deriving DecidableEq, Repr

/-- The word queues of the Practice Scheduler: slot numbers, head first (R10). -/
structure WordQueues where
  practice : Pair (List Nat)
  duel : List Nat
deriving DecidableEq, Repr

/-! ### Attempts (spec 02) and duels (spec 04) -/

/-- Outcomes of an attempt (R42, R45); SKIPPED with its reason. -/
inductive AttemptEnd where
  | correct
  | helped
  | miss
  | timedOut
  | skippedHost
  | skippedNoAudio
  | abandoned
  | beaten
deriving DecidableEq, Repr

/-- Whether an attempt context is idle, practising alone or in a duel (R23). -/
inductive Mode where
  | off
  | solo
  | duel
deriving DecidableEq, Repr

/-- How keys are judged (R23). -/
inductive Style where
  | letterwise
  | wordwise
deriving DecidableEq, Repr

/-- States of an attempt context (R25). -/
inductive ContextState where
  | idle
  | prompting
  | typing
  | feedback
  | waitingLog
  | paused
  | done
deriving DecidableEq, Repr

/-- Who paused a context (R23). -/
inductive PauseCause where
  | host
  | hold
deriving DecidableEq, Repr

/-- A target's entry as read at presentation (R23). -/
structure TargetCopy where
  wordId : Nat
  spelling : List Nat
  wordClip : Nat
  sentenceClip : Option Nat
  hintClip : Option Nat
  box : Nat
deriving DecidableEq, Repr

/-- A result record (R45, R86). The number is absent until RL appends the record. -/
structure ResultRecord where
  number : Option Nat
  seat : Seat
  style : Style
  duel : Bool
  round : Nat
  won : Bool
  lateCorrect : Bool
  wordId : Nat
  outcome : AttemptEnd
  tries : Nat
  wrongTotal : Nat
  hints : Nat
  keys : Nat
  duration : Nat
  boxBefore : Nat
  boxAfter : Nat
  masteredNow : Bool
  mistake : Option MistakeCode
deriving DecidableEq, Repr

/-- An attempt context (R23). Its wait stamp is its place in RL's waiting line (R98), and its submission in
flight is the judgement DC has not yet taken (R80); both are held there once. -/
structure Context where
  mode : Mode
  style : Style
  echo : Bool
  bargeIn : Bool
  sentence : Bool
  state : ContextState
  pauseCause : Option PauseCause
  target : Option Nat
  copy : Option TargetCopy
  typed : List Nat
  cursor : Nat
  wrongHere : Nat
  wrongTotal : Nat
  autofills : Nat
  tries : Nat
  hints : Nat
  repeats : Nat
  nudges : Nat
  keys : Nat
  lastMistake : Option MistakeCode
  startTick : Option Nat
  elapsed : Nat
  idleTimer : Nat
  idleRunning : Bool
  firm : Option Nat
  pendingRecord : Option ResultRecord
  stopMarked : Bool
deriving DecidableEq, Repr

/-- States of the duel record (R73). -/
inductive DuelState where
  | off
  | presenting
  | racing
  | settling
  | finished
deriving DecidableEq, Repr

/-- A seat's standing in a round (R73). -/
inductive SeatStatus where
  | typing
  | out
  | solved
  | beaten
  | gone
deriving DecidableEq, Repr

/-- Where a seat's record of the round stands (R73). -/
inductive RecordStatus where
  | notBuilt
  | waiting
  | inLog
deriving DecidableEq, Repr

/-- What stands for a round in the progress update and in reinsertion (R73). -/
inductive RoundResult where
  | correct
  | helped
  | miss
  | skipped
  | abandoned
deriving DecidableEq, Repr

/-- Why a duel finished (R87). -/
inductive FinishReason where
  | rounds
  | noWords
  | forfeitA
  | forfeitB
  | stopped
deriving DecidableEq, Repr

/-- A seat's part of the duel record. `ended` is the outcome AE reported when the seat's attempt ended
(R76); the manual does not name it a field, but the records of R86 are built from it (assumption 17). -/
structure SeatRound where
  status : Option SeatStatus
  lateCorrect : Bool
  record : RecordStatus
  ended : Option AttemptEnd
deriving DecidableEq, Repr

/-- A judgement on its way from AE to DC (R80). `live` is no once its round has closed or been broken off
(R81, assumption 15). -/
structure Judgement where
  round : Nat
  equal : Bool
  atLimit : Bool
  mistake : Option MistakeCode
  live : Bool
deriving DecidableEq, Repr

/-- What a round's progress update stored (R73). -/
structure RoundUpdate where
  boxAfter : Nat
  masteredNow : Bool
deriving DecidableEq, Repr

/-- The duel record (R73), with the judgements in flight beside it. -/
structure DuelRecord where
  state : DuelState
  echo : Bool
  sentence : Bool
  total : Nat
  round : Nat
  scores : Pair Nat
  target : Option Nat
  copy : Option TargetCopy
  seats : Pair SeatRound
  winner : Option Seat
  mistake : Option MistakeCode
  result : Option RoundResult
  update : Option RoundUpdate
  duelWinner : Option Seat
  finish : Option FinishReason
  firm : Option Nat
  judgements : Pair (Option Judgement)
deriving DecidableEq, Repr

/-! ### The result log and the attention unit (spec 05) -/

/-- The Result Log (R95, R96, R98, R101). -/
structure ResultLog where
  records : List ResultRecord
  counter : Nat
  waiting : List Seat
  threshold : Bool
deriving DecidableEq, Repr

/-- The attention causes (R104), in the order of their bits (R218). -/
inductive Cause where
  | seatChange (seat : Seat)
  | seatDone (seat : Seat)
  | duelEnd
  | logThreshold
  | logFull
  | clipDone
  | clipFreed
  | fault
  | alert
deriving DecidableEq, Repr

/-- The two sets of the Attention Unit, as the cause sets they cross the link in (R104, R218). -/
structure Attention where
  raised : BitVec 16
  enabled : BitVec 16
deriving DecidableEq, Repr

/-! ### Seats and key scanning (spec 06) -/

/-- Key codes (spec 00, "Key codes"). -/
inductive KeyCode where
  | unused
  | letter (code : Nat)
  | enter
  | back
  | again
  | hint
deriving DecidableEq, Repr

/-- What a row's level means (R110). -/
inductive Decode where
  | idle
  | step (k : Nat)
  | ambiguous
deriving DecidableEq, Repr

/-- A row record (R114). `due` marks an alert that a lesson tick has found and HOLD_ALERT has not yet
given (assumption 13). -/
structure RowRecord where
  stable : Decode
  candidate : Decode
  streak : Nat
  holdCount : Nat
  alerted : Bool
  due : Bool
deriving DecidableEq, Repr

/-- States of a seat (spec 06, section 6.8). -/
inductive SeatState where
  | empty
  | identifying
  | checking
  | ready
  | faulted
deriving DecidableEq, Repr

/-- Why a seat is FAULTED (spec 06, section 6.8). -/
inductive SeatFault where
  | idCheck
  | noId
  | unknownKind
  | ladder
deriving DecidableEq, Repr

/-- A seat record (spec 06, section 6.8). The settle timer holds the master-clock periods left. -/
structure SeatRecord where
  state : SeatState
  faultCause : Option SeatFault
  faultRow : Option Nat
  identity : Option Identity
  mapSlot : Option Nat
  readFailures : Nat
  idleRun : Nat
  scansCounted : Nat
  lastBusyRow : Option Nat
  senseLine : Bool
  settled : Bool
  settleTimer : Option Nat
  rows : List RowRecord
  keys : List KeyCode
  holdRows : BitVec 8
  chordRows : BitVec 8
deriving DecidableEq, Repr

/-- A key map slot (R122): entry 7 × row + step. -/
structure KeyMap where
  tag : Nat
  entries : List KeyCode
deriving DecidableEq, Repr

/-- How far one seat has come in the scan in progress (R128): rows converted, and the highest of them
that did not decode IDLE. -/
structure Tally where
  rows : Nat
  busy : Option Nat
deriving DecidableEq, Repr

/-- The scan in progress (R111): the converter row index under conversion, whether its result is to be
discarded because its seat has left, and each seat's tally. -/
structure Scan where
  row : Nat
  discard : Bool
  tally : Pair Tally
deriving DecidableEq, Repr

/-- The Key Scanner. -/
structure KeyScanner where
  seats : Pair SeatRecord
  map0 : KeyMap
  map1 : KeyMap
  scan : Option Scan
deriving DecidableEq, Repr

/-! ### The timebase (spec 07) -/

/-- The scan generator (R137); the down-count exists in RUNNING only. -/
inductive Generator where
  | stopped
  | running (downCount : Nat)
deriving DecidableEq, Repr

/-- The Timebase. -/
structure Timebase where
  generator : Generator
  divisorInUse : Nat
  count : Nat
  counter : Nat
deriving DecidableEq, Repr

/-! ### Speech (spec 08) -/

/-- Who placed an utterance (R145). -/
inductive Requester where
  | seat (x : Seat)
  | duel
  | announce
deriving DecidableEq, Repr

/-- What an utterance is (R145). -/
inductive SpeechClass where
  | announce
  | feedback
  | prompt
  | cue
  | echo
deriving DecidableEq, Repr

/-- How an utterance ended (R145). -/
inductive EndStatus where
  | done
  | cancelled
  | evicted
  | failed
deriving DecidableEq, Repr

/-- The output channels (spec 08). -/
inductive Channel where
  | phonesA
  | phonesB
  | speaker
deriving DecidableEq, Repr

/-- An utterance (R145). The route is the set of its channels, bit c for channel c (R218). -/
structure Utterance where
  handle : Nat
  requester : Requester
  cls : SpeechClass
  route : BitVec 3
  clips : List Nat
deriving DecidableEq, Repr

/-- What a PLAYING voice holds (R152): the position within the clip is the sample under way and how far
its period has run, in twelve-millionths of a sample. -/
structure Playing where
  utterance : Utterance
  index : Nat
  sample : Nat
  phase : Nat
deriving DecidableEq, Repr

/-- A seat's route setting (R151). -/
inductive RouteSetting where
  | phones
  | speaker
deriving DecidableEq, Repr

/-- The last announcement record (R158). -/
structure LastAnnouncement where
  handle : Nat
  status : EndStatus
deriving DecidableEq, Repr

/-- The eight cues (R164). -/
inductive Cue where
  | spell
  | buzz
  | bump
  | chime
  | tryAgain
  | theWordIs
  | aWins
  | bWins
deriving DecidableEq, Repr

/-- The Speech Engine. -/
structure Speech where
  seatQueue : Pair (List Utterance)
  duelQueue : List Utterance
  announceQueue : List Utterance
  v0 : Option Playing
  v1 : Option Playing
  lastHandle : Nat
  startOrder : List Requester
  lastAnnounce : Option LastAnnouncement
  routes : Pair RouteSetting
  volumeA : Nat
  volumeB : Nat
  volumeSpeaker : Nat
  cues : List (Option Nat)
  letters : List (Option Nat)
deriving DecidableEq, Repr

/-! ### The clip store (spec 09) -/

/-- States of a clip that is not ABSENT (R171). -/
inductive ClipState where
  | loading
  | verifying
  | ready
  | bad
  | retiring
deriving DecidableEq, Repr

/-- Sample formats (R171). -/
inductive Format where
  | u8
  | s16
deriving DecidableEq, Repr

/-- Why a clip is BAD (R171). -/
inductive BadCause where
  | verifyMismatch
  | parity
deriving DecidableEq, Repr

/-- The directory entry of a clip that is not ABSENT (R171). -/
structure Clip where
  state : ClipState
  format : Format
  rate : Nat
  length : Nat
  firstBlock : Nat
  blockCount : Nat
  crc : BitVec 16
  fill : Nat
  pins : Nat
  badCause : Option BadCause
deriving DecidableEq, Repr

/-- The verify unit while BUSY (R175, R176): the clip, the bytes checked, the CRC register, and the
master-clock periods the byte under way has had. -/
structure Verify where
  clip : Nat
  checked : Nat
  register : BitVec 16
  phase : Nat
deriving DecidableEq, Repr

/-- The Clip Store: directory entry i - 1 is clip id i; `none` is ABSENT. -/
structure ClipStore where
  directory : List (Option Clip)
  blocks : List (Option Nat)
  verify : Option Verify
  bytes : List Host.Cell
  parity : List Host.Cell
deriving DecidableEq, Repr

/-! ### Fault banks (spec 10) -/

/-- The four banks (R186). -/
inductive Bank where
  | link
  | scan
  | audio
  | lesson
deriving DecidableEq, Repr

/-- The twelve fault codes (R187). -/
inductive FaultCode where
  | frameCrc
  | frameGap
  | overrun
  | keyOverrun
  | scanOverrun
  | idCheck
  | noId
  | converterTimeout
  | clipParity
  | verifyMismatch
  | noAudio
  | tableParity
deriving DecidableEq, Repr

/-- What a fault concerns (R186). -/
inductive FaultContext where
  | nothing
  | seat (x : Seat)
  | clip (id : Nat)
  | slot (n : Nat)
deriving DecidableEq, Repr

/-- A valid fault record (R186); the severity is fixed by the code. -/
structure HeldFault where
  overflow : Bool
  code : FaultCode
  enabled : Bool
  context : FaultContext
  detail : Nat
  resumable : Option Bool
deriving DecidableEq, Repr

/-- A bank: its record, `none` when not valid, and its enable mask as a fault code set (R186, R189, R218). -/
structure FaultBank where
  held : Option HeldFault
  mask : BitVec 16
deriving DecidableEq, Repr

/-- The part condition (R194). -/
inductive Condition where
  | normal
  | hold
  | lockdown
deriving DecidableEq, Repr

/-- The Fault Banks. `holdDue` and `lockdownDue` are the outstanding entries (R195, R197, R198); `frozen`
says that the lockdown entry has been carried out (R56, R93). -/
structure FaultBanks where
  link : FaultBank
  scan : FaultBank
  audio : FaultBank
  lesson : FaultBank
  condition : Condition
  holdDue : Bool
  lockdownDue : Bool
  frozen : Bool
deriving DecidableEq, Repr

/-! ### The link and the configuration (spec 11) -/

/-- The receive assembler (R201): in a frame, the bytes received so far, the start byte first. -/
inductive Assembler where
  | hunting
  | inFrame (bytes : List Byte)
deriving DecidableEq, Repr

/-- A reply: its kind, its tag and its payload, of which the first byte is the status (R209). -/
structure Reply where
  kind : Byte
  tag : Byte
  payload : List Byte
deriving DecidableEq, Repr

/-- The receive line as the receiver has seen it last (R199, R208): at mark; at space with a character held back, by its 8
data bits; or at space with none, after a break. -/
inductive ReceiveLine where
  | mark
  | heldBack (value : Byte)
  | space
deriving DecidableEq, Repr

/-- The Link Port: the gap timer holds the master-clock periods left. -/
structure LinkPort where
  assembler : Assembler
  gapTimer : Option Nat
  replies : List Reply
  line : ReceiveLine
deriving DecidableEq, Repr

/-- The configuration fields (R210). -/
structure Configuration where
  scanDivisor : Nat
  tickDivisor : Nat
  debounceCount : Nat
  holdLimit : Nat
  idleLimit : Nat
  nudgeLimit : Nat
  tryLimit : Nat
  letterMissLimit : Nat
  repeatLimit : Nat
  reinsertGap : Nat
  refillMark : Nat
  refillTarget : Nat
  masteryStreak : Nat
  logThreshold : Nat
deriving DecidableEq, Repr

/-! ### The whole part -/

/-- The state of the ES212, and the commands that wait. -/
structure State where
  /-- The reset pin is at its active level (R216). -/
  resetHeld : Bool
  lp : LinkPort
  cfg : Configuration
  tb : Timebase
  ks : KeyScanner
  wt : List Slot
  ps : WordQueues
  ae : Pair Context
  dc : DuelRecord
  rl : ResultLog
  au : Attention
  se : Speech
  cs : ClipStore
  fb : FaultBanks
  /-- The waiting commands, first in first out. -/
  pending : List Instr
deriving DecidableEq, Repr

/-! ### Reset values -/

/-- A row record after a reset of it (R114). -/
def RowRecord.fresh : RowRecord :=
  { stable := .idle, candidate := .idle, streak := 0, holdCount := 0, alerted := false, due := false }

/-- A seat record after power-on (R135, R216): EMPTY, with the settle timer started from the sense line,
which shows no keyboard (assumption 1). -/
def SeatRecord.fresh : SeatRecord :=
  { state := .empty, faultCause := none, faultRow := none, identity := none, mapSlot := none,
    readFailures := 0, idleRun := 0, scansCounted := 0, lastBusyRow := none,
    senseLine := false, settled := false, settleTimer := some Config.settlePeriods,
    rows := List.replicate 8 RowRecord.fresh, keys := [], holdRows := 0, chordRows := 0 }

/-- An empty key map slot (R122). -/
def KeyMap.fresh : KeyMap := { tag := 0, entries := List.replicate 56 .unused }

/-- An attempt context after power-on (R24). -/
def Context.fresh : Context :=
  { mode := .off, style := .letterwise, echo := false, bargeIn := false, sentence := false,
    state := .idle, pauseCause := none, target := none, copy := none, typed := [], cursor := 0,
    wrongHere := 0, wrongTotal := 0, autofills := 0, tries := 0, hints := 0, repeats := 0, nudges := 0,
    keys := 0, lastMistake := none, startTick := none, elapsed := 0, idleTimer := 0,
    idleRunning := false, firm := none, pendingRecord := none, stopMarked := false }

/-- A seat's part of the duel record after a reset (R74). -/
def SeatRound.fresh : SeatRound :=
  { status := none, lateCorrect := false, record := .notBuilt, ended := none }

/-- The duel record after a reset (R74). -/
def DuelRecord.fresh : DuelRecord :=
  { state := .off, echo := false, sentence := false, total := 0, round := 0, scores := ⟨0, 0⟩,
    target := none, copy := none, seats := ⟨SeatRound.fresh, SeatRound.fresh⟩, winner := none,
    mistake := none, result := none, update := none, duelWinner := none, finish := none, firm := none,
    judgements := ⟨none, none⟩ }

/-- The default configuration (R210). -/
def Configuration.fresh : Configuration :=
  { scanDivisor := 12000, tickDivisor := 10, debounceCount := 3, holdLimit := 300, idleLimit := 800,
    nudgeLimit := 2, tryLimit := 2, letterMissLimit := 3, repeatLimit := 3, reinsertGap := 2,
    refillMark := 2, refillTarget := 6, masteryStreak := 3, logThreshold := 8 }

/-- The Speech Engine after power-on (R169). -/
def Speech.fresh : Speech :=
  { seatQueue := ⟨[], []⟩, duelQueue := [], announceQueue := [], v0 := none, v1 := none,
    lastHandle := 0, startOrder := [.seat .a, .seat .b, .duel], lastAnnounce := none,
    routes := ⟨.phones, .phones⟩, volumeA := 10, volumeB := 10, volumeSpeaker := 8,
    cues := List.replicate 8 none, letters := List.replicate 27 none }

/-- The Clip Store after power-on, with no byte written yet (R185, assumption 2). -/
def ClipStore.fresh : ClipStore :=
  { directory := List.replicate 160 none, blocks := List.replicate 384 none, verify := none,
    bytes := [], parity := [] }

/-- The Fault Banks after power-on: no record, every code enabled, NORMAL (R198). -/
def FaultBanks.fresh : FaultBanks :=
  { link := ⟨none, 0x000E⟩, scan := ⟨none, 0x01F0⟩, audio := ⟨none, 0x0600⟩, lesson := ⟨none, 0x1800⟩,
    condition := .normal, holdDue := false, lockdownDue := false, frozen := false }

/-- The part right after the reset pin is released (R216), with no command waiting. -/
def State.reset : State :=
  { resetHeld := false
    lp := { assembler := .hunting, gapTimer := none, replies := [], line := .mark }
    cfg := Configuration.fresh
    tb := { generator := .stopped, divisorInUse := 10, count := 0, counter := 0 }
    ks := { seats := ⟨SeatRecord.fresh, SeatRecord.fresh⟩, map0 := KeyMap.fresh, map1 := KeyMap.fresh,
            scan := none }
    wt := List.replicate 96 .empty
    ps := { practice := ⟨[], []⟩, duel := [] }
    ae := ⟨Context.fresh, Context.fresh⟩
    dc := DuelRecord.fresh
    rl := { records := [], counter := 0, waiting := [], threshold := false }
    au := { raised := 0, enabled := 0 }
    se := Speech.fresh
    cs := ClipStore.fresh
    fb := FaultBanks.fresh
    pending := [] }

end Sys2Proof.Machine
end

