-- ==== Sys2Proof/Machine/Ops.lean ====
section
/-! DEFINITION. Named operations over the state's pieces: a seat's share of a pair, contexts and seat
records, lists by index, the clip bytes as memory, saturating and wrapping counts, and the two check
computations of R124 and R176. -/

namespace Sys2Proof

/-- The other seat (spec 00, "Seats"). -/
def Seat.other : Seat → Seat
  | .a => .b
  | .b => .a

namespace Machine

/-! ### Pairs -/

/-- The value of a seat. -/
def Pair.get (p : Pair α) : Seat → α
  | .a => p.a
  | .b => p.b

/-- Replaces the value of a seat. -/
def Pair.set (p : Pair α) (x : Seat) (v : α) : Pair α :=
  match x with
  | .a => { p with a := v }
  | .b => { p with b := v }

/-! ### Counts -/

/-- Adds 1 to a count that saturates at `top` (spec 00, "Saturation and wrap"). -/
def satSucc (top n : Nat) : Nat := min (n + 1) top

/-- Adds 1 to a count that wraps after 65535. -/
def wrapSucc (n : Nat) : Nat := (n + 1) % 65536

/-! ### State accessors by seat -/

/-- The attempt context of a seat. -/
def State.ctx (s : State) (x : Seat) : Context := s.ae.get x

/-- Replaces the attempt context of a seat. -/
def State.setCtx (s : State) (x : Seat) (c : Context) : State := { s with ae := s.ae.set x c }

/-- The seat record of a seat. -/
def State.seat (s : State) (x : Seat) : SeatRecord := s.ks.seats.get x

/-- Replaces the seat record of a seat. -/
def State.setSeat (s : State) (x : Seat) (r : SeatRecord) : State :=
  { s with ks := { s.ks with seats := s.ks.seats.set x r } }

/-- A seat's part of the duel record. -/
def State.round (s : State) (x : Seat) : SeatRound := s.dc.seats.get x

/-- Replaces a seat's part of the duel record. -/
def State.setRound (s : State) (x : Seat) (r : SeatRound) : State :=
  { s with dc := { s.dc with seats := s.dc.seats.set x r } }

/-- A submission of the seat is in flight (R23, R80). -/
def State.inFlight (s : State) (x : Seat) : Bool := (s.dc.judgements.get x).isSome

/-- The seat's wait stamp: its place in RL's waiting line, counted from 1 (R98). -/
def State.waitStamp (s : State) (x : Seat) : Option Nat :=
  (s.rl.waiting.idxOf? x).map (· + 1)

/-- The duel is running (R73). -/
def State.duelRuns (s : State) : Bool :=
  match s.dc.state with
  | .presenting | .racing | .settling => true
  | .off | .finished => false

/-! ### Word slots -/

/-- The slot with a number; numbers above 95 name no slot and read as EMPTY. -/
def State.slot (s : State) (n : Nat) : Slot := s.wt.getD n .empty

/-- Replaces a slot. -/
def State.setSlot (s : State) (n : Nat) (v : Slot) : State := { s with wt := s.wt.set n v }

/-- The entry of an OCCUPIED slot. -/
def State.entry (s : State) (n : Nat) : Option WordEntry :=
  match s.slot n with
  | .occupied e _ => some e
  | .empty | .damaged => none

/-! ### The clip directory -/

/-- The directory entry of a clip id; id 0 and ids above 160 have none. -/
def State.clip (s : State) (id : Nat) : Option Clip :=
  match id with
  | 0 => none
  | k + 1 => s.cs.directory.getD k none

/-- Replaces the directory entry of a clip id from 1 to 160. -/
def State.setClip (s : State) (id : Nat) (c : Option Clip) : State :=
  match id with
  | 0 => s
  | k + 1 => { s with cs := { s.cs with directory := s.cs.directory.set k c } }

/-- The clip is READY (R29, R148). -/
def State.clipReady (s : State) (id : Nat) : Bool :=
  match s.clip id with
  | some c => c.state == .ready
  | none => false

/-! ### Clip bytes (R170, R174)

A list of address and byte pairs, addresses rising, no entry equal to 0, which is what an unlisted address
reads as (assumption 2). -/

namespace Memory

/-- The canonical form, for entries at or above `low`. -/
def wfFrom : Nat → List Host.Cell → Bool
  | _, [] => true
  | low, (a, v) :: rest => decide (low ≤ a) && v != 0 && wfFrom (a + 1) rest

/-- The canonical form: addresses strictly rising, no entry equal to the unlisted value. -/
def wf (m : List Host.Cell) : Bool := wfFrom 0 m

/-- The byte at an address. -/
def read : List Host.Cell → Nat → Byte
  | [], _ => 0
  | (b, v) :: rest, a => if b = a then v else read rest a

/-- Writes one byte, keeping the canonical form. -/
def write : List Host.Cell → Nat → Byte → List Host.Cell
  | [], a, v => if v = 0 then [] else [(a, v)]
  | (b, w) :: rest, a, v =>
    if a < b then (if v = 0 then (b, w) :: rest else (a, v) :: (b, w) :: rest)
    else if a = b then (if v = 0 then rest else (a, v) :: rest)
    else (b, w) :: write rest a v

/-- Writes bytes at consecutive addresses. -/
def writeAll (m : List Host.Cell) (a : Nat) : List Byte → List Host.Cell
  | [] => m
  | v :: vs => writeAll (write m a v) (a + 1) vs

end Memory

/-- The parity mark stored with a byte: 1 when the byte has an odd number of 1 bits (assumption 10). -/
def parityMark (v : Byte) : Byte :=
  let ones := (List.range 8).countP fun i => v.getLsbD i
  BitVec.ofNat 8 (ones % 2)

/-- The address of a clip's byte at an offset (R170). -/
def Clip.address (c : Clip) (offset : Nat) : Nat := c.firstBlock * Config.blockBytes + offset

/-- A clip's byte at an offset. -/
def State.clipByte (s : State) (c : Clip) (offset : Nat) : Byte := Memory.read s.cs.bytes (c.address offset)

/-! ### Check computations -/

/-- One bit into the 16-bit CRC register (R176, steps 1 to 3). -/
def crcBit (r : BitVec 16) (b : Bool) : BitVec 16 :=
  if (r.getLsbD 0) ^^ b then (r >>> 1) ^^^ 0x8408#16 else r >>> 1

/-- One byte into the CRC register, least significant bit first (R176). -/
def crcByte (r : BitVec 16) (v : Byte) : BitVec 16 :=
  (List.range 8).foldl (fun r i => crcBit r (v.getLsbD i)) r

/-- The CRC of some bytes (R176, R200): the register starts with every bit set and is inverted at the end. -/
def crc16 (bytes : List Byte) : BitVec 16 := ~~~(bytes.foldl crcByte 0xFFFF#16)

/-- One bit into the 8-bit check register of a keyboard's identity (R124, steps 1 to 3). -/
def checkBit (r : Byte) (b : Bool) : Byte :=
  if (r.getLsbD 7) ^^ b then (r <<< 1) ^^^ 7#8 else r <<< 1

/-- The check byte KS computes from kind and serial, each least significant bit first (R124). -/
def identityCheck (kind : Byte) (serial : BitVec 24) : Byte :=
  let afterKind := (List.range 8).foldl (fun r i => checkBit r (kind.getLsbD i)) 0#8
  (List.range 24).foldl (fun r i => checkBit r (serial.getLsbD i)) afterKind

/-! ### Numbers on the link -/

/-- A number as two bytes, low byte first (R199). -/
def lowFirst (n : Nat) : List Byte := [byte n, byte (n / 256)]

/-- A number below 2^24 as three bytes, low byte first. -/
def lowFirst3 (n : Nat) : List Byte := [byte n, byte (n / 256), byte (n / 65536)]

/-- Bytes padded at the end to a length. -/
def padTo (n : Nat) (fill : Byte) (bs : List Byte) : List Byte :=
  (bs ++ List.replicate (n - bs.length) fill).take n

end Machine
end Sys2Proof
end

