-- ==== Sys2Proof/Machine/Operands.lean ====
section
/-! DEFINITION. The codes in which enumerated arguments and fields cross the link (R218, R209, R212): from an
argument byte to what it names, absent when the table assigns it nothing, and from a field to its code. -/

namespace Sys2Proof.Machine

/-! ### Status codes (R209) -/

/-- The statuses of a reply. -/
inductive Status where
  | ok
  | accepted
  | badCrc
  | badKind
  | badLength
  | badField
  | wrongState
  | busy
  | seatBusy
  | inUse
  | full
  | notFound
  | duplicate
  | noSpace
  | noClip
  | locked
deriving DecidableEq, Repr

/-- The status byte. -/
def Status.code : Status → Byte
  | .ok => 0x00
  | .accepted => 0x01
  | .badCrc => 0x02
  | .badKind => 0x03
  | .badLength => 0x04
  | .badField => 0x05
  | .wrongState => 0x06
  | .busy => 0x07
  | .seatBusy => 0x08
  | .inUse => 0x09
  | .full => 0x0A
  | .notFound => 0x0B
  | .duplicate => 0x0C
  | .noSpace => 0x0D
  | .noClip => 0x0E
  | .locked => 0x0F

/-! ### Arguments -/

/-- seat: 0 A, 1 B. -/
def seatOf (v : Byte) : Option Seat :=
  match v.toNat with
  | 0 => some .a
  | 1 => some .b
  | _ => none

/-- The three word queues. -/
inductive WordQueue where
  | practice (x : Seat)
  | duel
deriving DecidableEq, Repr

/-- queue: 0 practice queue A, 1 practice queue B, 2 duel queue. -/
def queueOf (v : Byte) : Option WordQueue :=
  match v.toNat with
  | 0 => some (.practice .a)
  | 1 => some (.practice .b)
  | 2 => some .duel
  | _ => none

/-- position: 0 FRONT (yes), 1 BACK (no). -/
def frontOf (v : Byte) : Option Bool :=
  match v.toNat with
  | 0 => some true
  | 1 => some false
  | _ => none

/-- style: 0 LETTERWISE, 1 WORDWISE. -/
def styleOf (v : Byte) : Option Style :=
  match v.toNat with
  | 0 => some .letterwise
  | 1 => some .wordwise
  | _ => none

/-- owner: 1 SEAT_A, 2 SEAT_B, 3 BOTH. -/
def ownerOf (v : Byte) : Option Owner :=
  match v.toNat with
  | 1 => some .seatA
  | 2 => some .seatB
  | 3 => some .both
  | _ => none

/-- key code: 0 NONE, 1 to 27 LETTER, 28 ENTER, 29 BACK, 30 REPEAT, 31 HINT. -/
def keyOf (v : Byte) : Option KeyCode :=
  let n := v.toNat
  if n = 0 then some .unused
  else if n ≤ Config.letters then some (.letter n)
  else if n = 28 then some .enter
  else if n = 29 then some .back
  else if n = 30 then some .again
  else if n = 31 then some .hint
  else none

/-- route setting: 0 PHONES, 1 SPEAKER. -/
def settingOf (v : Byte) : Option RouteSetting :=
  match v.toNat with
  | 0 => some .phones
  | 1 => some .speaker
  | _ => none

/-- channel: 0 PHONES_A, 1 PHONES_B, 2 SPEAKER. -/
def channelOf (v : Byte) : Option Channel :=
  match v.toNat with
  | 0 => some .phonesA
  | 1 => some .phonesB
  | 2 => some .speaker
  | _ => none

/-- The number of a channel. -/
def Channel.number : Channel → Nat
  | .phonesA => 0
  | .phonesB => 1
  | .speaker => 2

/-- route: bit c for each channel c; empty and any other bit are refused (R162). -/
def routeOf (v : Byte) : Option (BitVec 3) :=
  if v.toNat = 0 ∨ v.toNat > 7 then none else some (v.setWidth 3)

/-- format: 0 U8, 1 S16. -/
def formatOf (v : Byte) : Option Format :=
  match v.toNat with
  | 0 => some .u8
  | 1 => some .s16
  | _ => none

/-- rate: 0 8000, 1 11025, 2 16000. -/
def rateOf (v : Byte) : Option Nat :=
  match v.toNat with
  | 0 => some 8000
  | 1 => some 11025
  | 2 => some 16000
  | _ => none

/-- bank: 0 LINK, 1 SCAN, 2 AUDIO, 3 LESSON. -/
def bankOf (v : Byte) : Option Bank :=
  match v.toNat with
  | 0 => some .link
  | 1 => some .scan
  | 2 => some .audio
  | 3 => some .lesson
  | _ => none

/-- A clip id argument: 1 to 160. -/
def clipIdOf (v : Byte) : Option Nat :=
  if v.toNat = 0 ∨ v.toNat > Config.clips then none else some v.toNat

/-- A clip id of a table or an entry, where 0 stands for absent (R217); above 160 it is no clip id. -/
def clipRefOf (v : Byte) : Option (Option Nat) :=
  if v.toNat > Config.clips then none
  else if v.toNat = 0 then some none
  else some (some v.toNat)

/-- A letter of a mistake code: 1 to 27, or 0 for absent. -/
def letterRefOf (v : Byte) : Option (Option Nat) :=
  if v.toNat > Config.letters then none
  else if v.toNat = 0 then some none
  else some (some v.toNat)

/-- The kind of a mistake code: 1 to 6. -/
def mistakeKindOf : Nat → Option MistakeKind
  | 1 => some .substitution
  | 2 => some .transposition
  | 3 => some .omission
  | 4 => some .insertion
  | 5 => some .doubling
  | 6 => some .general
  | _ => none

/-- The last mistake of PUT_WORD (R5, R218): kind 0 is an absent code whose other bytes are ignored, bits 4
to 7 of the first byte are ignored. -/
def mistakeOf (kind position expected typed : Byte) : Option (Option MistakeCode) :=
  let k := kind.toNat % 16
  if k = 0 then some none
  else match mistakeKindOf k, letterRefOf expected, letterRefOf typed with
    | some mk, some e, some t =>
      if position.toNat ≤ 16 then some (some { kind := mk, position := position.toNat, expected := e, typed := t })
      else none
    | _, _, _ => none

/-! ### Fields of replies -/

/-- A clip id or a handle or a letter, 0 for absent. -/
def orZero : Option Nat → Nat
  | some n => n
  | none => 0

/-- A slot or a row, 255 for absent. -/
def or255 : Option Nat → Nat
  | some n => n
  | none => 255

/-- Seat codes. -/
def seatCode : Seat → Nat
  | .a => 0
  | .b => 1

/-- Owner codes. -/
def ownerCode : Owner → Nat
  | .seatA => 1
  | .seatB => 2
  | .both => 3

/-- Style codes. -/
def styleCode : Style → Nat
  | .letterwise => 0
  | .wordwise => 1

/-- Mode codes of the READ_ATTEMPT reply. -/
def modeCode : Mode → Nat
  | .off => 0
  | .solo => 1
  | .duel => 2

/-- Context state codes (R212). -/
def contextStateCode : ContextState → Nat
  | .idle => 0
  | .prompting => 1
  | .typing => 2
  | .feedback => 3
  | .waitingLog => 4
  | .paused => 5
  | .done => 6

/-- Pause cause codes, 0 for absent. -/
def pauseCode : Option PauseCause → Nat
  | none => 0
  | some .host => 1
  | some .hold => 2

/-- Seat state codes (R212). -/
def seatStateCode : SeatState → Nat
  | .empty => 0
  | .identifying => 1
  | .checking => 2
  | .ready => 3
  | .faulted => 4

/-- Fault causes of a seat, 0 for absent. -/
def seatFaultCode : Option SeatFault → Nat
  | none => 0
  | some .idCheck => 1
  | some .noId => 2
  | some .unknownKind => 3
  | some .ladder => 4

/-- Duel state codes (R212). -/
def duelStateCode : DuelState → Nat
  | .off => 0
  | .presenting => 1
  | .racing => 2
  | .settling => 3
  | .finished => 4

/-- Seat statuses of a round, 0 for absent. -/
def seatStatusCode : Option SeatStatus → Nat
  | none => 0
  | some .typing => 1
  | some .out => 2
  | some .solved => 3
  | some .beaten => 4
  | some .gone => 5

/-- A winner, 0 for absent. -/
def winnerCode : Option Seat → Nat
  | none => 0
  | some .a => 1
  | some .b => 2

/-- Finish reasons, 0 for absent. -/
def finishCode : Option FinishReason → Nat
  | none => 0
  | some .rounds => 1
  | some .noWords => 2
  | some .forfeitA => 3
  | some .forfeitB => 4
  | some .stopped => 5

/-- Round results, 0 for absent. -/
def roundResultCode : Option RoundResult → Nat
  | none => 0
  | some .correct => 1
  | some .helped => 2
  | some .miss => 3
  | some .skipped => 4
  | some .abandoned => 5

/-- Record statuses. -/
def recordStatusCode : RecordStatus → Nat
  | .notBuilt => 0
  | .waiting => 1
  | .inLog => 2

/-- Outcomes of a result record. -/
def outcomeCode : AttemptEnd → Nat
  | .correct => 1
  | .helped => 2
  | .miss => 3
  | .timedOut => 4
  | .skippedHost => 5
  | .skippedNoAudio => 6
  | .abandoned => 7
  | .beaten => 8

/-- Requester codes of the READ_SPEECH reply. -/
def requesterCode : Requester → Nat
  | .seat .a => 0
  | .seat .b => 1
  | .duel => 2
  | .announce => 3

/-- Class codes of the READ_SPEECH reply. -/
def classCode : SpeechClass → Nat
  | .announce => 0
  | .feedback => 1
  | .prompt => 2
  | .cue => 3
  | .echo => 4

/-- End status codes of the READ_SPEECH reply. -/
def endStatusCode : EndStatus → Nat
  | .done => 0
  | .cancelled => 1
  | .evicted => 2
  | .failed => 3

/-- Route setting codes. -/
def settingCode : RouteSetting → Nat
  | .phones => 0
  | .speaker => 1

/-- Clip state codes of the CLIP_STATUS reply. -/
def clipStateCode : Option Clip → Nat
  | none => 0
  | some c => match c.state with
    | .loading => 1
    | .verifying => 2
    | .ready => 3
    | .bad => 4
    | .retiring => 5

/-- Format codes. -/
def formatCode : Format → Nat
  | .u8 => 0
  | .s16 => 1

/-- Rate codes. -/
def rateCode (rate : Nat) : Nat := if rate = 8000 then 0 else if rate = 11025 then 1 else 2

/-- Bad cause codes, 0 for absent. -/
def badCauseCode : Option BadCause → Nat
  | none => 0
  | some .verifyMismatch => 1
  | some .parity => 2

/-- Part condition codes (R212). -/
def conditionCode : Condition → Nat
  | .normal => 0
  | .hold => 1
  | .lockdown => 2

/-- Bank codes. -/
def bankCode : Bank → Nat
  | .link => 0
  | .scan => 1
  | .audio => 2
  | .lesson => 3

/-- Fault code numbers, which are their bits in a fault code set (R218). -/
def FaultCode.number : FaultCode → Nat
  | .frameCrc => 1
  | .frameGap => 2
  | .overrun => 3
  | .keyOverrun => 4
  | .scanOverrun => 5
  | .idCheck => 6
  | .noId => 7
  | .converterTimeout => 8
  | .clipParity => 9
  | .verifyMismatch => 10
  | .noAudio => 11
  | .tableParity => 12

/-- The bit of a cause in a cause set (R218). -/
def Cause.number : Cause → Nat
  | .seatChange .a => 0
  | .seatChange .b => 1
  | .seatDone .a => 2
  | .seatDone .b => 3
  | .duelEnd => 4
  | .logThreshold => 5
  | .logFull => 6
  | .clipDone => 7
  | .clipFreed => 8
  | .fault => 9
  | .alert => 10

/-! ### Records of replies -/

/-- The letter class of a mistake code, from its expected letter (R60), in the codes of the mistake code
layout: 0 NONE, 1 VOWEL, 2 CONSONANT, 3 MARK. -/
def letterClass : Option Nat → Nat
  | none => 0
  | some n => if n = 27 then 3 else if n = 1 ∨ n = 5 ∨ n = 9 ∨ n = 15 ∨ n = 21 then 1 else 2

/-- Mistake kind codes. -/
def mistakeKindCode : MistakeKind → Nat
  | .substitution => 1
  | .transposition => 2
  | .omission => 3
  | .insertion => 4
  | .doubling => 5
  | .general => 6

/-- A mistake code on the link, with its derived class; an absent code is four zeros. -/
def mistakeBytes : Option MistakeCode → List Byte
  | none => [0, 0, 0, 0]
  | some m => [byte (mistakeKindCode m.kind + 16 * letterClass m.expected), byte m.position,
      byte (orZero m.expected), byte (orZero m.typed)]

/-- The word entry layout, 34 bytes. -/
def wordBytes (slot : Nat) (e : WordEntry) : List Byte :=
  [byte slot] ++ lowFirst e.wordId ++ [byte (ownerCode e.owner), byte e.spelling.length] ++
  padTo 16 0 (e.spelling.map byte) ++
  [byte e.wordClip, byte (orZero e.sentenceClip), byte (orZero e.hintClip), byte e.box, byte e.streak,
    byte e.attempts, byte e.misses, byte e.rest, byte (bit e.mastered)] ++ mistakeBytes e.lastMistake

/-- Bytes 2 to 18 of the result record layout, which is how a pending record is sent. -/
def recordBody (r : ResultRecord) : List Byte :=
  [byte (seatCode r.seat + 2 * styleCode r.style + 4 * bit r.duel + 8 * bit r.won + 16 * bit r.lateCorrect +
      32 * bit r.masteredNow), byte r.round] ++ lowFirst r.wordId ++
  [byte (outcomeCode r.outcome), byte r.tries, byte r.wrongTotal, byte r.hints, byte r.keys] ++
  lowFirst r.duration ++ [byte r.boxBefore, byte r.boxAfter] ++ mistakeBytes r.mistake

/-- The result record layout, 19 bytes. -/
def recordBytes (r : ResultRecord) : List Byte := lowFirst (orZero r.number) ++ recordBody r

/-- The identity layout, 5 bytes; an absent identity is zeros. -/
def identityBytes : Option Identity → List Byte
  | none => [0, 0, 0, 0, 0]
  | some i => [i.kind] ++ lowFirst3 i.serial.toNat ++ [i.check]

/-- Context kind and value of a fault record. -/
def faultContextCode : FaultContext → Nat × Nat
  | .nothing => (0, 0)
  | .seat x => (1, seatCode x)
  | .clip id => (2, id)
  | .slot n => (3, n)

/-- The bank and severity of a fault code (R187): whether it is DISRUPTIVE. -/
def FaultCode.disruptive : FaultCode → Bool
  | .converterTimeout | .clipParity | .tableParity => true
  | .frameCrc | .frameGap | .overrun | .keyOverrun | .scanOverrun | .idCheck | .noId | .verifyMismatch
  | .noAudio => false

/-- The fault record layout, 8 bytes. -/
def faultBytes (b : Bank) : Option HeldFault → List Byte
  | none => [byte (bankCode b), 0, 0, 0, 0, 0, 0, 0]
  | some f => [byte (bankCode b), byte (1 + 2 * bit f.overflow), byte f.code.number,
      byte (bit f.code.disruptive + 2 * bit f.enabled + 4 * bit (f.resumable == some true)),
      byte (faultContextCode f.context).1, byte (faultContextCode f.context).2] ++ lowFirst f.detail

end Sys2Proof.Machine
end

