-- ==== Sys2Proof/Machine/Flags.lean ====
section
/-! DEFINITION. Flags the blocks raise: attention causes and the attention line (R104, R107), the ready line
(R207), the threshold flag's cause (R101), and recording a fault with its effect on the part condition (R188,
R190, R194). -/

namespace Sys2Proof.Machine

/-- Raising a cause adds it to the pending set (R104). -/
def State.raise (s : State) (c : Cause) : State :=
  { s with au := { s.au with raised := s.au.raised ||| (1#16 <<< c.number) } }

/-- The cause is pending. -/
def State.isPending (s : State) (c : Cause) : Bool := s.au.raised.getLsbD c.number

/-- AU asserts the attention line while a cause is both pending and enabled (R107); it is released while the
reset pin is held (R216). -/
def State.attentionAsserted (s : State) : Bool := !s.resetHeld && (s.au.raised &&& s.au.enabled) != 0

/-- The ready line is high while the reply queue holds 0, 1 or 2 replies (R207), and low while the reset pin
is held (R216). -/
def State.readyHigh (s : State) : Bool := !s.resetHeld && decide (s.lp.replies.length ≤ 2)

/-- The reply the transmitter is sending: the head of the queue (R206); none while the reset pin is held. -/
def State.sending (s : State) : Option Reply := if s.resetHeld then none else s.lp.replies.head?

/-- The level of the transmit line while no character is on it: mark, which it holds while the transmitter has nothing to
send; none while a reply's characters are on it (R199, R208, R216). -/
def State.transmitLevel (s : State) : Option LineLevel := if s.sending.isNone then some .mark else none

/-! ### Banks -/

/-- The bank a code belongs to (R187). -/
def FaultCode.bank : FaultCode → Bank
  | .frameCrc | .frameGap | .overrun => .link
  | .keyOverrun | .scanOverrun | .idCheck | .noId | .converterTimeout => .scan
  | .clipParity | .verifyMismatch => .audio
  | .noAudio | .tableParity => .lesson

/-- A bank of the state. -/
def FaultBanks.bank (f : FaultBanks) : Bank → FaultBank
  | .link => f.link
  | .scan => f.scan
  | .audio => f.audio
  | .lesson => f.lesson

/-- Replaces a bank. -/
def FaultBanks.setBank (f : FaultBanks) (b : Bank) (v : FaultBank) : FaultBanks :=
  match b with
  | .link => { f with link := v }
  | .scan => { f with scan := v }
  | .audio => { f with audio := v }
  | .lesson => { f with lesson := v }

/-- The codes of a bank as a fault code set (R187, R218). -/
def bankCodes : Bank → BitVec 16
  | .link => 0x000E
  | .scan => 0x01F0
  | .audio => 0x0600
  | .lesson => 0x1800

/-- A fault is enabled when its code is in its bank's mask as it arrives (R189). -/
def State.faultEnabled (s : State) (c : FaultCode) : Bool := (s.fb.bank c.bank).mask.getLsbD c.number

/-- The rank of a fault: 2 if DISRUPTIVE, plus 1 if enabled (R188). -/
def faultRank (c : FaultCode) (enabled : Bool) : Nat := 2 * bit c.disruptive + bit enabled

/-- What a bank's record becomes when a fault arrives (R188). -/
def holdFault (held : Option HeldFault) (new : HeldFault) : HeldFault :=
  match held with
  | none => { new with overflow := false }
  | some old =>
    if !old.code.disruptive && decide (faultRank old.code old.enabled < faultRank new.code new.enabled)
    then { new with overflow := true }
    else { old with overflow := true }

/-- How the part condition changes at an enabled disruptive fault, with the entry that follows (R194). -/
def FaultBanks.escalate (f : FaultBanks) : FaultBanks :=
  match f.condition with
  | .normal => { f with condition := .hold, holdDue := true }
  | .hold => { f with condition := .lockdown, lockdownDue := true }
  | .lockdown => f

/-- A fault arrives at its bank: the record (R188), cause FAULT (R190) and the part condition (R194), as one
act. -/
def State.recordFault (s : State) (code : FaultCode) (context : FaultContext) (detail : Nat)
    (resumable : Option Bool) : State :=
  let on := s.faultEnabled code
  let new : HeldFault := ⟨false, code, on, context, detail, resumable⟩
  let old := s.fb.bank code.bank
  let fb := s.fb.setBank code.bank { old with held := some (holdFault old.held new) }
  if on then
    ({ s with fb := if code.disruptive then fb.escalate else fb }).raise .fault
  else { s with fb := fb }

end Sys2Proof.Machine
end

