-- ==== Sys2Proof/Machine/Log.lean ====
section
/-! DEFINITION. The Result Log (spec 05): the threshold flag, appending, and the waiting line. -/

namespace Sys2Proof.Machine

/-- RL evaluates the threshold flag and raises LOG_THRESHOLD when it goes from false to true (R101). -/
def State.evaluateThreshold (s : State) : State :=
  let now := decide (s.cfg.logThreshold < s.rl.records.length)
  let s' := { s with rl := { s.rl with threshold := now } }
  if now && !s.rl.threshold then s'.raise .logThreshold else s'

/-- RL numbers a record and appends it (R96), evaluates the threshold, and raises LOG_FULL at 32 (R97, R102). -/
def State.appendRecord (s : State) (r : ResultRecord) : State :=
  let s1 := { s with rl := { s.rl with
    records := s.rl.records ++ [{ r with number := some s.rl.counter }]
    counter := wrapSucc s.rl.counter } }
  let s2 := s1.evaluateThreshold
  if s2.rl.records.length = Config.logRecords then s2.raise .logFull else s2

/-- RL has room for a record (R97). -/
def State.logHasRoom (s : State) : Bool := decide (s.rl.records.length < Config.logRecords)

/-- A seat whose record finds no room joins the tail of the waiting line and its context enters WAITING_LOG
with the record pending (R97, R98). -/
def State.waitForLog (s : State) (x : Seat) (r : ResultRecord) : State :=
  let s1 := s.setCtx x { s.ctx x with
    pendingRecord := some r, state := .waitingLog, pauseCause := none, idleRunning := false, firm := none }
  { s1 with rl := { s1.rl with waiting := s1.rl.waiting ++ [x] } }

/-- The pending record of the seat with wait stamp 1 is appended and the seat leaves the line (R99 step 2).
Gives the seat appended. -/
def State.appendWaiting (s : State) : State × Option Seat :=
  match s.rl.waiting with
  | [] => (s, none)
  | x :: rest =>
    if s.logHasRoom then
      let s1 := { s with rl := { s.rl with waiting := rest } }
      match (s.ctx x).pendingRecord with
      | some r => ((s1.setCtx x { s1.ctx x with pendingRecord := none }).appendRecord r, some x)
      | none => (s1, some x)
    else (s, none)

/-- The waiting records that fit are appended; gives the seats appended in order (R99 step 2). The line holds
at most two seats. -/
def State.appendAllWaiting (s : State) : State × List Seat :=
  match s.appendWaiting with
  | (s1, none) => (s1, [])
  | (s1, some x) =>
    match s1.appendWaiting with
    | (s2, none) => (s2, [x])
    | (s2, some y) => (s2, [x, y])

end Sys2Proof.Machine
end

