-- ==== Sys2Proof/Machine/Mistakes.lean ====
section
/-! DEFINITION. Mistake analysis (spec 03): a function of the target spelling and what the child typed, with
no state of its own. -/

namespace Sys2Proof.Machine

/-- A mistake code of a kind at a position, with the target's and the typed list's letters there. -/
def mistakeAt (kind : MistakeKind) (p : Nat) (w t : List Nat) : MistakeCode :=
  { kind := kind, position := p, expected := w[p]?, typed := t[p]? }

/-- The positions below both lengths at which the lists differ, in order (R62). -/
def differing (w t : List Nat) : List Nat :=
  (List.range (min w.length t.length)).filter fun p => w[p]? != t[p]?

/-- The smallest position of `long` whose removal gives `short` (R65, R66). -/
def removalAt (long short : List Nat) : Option Nat :=
  (List.range long.length).find? fun i => long.eraseIdx i == short

/-- Test 2: two neighbouring positions whose letters are exchanged (R64). -/
def exchangedAt (w t : List Nat) : Option Nat :=
  match differing w t with
  | [i, j] => if j = i + 1 ∧ t[i]? = w[j]? ∧ t[j]? = w[i]? then some i else none
  | _ => none

/-- Test 5: the first position that differs, or the shorter length when there is none (R67). -/
def generalMistake (w t : List Nat) : MistakeCode :=
  match differing w t with
  | p :: _ => mistakeAt .general p w t
  | [] => mistakeAt .general (min w.length t.length) w t

/-- The extra letter at `i` repeats a letter beside it (R66). -/
def repeatsNeighbour (t : List Nat) (i : Nat) : Bool :=
  (decide (0 < i) && t[i]? == t[i - 1]?) || (decide (i + 1 < t.length) && t[i]? == t[i + 1]?)

/-- The WORDWISE classification of an unequal submission: the five tests in order (R62 to R67). -/
def classifyWord (w t : List Nat) : MistakeCode :=
  if t.length = w.length then
    match differing w t with
    | [p] => mistakeAt .substitution p w t
    | _ =>
      match exchangedAt w t with
      | some i => mistakeAt .transposition i w t
      | none => generalMistake w t
  else if t.length + 1 = w.length then
    match removalAt w t with
    | some i => mistakeAt .omission i w t
    | none => generalMistake w t
  else if t.length = w.length + 1 then
    match removalAt t w with
    | some i => mistakeAt (if repeatsNeighbour t i then .doubling else .insertion) i w t
    | none => generalMistake w t
  else generalMistake w t

/-- The LETTERWISE classification of a wrong letter at the cursor (R68). -/
def classifyLetter (w : List Nat) (c x : Nat) : MistakeCode :=
  let kind : MistakeKind :=
    if w[c + 1]? = some x then .omission
    else if 0 < c ∧ w[c - 1]? = some x then .doubling
    else .substitution
  { kind := kind, position := c, expected := w[c]?, typed := some x }

/-- The position a WORDWISE hint names when there is no last mistake: the first at which typed leaves the
spelling, which is its length when typed is a beginning of the spelling (R39). -/
def firstDeparture : List Nat → List Nat → Nat
  | x :: xs, y :: ys => if x = y then firstDeparture xs ys + 1 else 0
  | _, _ => 0

end Sys2Proof.Machine
end

