-- ==== Sys2Proof/Machine/Clips.lean ====
section
/-! DEFINITION. The Clip Store (spec 09): blocks and allocation, pins and retirement, parity reports, and the
verify unit. -/

namespace Sys2Proof.Machine

/-! ### Blocks (R170, R173) -/

/-- Blocks a clip of some length holds: the length divided by 1,024, rounded up (R171). -/
def blocksFor (length : Nat) : Nat := (length + (Config.blockBytes - 1)) / Config.blockBytes

/-- Blocks `b` to `b + c - 1` lie in the store and are free. -/
def runFree (blocks : List (Option Nat)) (c b : Nat) : Bool :=
  decide (b + c ≤ blocks.length) && ((blocks.drop b).take c).all (·.isNone)

/-- First-fit: the lowest block at which a run of `c` free blocks starts (R173). -/
def firstFit (blocks : List (Option Nat)) (c : Nat) : Option Nat :=
  (List.range blocks.length).find? (runFree blocks c)

/-- Gives the run of `c` blocks from `b` to a clip id. -/
def holdBlocks (blocks : List (Option Nat)) (id b c : Nat) : List (Option Nat) :=
  blocks.mapIdx fun i v => if b ≤ i ∧ i < b + c then some id else v

/-- Frees every block a clip id holds. -/
def freeBlocks (blocks : List (Option Nat)) (id : Nat) : List (Option Nat) :=
  blocks.map fun v => if v = some id then none else v

/-- The number of free blocks. -/
def State.freeCount (s : State) : Nat := s.cs.blocks.countP (·.isNone)

/-- Walks the block map for the longest stretch of free blocks: block number, start and length of the stretch
under way, start and length of the best so far. The first of equally long stretches is kept (R182). -/
def longestFrom : List (Option Nat) → Nat → Nat → Nat → Nat → Nat → Nat × Nat
  | [], _, _, _, bestAt, bestLen => (bestAt, bestLen)
  | some _ :: rest, i, _, _, bestAt, bestLen => longestFrom rest (i + 1) (i + 1) 0 bestAt bestLen
  | none :: rest, i, at', len, bestAt, bestLen =>
    if bestLen < len + 1 then longestFrom rest (i + 1) at' (len + 1) at' (len + 1)
    else longestFrom rest (i + 1) at' (len + 1) bestAt bestLen

/-- First block and length of the longest free stretch (R182); length 0 when no block is free. -/
def longestFree (blocks : List (Option Nat)) : Nat × Nat := longestFrom blocks 0 0 0 0 0

/-- The clip becomes ABSENT and its blocks free (R178, R179). -/
def State.dropClip (s : State) (id : Nat) : State :=
  let s1 := s.setClip id none
  { s1 with cs := { s1.cs with blocks := freeBlocks s1.cs.blocks id } }

/-! ### Pins (R150, R179) -/

/-- Takes one pin on a clip. -/
def State.pin (s : State) (id : Nat) : State :=
  match s.clip id with
  | some c => s.setClip id (some { c with pins := c.pins + 1 })
  | none => s

/-- Releases one pin; the last unpin of a RETIRING clip frees its blocks, makes it ABSENT and raises CLIP_FREED
(R179). -/
def State.unpin (s : State) (id : Nat) : State :=
  match s.clip id with
  | some c =>
    if c.state = .retiring ∧ c.pins ≤ 1 then (s.dropClip id).raise .clipFreed
    else s.setClip id (some { c with pins := c.pins - 1 })
  | none => s

/-- Takes one pin for each reference of a list (R150). -/
def State.pinAll (s : State) (clips : List Nat) : State := clips.foldl State.pin s

/-- Releases one pin for each reference of a list (R150). -/
def State.unpinAll (s : State) (clips : List Nat) : State := clips.foldl State.unpin s

/-! ### Parity and verification (R176, R180) -/

/-- CS acts on a voice's parity report: a READY clip becomes BAD with bad cause PARITY (R180). -/
def State.reportClipParity (s : State) (id : Nat) : State :=
  match s.clip id with
  | some c =>
    if c.state = .ready then s.setClip id (some { c with state := .bad, badCause := some .parity }) else s
  | none => s

/-- The CRC register after the bytes from the offset `from'` on, `k` of them. -/
def State.crcOver (s : State) (c : Clip) (r : BitVec 16) (from' : Nat) : Nat → BitVec 16
  | 0 => r
  | k + 1 => s.crcOver c (crcByte r (s.clipByte c from')) (from' + 1) k

/-- The computed CRC once the verify unit has taken every byte (R176). -/
def State.computedCrc (s : State) (v : Verify) (c : Clip) : BitVec 16 :=
  ~~~(s.crcOver c v.register v.checked (c.length - v.checked))

/-- The verify's completion, as one act (R177). -/
def State.completeVerify (s : State) : State :=
  match s.cs.verify with
  | none => s
  | some v =>
    match s.clip v.clip with
    | none => { s with cs := { s.cs with verify := none } }
    | some c =>
      let crc := s.computedCrc v c
      let good := crc == c.crc
      let s1 := s.setClip v.clip (some (if good then { c with state := .ready }
        else { c with state := .bad, badCause := some .verifyMismatch }))
      let s2 := { s1 with cs := { s1.cs with verify := none } }
      let s3 := if good then s2 else s2.recordFault .verifyMismatch (.clip v.clip) crc.toNat none
      s3.raise .clipDone

end Sys2Proof.Machine
end

