-- ==== Sys2Proof/Machine/SpeechOps.lean ====
section
/-! DEFINITION. The Speech Engine (spec 08): handles, room and eviction, acceptance, the arbiter's choice,
starting and cancelling utterances, and the samples on the output channels. -/

namespace Sys2Proof.Machine

/-! ### Routes (R151) -/

/-- The route that is one channel alone. -/
def Channel.route (c : Channel) : BitVec 3 := 1#3 <<< c.number

/-- A seat's own headphone channel. -/
def seatPhones : Seat → Channel
  | .a => .phonesA
  | .b => .phonesB

/-- A seat's route, from its setting (R151). -/
def State.seatRoute (s : State) (x : Seat) : BitVec 3 :=
  match s.se.routes.get x with
  | .phones => (seatPhones x).route
  | .speaker => Channel.speaker.route

/-- The route of seat and duel utterances as the settings stand (R151). -/
def State.routeOf (s : State) : Requester → BitVec 3
  | .seat x => s.seatRoute x
  | .duel => s.seatRoute .a ||| s.seatRoute .b
  | .announce => 0

/-- Two routes share a channel. -/
def shareChannel (r q : BitVec 3) : Bool := (r &&& q) != 0

/-! ### Queues and voices -/

/-- The waiting utterances of a requester, head first (R147). -/
def State.speechQueue (s : State) : Requester → List Utterance
  | .seat x => s.se.seatQueue.get x
  | .duel => s.se.duelQueue
  | .announce => s.se.announceQueue

/-- Replaces the waiting utterances of a requester. -/
def State.setSpeechQueue (s : State) (r : Requester) (q : List Utterance) : State :=
  match r with
  | .seat x => { s with se := { s.se with seatQueue := s.se.seatQueue.set x q } }
  | .duel => { s with se := { s.se with duelQueue := q } }
  | .announce => { s with se := { s.se with announceQueue := q } }

/-- What a voice holds. -/
def State.voice (s : State) : Voice → Option Playing
  | .v0 => s.se.v0
  | .v1 => s.se.v1

/-- Replaces what a voice holds. -/
def State.setVoice (s : State) (v : Voice) (p : Option Playing) : State :=
  match v with
  | .v0 => { s with se := { s.se with v0 := p } }
  | .v1 => { s with se := { s.se with v1 := p } }

/-- The other voice. -/
def otherVoice : Voice → Voice
  | .v0 => .v1
  | .v1 => .v0

/-- Every waiting utterance, in the order of R159 step 4. -/
def State.allWaiting (s : State) : List Utterance :=
  s.se.seatQueue.a ++ s.se.seatQueue.b ++ s.se.duelQueue ++ s.se.announceQueue

/-- The utterances playing, V0 first. -/
def State.allPlaying (s : State) : List Utterance :=
  (s.se.v0.toList ++ s.se.v1.toList).map (·.utterance)

/-! ### Handles (R146) -/

/-- The handle is held by a waiting or playing utterance. -/
def State.handleInUse (s : State) (h : Nat) : Bool :=
  (s.allPlaying ++ s.allWaiting).any (·.handle == h)

/-- The handle after another in the cycle 1, 2, …, 255, 1. -/
def nextHandle (h : Nat) : Nat := if h < 255 then h + 1 else 1

/-- The first handle after `h` that is not in use, looking at `fuel` of them. -/
def State.freeHandleFrom (s : State) : Nat → Nat → Nat
  | 0, h => nextHandle h
  | k + 1, h => if s.handleInUse (nextHandle h) then s.freeHandleFrom k (nextHandle h) else nextHandle h

/-- The handle of the next acceptance (R146). -/
def State.freeHandle (s : State) : Nat := s.freeHandleFrom 255 s.se.lastHandle

/-! ### Room in a seat queue (R149) -/

/-- CUE and ECHO utterances may be evicted (R145). -/
def SpeechClass.disposable : SpeechClass → Bool
  | .cue | .echo => true
  | .announce | .feedback | .prompt => false

/-- What R149 does to make room: nothing, evict the oldest entry of some classes, or refuse. -/
inductive Room where
  | free
  | evictEcho
  | evictDisposable
  | full
deriving DecidableEq, Repr

/-- R149's table. -/
def roomFor (cls : SpeechClass) (q : List Utterance) : Room :=
  let echoes := q.countP (·.cls == .echo)
  if cls = .echo then
    if Config.waitingEchoes ≤ echoes then .evictEcho
    else if q.length < Config.seatSpeech then .free
    else if 0 < echoes then .evictEcho
    else .full
  else
    if q.length < Config.seatSpeech then .free
    else if q.any (·.cls.disposable) then .evictDisposable
    else .full

/-- The entry evicted, if any. -/
def Room.victim (r : Room) (q : List Utterance) : Option Utterance :=
  match r with
  | .evictEcho => q.find? (·.cls == .echo)
  | .evictDisposable => q.find? (·.cls.disposable)
  | .free | .full => none

/-- Makes room in a seat queue: the state after any eviction, with the evicted entry's pins released, or `none`
when the new utterance is refused FULL (R149). The evicted entry's owner ignores its end (R30). -/
def State.makeRoom (s : State) (x : Seat) (cls : SpeechClass) : Option State :=
  let q := s.speechQueue (.seat x)
  match roomFor cls q with
  | .full => none
  | r =>
    match r.victim q with
    | some u => some ((s.setSpeechQueue (.seat x) (q.erase u)).unpinAll u.clips)
    | none => some s

/-! ### Acceptance (R148) -/

/-- SE gives a new utterance its handle, pins its clips and appends it to its requester's queue (R148 step 3).
The arbiter acts afterwards. -/
def State.enqueue (s : State) (r : Requester) (cls : SpeechClass) (route : BitVec 3) (clips : List Nat) :
    Nat × State :=
  let h := s.freeHandle
  let u : Utterance := { handle := h, requester := r, cls := cls, route := route, clips := clips }
  let s1 := s.pinAll clips
  let s2 := s1.setSpeechQueue r (s1.speechQueue r ++ [u])
  (h, { s2 with se := { s2.se with lastHandle := h } })

/-- SE decides on an utterance of AE: `none` when it is refused, NO_CLIP or FULL (R148). -/
def State.acceptSeat (s : State) (x : Seat) (cls : SpeechClass) (clips : List Nat) : Option (Nat × State) :=
  if clips.all s.clipReady then
    match s.makeRoom x cls with
    | some s1 => some (s1.enqueue (.seat x) cls (s1.seatRoute x) clips)
    | none => none
  else none

/-- SE decides on an utterance of DC: the duel speech queue always has room (R148). -/
def State.acceptDuel (s : State) (cls : SpeechClass) (clips : List Nat) : Option (Nat × State) :=
  if clips.all s.clipReady then some (s.enqueue .duel cls (s.routeOf .duel) clips) else none

/-! ### The arbiter (R153, R154) -/

/-- The priority of a class, lower first (R153). -/
def SpeechClass.priority : SpeechClass → Nat
  | .announce => 0
  | .feedback => 1
  | .prompt => 2
  | .cue => 3
  | .echo => 4

/-- The place of a requester in the start order; announcements take part in no tie (R154). -/
def State.startPlace (s : State) (r : Requester) : Nat := s.se.startOrder.idxOf r

/-- A head may start on a voice: the other voice is FREE or plays on other channels (R153). -/
def State.eligible (s : State) (v : Voice) (u : Utterance) : Bool :=
  match s.voice (otherVoice v) with
  | none => true
  | some p => !shareChannel u.route p.utterance.route

/-- One head stands before another: by class, then by the start order (R153, R154). -/
def State.startsBefore (s : State) (u w : Utterance) : Bool :=
  decide (u.cls.priority < w.cls.priority) ||
    (decide (u.cls.priority = w.cls.priority) &&
      decide (s.startPlace u.requester < s.startPlace w.requester))

/-- The heads of the four queues. -/
def State.heads (s : State) : List Utterance :=
  (s.se.seatQueue.a.take 1) ++ (s.se.seatQueue.b.take 1) ++ (s.se.duelQueue.take 1) ++
    (s.se.announceQueue.take 1)

/-- The better of the best head so far and another. -/
def State.betterHead (s : State) (best : Option Utterance) (u : Utterance) : Option Utterance :=
  match best with
  | none => some u
  | some w => if s.startsBefore u w then some u else some w

/-- The head the arbiter gives a FREE voice (R153). -/
def State.bestHead (s : State) (v : Voice) : Option Utterance :=
  (s.heads.filter (s.eligible v)).foldl s.betterHead none

/-- The voice the arbiter fills next: V0 if it is FREE, else V1 (R153). -/
def State.voiceToFill (s : State) : Option Voice :=
  if s.se.v0.isNone then some .v0 else if s.se.v1.isNone then some .v1 else none

/-- The clip is BAD, which ends an utterance whose voice comes to it (R155). -/
def State.clipBad (s : State) (id : Nat) : Bool :=
  match s.clip id with
  | some c => c.state == .bad
  | none => false

/-- The arbiter takes a head from its queue and starts it on a voice at clip index 0; the start of a seat's or
the duel's utterance moves its requester to the tail of the start order (R153, R154). -/
def State.startUtterance (s : State) (v : Voice) (u : Utterance) : State :=
  let s1 := s.setSpeechQueue u.requester ((s.speechQueue u.requester).drop 1)
  let s2 := s1.setVoice v (some { utterance := u, index := 0, sample := 0, phase := 0 })
  match u.requester with
  | .announce => s2
  | r => { s2 with se := { s2.se with startOrder := s2.se.startOrder.erase r ++ [r] } }

/-- The utterance on a voice ends: the voice becomes FREE and its pins are released (R156 steps 1 and 2). -/
def State.freeVoice (s : State) (v : Voice) : State :=
  match s.voice v with
  | some p => (s.setVoice v none).unpinAll p.utterance.clips
  | none => s

/-- SE writes the last announcement record (R158). -/
def State.noteAnnouncement (s : State) (h : Nat) (st : EndStatus) : State :=
  { s with se := { s.se with lastAnnounce := some { handle := h, status := st } } }

/-! ### Cancellation (R159) -/

/-- The utterances a cancellation names that are playing or waiting, in the order their ends are reported. -/
def State.named (s : State) (p : Utterance → Bool) : List Utterance :=
  (s.allPlaying ++ s.allWaiting).filter p

/-- The handle of the last announcement among ended utterances. -/
def lastAnnounced (us : List Utterance) : Option Nat :=
  ((us.filter (·.requester == .announce)).getLast?).map (·.handle)

/-- A voice after a cancellation. -/
def keepPlaying (p : Utterance → Bool) : Option Playing → Option Playing
  | some v => if p v.utterance then none else some v
  | none => none

/-- SE carries out a cancellation: voices stop, entries leave, pins go, and an announcement's end is written to the
last announcement record (R159). Owners have dropped the handles, so they ignore the reports (R30). The arbiter
acts afterwards. -/
def State.cancel (s : State) (p : Utterance → Bool) : State :=
  let ended := s.named p
  let s1 := { s with se := { s.se with
    seatQueue := ⟨s.se.seatQueue.a.filter (!p ·), s.se.seatQueue.b.filter (!p ·)⟩
    duelQueue := s.se.duelQueue.filter (!p ·)
    announceQueue := s.se.announceQueue.filter (!p ·)
    v0 := keepPlaying p s.se.v0
    v1 := keepPlaying p s.se.v1 } }
  let s2 := s1.unpinAll (ended.flatMap (·.clips))
  match lastAnnounced ended with
  | some h => s2.noteAnnouncement h .cancelled
  | none => s2

/-- Cancels every utterance of a seat (R160). -/
def State.cancelSeat (s : State) (x : Seat) : State := s.cancel (·.requester == .seat x)

/-- Cancels one utterance by its handle; a handle in no use does nothing (R159). -/
def State.cancelHandle (s : State) (h : Option Nat) : State :=
  match h with
  | some k => s.cancel (·.handle == k)
  | none => s

/-- Cancels every utterance of the two seats and of the duel (R161). -/
def State.cancelLessons (s : State) : State := s.cancel (·.requester != .announce)

/-- Cancels every utterance (R161, R169). -/
def State.cancelAll (s : State) : State := s.cancel fun _ => true

/-! ### Samples (R155, R167) -/

/-- The number of samples of a clip (R155). -/
def Clip.samples (c : Clip) : Nat :=
  match c.format with
  | .u8 => c.length
  | .s16 => c.length / 2

/-- The sample a PLAYING voice presents, as a two's complement value (R167). -/
def State.currentSample (s : State) (p : Playing) : Int :=
  match p.utterance.clips[p.index]? with
  | none => 0
  | some id =>
    match s.clip id with
    | none => 0
    | some c =>
      match c.format with
      | .u8 => ((s.clipByte c p.sample).toNat - 128 : Int) * 256
      | .s16 => (s.clipByte c (2 * p.sample + 1) ++ s.clipByte c (2 * p.sample)).toInt

/-- The volume of a channel (R166). -/
def State.volume (s : State) : Channel → Nat
  | .phonesA => s.se.volumeA
  | .phonesB => s.se.volumeB
  | .speaker => s.se.volumeSpeaker

/-- A sample scaled by a volume: times the volume, divided by 15, rounded toward zero (R167). -/
def scaled (sample : Int) (volume : Nat) : Int := (sample * volume).tdiv 15

/-- A voice's share of a channel. -/
def State.voiceSample (s : State) (c : Channel) : Option Playing → Int
  | none => 0
  | some p => if shareChannel p.utterance.route c.route then scaled (s.currentSample p) (s.volume c) else 0

/-- What an output channel carries: the saturating sum of the voices routed to it (R167). -/
def State.channelSample (s : State) (c : Channel) : Int :=
  max (-32768) (min 32767 (s.voiceSample c s.se.v0 + s.voiceSample c s.se.v1))

end Sys2Proof.Machine
end

