-- ==== Sys2Proof/Machine/Words.lean ====
section
/-! DEFINITION. The Word Table and the Practice Scheduler (spec 01): engagement, presentation reads, rests,
progress updates, refill and reinsertion. -/

namespace Sys2Proof.Machine

/-! ### Engagement (R4) -/

/-- The engagements of a slot (R4). -/
inductive Engagement where
  | none
  | queueA
  | queueB
  | queueDuel
  | targetA
  | targetB
  | targetDuel
deriving DecidableEq, Repr

/-- The engagement GET_WORD reports (R4). The round target, also the target of both contexts, counts once. -/
def State.engagement (s : State) (n : Nat) : Engagement :=
  if s.ps.practice.a.contains n then .queueA
  else if s.ps.practice.b.contains n then .queueB
  else if s.ps.duel.contains n then .queueDuel
  else if s.dc.target = some n then .targetDuel
  else if s.ae.a.target = some n then .targetA
  else if s.ae.b.target = some n then .targetB
  else .none

/-- The slot is engaged (R4). -/
def State.engaged (s : State) (n : Nat) : Bool := s.engagement n != .none

/-- Engagement codes of the GET_WORD reply (R218). -/
def Engagement.code : Engagement → Nat
  | .none => 0
  | .queueA => 1
  | .queueB => 2
  | .queueDuel => 3
  | .targetA => 4
  | .targetB => 5
  | .targetDuel => 6

/-! ### Word queues -/

/-- The entries of a word queue. -/
def State.wordQueue (s : State) : WordQueue → List Nat
  | .practice x => s.ps.practice.get x
  | .duel => s.ps.duel

/-- Replaces the entries of a word queue. -/
def State.setWordQueue (s : State) (q : WordQueue) (l : List Nat) : State :=
  match q with
  | .practice x => { s with ps := { s.ps with practice := s.ps.practice.set x l } }
  | .duel => { s with ps := { s.ps with duel := l } }

/-- The owner a queue is fed from (R10). -/
def WordQueue.owner : WordQueue → Owner
  | .practice .a => .seatA
  | .practice .b => .seatB
  | .duel => .both

/-! ### Reading a target (R3) -/

/-- Presentation read of a slot: the entry if the parity checks, else the slot becomes DAMAGED and
TABLE_PARITY is recorded with the reader's resumable value (R3, R191). -/
def State.readTarget (s : State) (n : Nat) (resumable : Bool) : State × Option WordEntry :=
  match s.slot n with
  | .occupied e true => (s, some e)
  | .occupied _ false =>
    ((s.setSlot n .damaged).recordFault .tableParity (.slot n) 0 (some resumable), none)
  | .empty | .damaged => (s, none)

/-- The copy of an entry a target is judged and spoken from (R23). -/
def WordEntry.copy (e : WordEntry) : TargetCopy :=
  { wordId := e.wordId, spelling := e.spelling, wordClip := e.wordClip, sentenceClip := e.sentenceClip,
    hintClip := e.hintClip, box := e.box }

/-! ### Rests (R12) -/

/-- A slot's rest when slot `n` of an owner becomes a target: 0 for the slot itself, 1 more for each other
unmastered word of the owner (R12). The slot's parity mark stays as it is, the model's choice (assumption 9). -/
def restSlot (n : Nat) (owner : Owner) (i : Nat) : Slot → Slot
  | .occupied e p =>
    if i = n then .occupied { e with rest := 0 } p
    else if e.owner = owner ∧ e.mastered = false then .occupied { e with rest := satSucc 255 e.rest } p
    else .occupied e p
  | .empty => .empty
  | .damaged => .damaged

/-- The rest counts at a presentation (R12). -/
def State.updateRests (s : State) (n : Nat) (owner : Owner) : State :=
  { s with wt := s.wt.mapIdx (restSlot n owner) }

/-! ### Progress (R8, R44) -/

/-- A progress update (R8): last mistake `none` carries "unchanged". -/
structure ProgressUpdate where
  box : Nat
  streak : Nat
  attempts : Nat
  misses : Nat
  mastered : Bool
  lastMistake : Option MistakeCode
deriving DecidableEq, Repr

/-- WT stores an update under the box law (R8). Rest is not part of it. -/
def storeProgress (u : ProgressUpdate) (e : WordEntry) : WordEntry :=
  let box := min u.box 4
  { e with box := box, streak := u.streak, attempts := u.attempts, misses := u.misses,
           mastered := u.mastered && decide (box = 4),
           lastMistake := match u.lastMistake with
             | some m => some m
             | none => e.lastMistake }

/-- WT applies an update to an OCCUPIED slot and discards it otherwise (R8). -/
def State.applyProgress (s : State) (n : Nat) (u : ProgressUpdate) : State :=
  match s.slot n with
  | .occupied e p => s.setSlot n (.occupied (storeProgress u e) p)
  | .empty | .damaged => s

/-- The counted outcomes of an attempt (R43). -/
def AttemptEnd.counted : AttemptEnd → Bool
  | .correct | .helped | .miss | .timedOut => true
  | .skippedHost | .skippedNoAudio | .abandoned | .beaten => false

/-- The update a counted outcome carries, from the slot's current progress (R44). -/
def progressOf (o : AttemptEnd) (masteryStreak : Nat) (mistake : Option MistakeCode) (e : WordEntry) :
    ProgressUpdate :=
  let box := match o with
    | .correct => min (e.box + 1) 4
    | .miss => 0
    | _ => e.box
  let streak := match o with
    | .correct => satSucc 15 e.streak
    | _ => 0
  { box := box
    streak := streak
    attempts := satSucc 255 e.attempts
    misses := match o with
      | .miss => satSucc 255 e.misses
      | _ => e.misses
    mastered := if box = 4 then (if masteryStreak ≤ streak then true else e.mastered) else false
    lastMistake := mistake }

/-! ### Refill (R13 to R15) -/

/-- Candidate for a queue: OCCUPIED, of the owner, not mastered, not engaged (R14). -/
def State.candidate (s : State) (owner : Owner) (n : Nat) : Option WordEntry :=
  match s.entry n with
  | some e => if e.owner = owner ∧ e.mastered = false ∧ s.engaged n = false then some e else none
  | none => none

/-- The choice order: lower box, then higher rest; the lower slot number stands first on equal ones (R14). -/
def chosenBefore (x y : WordEntry) : Bool :=
  decide (x.box < y.box) || (decide (x.box = y.box) && decide (y.rest < x.rest))

/-- The better of the best candidate so far and slot `n`. -/
def State.better (s : State) (owner : Owner) (best : Option (Nat × WordEntry)) (n : Nat) :
    Option (Nat × WordEntry) :=
  match s.candidate owner n, best with
  | none, b => b
  | some e, none => some (n, e)
  | some e, some (k, f) => if chosenBefore e f then some (n, e) else some (k, f)

/-- The candidate the choice order picks (R14). -/
def State.choose (s : State) (owner : Owner) : Option Nat :=
  ((List.range Config.slots).foldl (s.better owner) none).map (·.1)

/-- Draws candidates to the tail of a queue until it holds `limit` or none is left (R13, R14). -/
def State.draw (q : WordQueue) (limit : Nat) : Nat → State → State
  | 0, s => s
  | k + 1, s =>
    if (s.wordQueue q).length < limit then
      match s.choose q.owner with
      | some n => State.draw q limit k (s.setWordQueue q (s.wordQueue q ++ [n]))
      | none => s
    else s

/-- Refill of a practice queue at a refill point (R13). -/
def State.refillSeat (s : State) (x : Seat) : State :=
  if (s.ctx x).mode = .solo ∧ s.cfg.refillMark ≠ 0 ∧ (s.ps.practice.get x).length < s.cfg.refillMark then
    State.draw (.practice x) s.cfg.refillTarget Config.wordQueue s
  else s

/-- Refill of the duel queue at a refill point (R15). -/
def State.refillDuel (s : State) : State :=
  if s.duelRuns = true ∧ s.cfg.refillMark ≠ 0 ∧ s.ps.duel.length < s.cfg.refillMark then
    State.draw .duel (min s.cfg.refillTarget (s.dc.total - s.dc.round)) Config.wordQueue s
  else s

/-! ### Reinsertion (R17) -/

/-- Where an outcome puts the word back: nowhere, at the head, or at the reinsert gap (R17). -/
inductive Reinsert where
  | nowhere
  | front
  | gap
deriving DecidableEq, Repr

/-- Reinsertion of an outcome (R17). BEATEN is decided by the round's result. -/
def AttemptEnd.reinsert : AttemptEnd → Reinsert
  | .miss | .timedOut => .gap
  | .abandoned => .front
  | .correct | .helped | .skippedHost | .skippedNoAudio | .beaten => .nowhere

/-- Reinsertion of a round's result (R17, R84). -/
def RoundResult.reinsert : RoundResult → Reinsert
  | .miss => .gap
  | .abandoned => .front
  | .correct | .helped | .skipped => .nowhere

/-- A queue with a word put back at an index; a full queue first loses its tail entry (R17). -/
def putBack (l : List Nat) (n index : Nat) : List Nat :=
  let l := if l.length < Config.wordQueue then l else l.take (Config.wordQueue - 1)
  l.insertIdx (min index l.length) n

/-- Reinsertion of a slot into a queue; skipped if the slot is no longer OCCUPIED (R16, R17). -/
def State.reinsert (s : State) (q : WordQueue) (n : Nat) (r : Reinsert) : State :=
  match s.entry n, r with
  | none, _ | _, .nowhere => s
  | some _, .front => s.setWordQueue q (putBack (s.wordQueue q) n 0)
  | some _, .gap => s.setWordQueue q (putBack (s.wordQueue q) n s.cfg.reinsertGap)

end Sys2Proof.Machine
end

