-- ==== Sys2Proof/Machine/LessonOps.lean ====
section
/-! DEFINITION. The Attempt Engine in solo practice (spec 02): building utterances, taking and judging keys,
prompts, attempt ends, presentation and the append. An act that leads to further acts gives them as tasks, in
the order in which they follow; Machine/Cascade.lean carries them out. -/

namespace Sys2Proof.Machine

/-- What can follow an act of SE, AE, DC or RL within one step. -/
inductive Task where
  /-- The arbiter acts (R153). -/
  | arbitrate
  /-- SE reports an utterance end to its owner (R158). -/
  | report (r : Requester) (cls : SpeechClass) (handle : Nat) (status : EndStatus)
  /-- AE places a CUE or an ECHO of a seat (R29). -/
  | say (x : Seat) (cls : SpeechClass) (clips : List Nat)
  /-- AE places a firm PROMPT or FEEDBACK of a seat (R30). -/
  | firm (x : Seat) (cls : SpeechClass) (clips : List Nat)
  /-- A prompt or feedback completion of a seat (R33, R46). -/
  | completed (x : Seat) (cls : SpeechClass)
  /-- AE takes keys from the head of a seat's key queue (R26). -/
  | takeKeys (x : Seat)
  /-- A key taken in TYPING is handled (R27). -/
  | judge (x : Seat) (k : KeyCode)
  /-- A solo attempt ends (R43). -/
  | endSolo (x : Seat) (outcome : AttemptEnd)
  /-- A solo context goes to the append (R47). -/
  | append (x : Seat)
  /-- RL has reported the append of a solo context's record (R47). -/
  | goOn (x : Seat)
  /-- A solo context presents its next word (R32). -/
  | present (x : Seat)
  /-- RL has appended a waiting record (R99 step 3). -/
  | appended (x : Seat)
  /-- A solo context leaves PAUSED by its situation (R49, R55). -/
  | resumeSolo (x : Seat)
  /-- CLEAR_HOLD resumes a solo context paused with cause HOLD (R196 step 2). -/
  | resumeHeld (x : Seat)
  /-- KS has reported that a seat left READY (R53, R90). -/
  | seatLost (x : Seat)
  /-- DC places its firm PROMPT or FEEDBACK (R77, R85). -/
  | duelFirm (cls : SpeechClass) (clips : List Nat)
  /-- The completion of DC's firm utterance (R79, R85). -/
  | duelCompleted (cls : SpeechClass)
  /-- DC presents a round (R77). -/
  | presentRound
  /-- DC looks at both seat statuses (R81). -/
  | settleCheck
  /-- A round settles; a silent round or not (R84). -/
  | settle (silent : Bool)
  /-- The round close builds and hands the records (R86). -/
  | closeRound
  /-- DC looks whether both records are in the log (R86). -/
  | afterRecords
  /-- CLEAR_HOLD resumes the running duel (R92). -/
  | resumeDuel
  /-- The hold entry (R195). -/
  | holdEntry
deriving DecidableEq, Repr

/-- A state and what follows. -/
abbrev Act := State × List Task

/-! ### Building utterances (R29) -/

/-- A table entry or an optional clip of the target copy, left out if absent or not READY (R29). -/
def State.built (s : State) : Option Nat → List Nat
  | some id => if s.clipReady id then [id] else []
  | none => []

/-- The place of a cue in the cue table (R164). -/
def Cue.index : Cue → Nat
  | .spell => 0
  | .buzz => 1
  | .bump => 2
  | .chime => 3
  | .tryAgain => 4
  | .theWordIs => 5
  | .aWins => 6
  | .bWins => 7

/-- A cue's clip as it is built into an utterance. -/
def State.cueClips (s : State) (c : Cue) : List Nat := s.built (s.se.cues.getD c.index none)

/-- A letter name's clip as it is built into an utterance (R165). -/
def State.letterClips (s : State) : Option Nat → List Nat
  | some (k + 1) => s.built (s.se.letters.getD k none)
  | _ => []

/-- The presentation prompt: SPELL, the word, the sentence if it is on, the word (R29). -/
def State.promptClips (s : State) (c : TargetCopy) (sentence : Bool) : List Nat :=
  s.cueClips .spell ++ [c.wordClip] ++ (if sentence then s.built c.sentenceClip else []) ++ [c.wordClip]

/-- The spell-out: THE_WORD_IS, the word, the letter names of the spelling (R29, R46). -/
def State.spellOutClips (s : State) (c : TargetCopy) : List Nat :=
  s.cueClips .theWordIs ++ [c.wordClip] ++ c.spelling.flatMap fun l => s.letterClips (some l)

/-- AE asks SE for a cue on a seat's queue. -/
def State.sayCue (s : State) (x : Seat) (c : Cue) : Task := .say x .cue (s.cueClips c)

/-- AE asks SE for the letter name of a target letter, given as help. -/
def State.sayLetter (s : State) (x : Seat) (l : Option Nat) : Task := .say x .cue (s.letterClips l)

/-! ### Prompts (R33, R34, R40) -/

/-- The spelling of the target copy. -/
def Context.spelling (c : Context) : List Nat :=
  match c.copy with
  | some t => t.spelling
  | none => []

/-- The clip of a re-prompt: the word clip as it stands (R29). -/
def Context.rePrompt (c : Context) : List Nat :=
  match c.copy with
  | some t => [t.wordClip]
  | none => []

/-- A prompt completion moves a context in PROMPTING to TYPING: start tick is set if absent and the idle timer
starts at the idle limit, standing still while a submission is in flight (R25, R33). -/
def State.completePrompt (s : State) (x : Seat) : State :=
  let c := s.ctx x
  if c.state = .prompting then
    s.setCtx x { c with
      state := .typing
      startTick := match c.startTick with
        | some t => some t
        | none => some s.tb.counter
      idleTimer := s.cfg.idleLimit
      idleRunning := !s.inFlight x }
  else s

/-- A key cuts the prompt short: SE cancels it, the handle is dropped and the completion of R33 is carried out
(R34 steps 1 and 2). -/
def State.bargeIn (s : State) (x : Seat) : State :=
  let s1 := s.cancelHandle (s.ctx x).firm
  (s1.setCtx x { s1.ctx x with firm := none }).completePrompt x

/-- The re-prompt of the word clip: the idle timer stops and the context enters PROMPTING (R40, R41). The prompt is placed
before queued keys are taken, the model's choice (assumption 36). -/
def State.startRePrompt (s : State) (x : Seat) : Act :=
  let c := s.ctx x
  (s.setCtx x { c with state := .prompting, idleRunning := false }, [.firm x .prompt c.rePrompt, .takeKeys x])

/-! ### Taking keys (R25, R26) -/

/-- What a context does with a key at the head of its queue (R25). -/
inductive KeyTake where
  | keep
  | discard
  | judged
  | cut
deriving DecidableEq, Repr

/-- R25's tables: what happens to the key at the head. -/
def State.keyTake (s : State) (x : Seat) (k : KeyCode) : KeyTake :=
  let c := s.ctx x
  match c.state with
  | .idle | .feedback | .done => .discard
  | .waitingLog | .paused => .keep
  | .typing => if s.inFlight x then .keep else .judged
  | .prompting =>
    if c.mode = .duel then .discard
    else if c.bargeIn = false then .keep
    else if k = .again then .discard
    else .cut

/-- The key queue of a seat without its head. -/
def State.dropKey (s : State) (x : Seat) : State :=
  let r := s.seat x
  s.setSeat x { r with keys := r.keys.drop 1 }

/-- Every key of a seat's queue is taken and discarded, as a state that discards keys does (R25, R26). -/
def State.clearKeys (s : State) (x : Seat) : State := s.setSeat x { s.seat x with keys := [] }

/-- AE takes the key at the head, if the context takes keys, and then the next (R26). -/
def State.takeKey (s : State) (x : Seat) : Act :=
  match (s.seat x).keys with
  | [] => (s, [])
  | k :: _ =>
    match s.keyTake x k with
    | .keep => (s, [])
    | .discard => (s.dropKey x, [.takeKeys x])
    | .judged => (s.dropKey x, [.judge x k, .takeKeys x])
    | .cut => ((s.dropKey x).bargeIn x, [.arbitrate, .judge x k, .takeKeys x])

/-! ### Judging (R35 to R42) -/

/-- The outcome of a finished attempt, from its counts (R42). -/
def Context.finished (c : Context) : AttemptEnd :=
  match c.style with
  | .letterwise =>
    if c.autofills ≠ 0 then .miss
    else if c.wrongTotal = 0 ∧ c.hints = 0 then .correct
    else .helped
  | .wordwise => if c.tries = 1 ∧ c.hints = 0 then .correct else .helped

/-- A consumed key: keys counts it (R27). -/
def State.consumeKey (s : State) (x : Seat) : State :=
  let c := s.ctx x
  s.setCtx x { c with keys := satSucc 255 c.keys }

/-- The idle timer is restarted at the idle limit; with a submission in flight it stands stopped there (R27, R80,
assumption 16). -/
def State.restartIdle (s : State) (x : Seat) : State :=
  s.setCtx x { s.ctx x with idleTimer := s.cfg.idleLimit, idleRunning := !s.inFlight x }

/-- The task ends a solo attempt. -/
def Task.endsAttempt : Task → Bool
  | .endSolo _ _ => true
  | _ => false

/-- The idle timer after a key has been handled: it restarts if the context is still in TYPING, and not if the key ended
the attempt or moved the context to PROMPTING (R27). -/
def afterKey (x : Seat) (a : Act) : Act :=
  if (a.1.ctx x).state = .typing ∧ a.2.any Task.endsAttempt = false then (a.1.restartIdle x, a.2) else a

/-- The cursor moves past a matched or filled-in letter; at the end of the spelling the attempt is finished
(R35). -/
def State.advanceCursor (s : State) (x : Seat) (c : Context) (said : List Task) : Act :=
  let c' := { c with cursor := c.cursor + 1, wrongHere := 0 }
  (s.setCtx x c', if c'.cursor = c.spelling.length then said ++ [.endSolo x c'.finished] else said)

/-- A LETTER key in LETTERWISE style (R35). A cursor at the end of the spelling has no letter to match, and stays there: a
state no run reaches (assumption 28). -/
def State.letterwiseLetter (s : State) (x : Seat) (l : Nat) : Act :=
  let c := s.ctx x
  let w := c.spelling
  if w.length ≤ c.cursor then (s, [])
  else if w[c.cursor]? = some l then
    s.advanceCursor x c (if c.echo then [.say x .echo (s.letterClips (some l))] else [])
  else
    let c1 := { c with wrongHere := c.wrongHere + 1, wrongTotal := satSucc 255 c.wrongTotal,
                       lastMistake := some (classifyLetter w c.cursor l) }
    if s.cfg.letterMissLimit ≤ c1.wrongHere then
      s.advanceCursor x { c1 with autofills := c1.autofills + 1 }
        [s.sayCue x .buzz, s.sayLetter x w[c.cursor]?]
    else (s.setCtx x c1, [s.sayCue x .buzz])

/-- A REPEAT key in either style (R40). -/
def State.repeatKey (s : State) (x : Seat) : Act :=
  let c := s.ctx x
  if c.firm = none ∧ c.repeats < s.cfg.repeatLimit then
    (s.setCtx x { c with repeats := c.repeats + 1 }).startRePrompt x
  else (s, [s.sayCue x .bump])

/-- A HINT key in LETTERWISE style: the letter at the cursor (R36). -/
def State.letterwiseHint (s : State) (x : Seat) : Act :=
  let c := s.ctx x
  (s.setCtx x { c with hints := satSucc 15 c.hints }, [s.sayLetter x c.spelling[c.cursor]?])

/-- A LETTER key in WORDWISE style (R37). -/
def State.wordwiseLetter (s : State) (x : Seat) (l : Nat) : Act :=
  let c := s.ctx x
  if c.typed.length < Config.typedLetters then
    (s.setCtx x { c with typed := c.typed ++ [l] },
      if c.echo then [.say x .echo (s.letterClips (some l))] else [])
  else (s, [s.sayCue x .bump])

/-- A BACK key in WORDWISE style (R37). -/
def State.wordwiseBack (s : State) (x : Seat) : Act :=
  let c := s.ctx x
  if c.typed.isEmpty then (s, [s.sayCue x .bump])
  else (s.setCtx x { c with typed := c.typed.dropLast }, [])

/-- The hint clip of the target copy, as built: empty unless it is present and READY. -/
def State.hintClips (s : State) (c : Context) : List Nat :=
  match c.copy with
  | some t => s.built t.hintClip
  | none => []

/-- The position a WORDWISE hint names (R39). -/
def Context.hintPosition (c : Context) : Nat :=
  match c.lastMistake with
  | some m => m.position
  | none => firstDeparture c.typed c.spelling

/-- A HINT key in WORDWISE style (R39). -/
def State.wordwiseHint (s : State) (x : Seat) : Act :=
  let c := s.ctx x
  let given := s.setCtx x { c with hints := satSucc 15 c.hints }
  if s.hintClips c ≠ [] then (given, [.say x .cue (s.hintClips c)])
  else if c.hintPosition < c.spelling.length then (given, [s.sayLetter x c.spelling[c.hintPosition]?])
  else (s, [s.sayCue x .bump])

/-- A submission in mode DUEL is handed to DC and stays in flight with the idle timer stopped (R80). -/
def State.handJudgement (s : State) (x : Seat) (c : Context) (equal : Bool) : State :=
  let j : Judgement := { round := s.dc.round, equal := equal, atLimit := decide (s.cfg.tryLimit ≤ c.tries),
                         mistake := c.lastMistake, live := true }
  let s1 := s.setCtx x { c with idleRunning := false }
  { s1 with dc := { s1.dc with judgements := s1.dc.judgements.set x (some j) } }

/-- An ENTER key in WORDWISE style (R38, R80). -/
def State.wordwiseEnter (s : State) (x : Seat) : Act :=
  let c := s.ctx x
  if c.typed.isEmpty then (s, [s.sayCue x .bump])
  else
    let c1 := { c with tries := c.tries + 1 }
    let equal := decide (c.typed = c.spelling)
    let c2 := if equal then c1 else
      { c1 with wrongTotal := satSucc 255 c1.wrongTotal, lastMistake := some (classifyWord c.spelling c.typed) }
    if c.mode = .duel then (s.handJudgement x c2 equal, [])
    else if equal then (s.setCtx x c2, [.endSolo x c2.finished])
    else if c2.tries < s.cfg.tryLimit then (s.setCtx x { c2 with typed := [] }, [s.sayCue x .tryAgain])
    else (s.setCtx x c2, [.endSolo x .miss])

/-- What a key taken in TYPING does, by the seat's style (R35 to R40). -/
def State.handleKey (s : State) (x : Seat) (k : KeyCode) : Act :=
  match (s.ctx x).style, k with
  | _, .unused => (s, [])
  | _, .again => s.repeatKey x
  | .letterwise, .letter l => s.letterwiseLetter x l
  | .letterwise, .enter | .letterwise, .back => (s, [s.sayCue x .bump])
  | .letterwise, .hint => s.letterwiseHint x
  | .wordwise, .letter l => s.wordwiseLetter x l
  | .wordwise, .back => s.wordwiseBack x
  | .wordwise, .enter => s.wordwiseEnter x
  | .wordwise, .hint => s.wordwiseHint x

/-- A key taken in TYPING is consumed and handled, and the idle timer follows (R27). -/
def State.judgeKey (s : State) (x : Seat) (k : KeyCode) : Act := afterKey x ((s.consumeKey x).handleKey x k)

/-! ### Attempt end (R43 to R46) -/

/-- The result record of a solo attempt (R45). -/
def soloRecord (x : Seat) (c : Context) (t : TargetCopy) (o : AttemptEnd) (boxAfter : Nat) (masteredNow : Bool) :
    ResultRecord :=
  { number := none, seat := x, style := c.style, duel := false, round := 0, won := false,
    lateCorrect := false, wordId := t.wordId, outcome := o,
    tries := match c.style with
      | .letterwise => 0
      | .wordwise => c.tries
    wrongTotal := c.wrongTotal, hints := c.hints, keys := c.keys,
    duration := match c.startTick with
      | some _ => c.elapsed
      | none => 0
    boxBefore := t.box, boxAfter := boxAfter, masteredNow := masteredNow, mistake := c.lastMistake }

/-- The feedback of an outcome, from the target copy and the tables as they stand (R46). -/
def State.feedbackClips (s : State) (t : TargetCopy) : AttemptEnd → List Nat
  | .correct | .helped => s.cueClips .chime
  | .miss | .timedOut => s.spellOutClips t
  | .skippedHost | .skippedNoAudio | .abandoned | .beaten => []

/-- The progress update of an outcome of a slot: present for a counted outcome (R43 step 2, R44). -/
def State.progressFor (s : State) (n : Nat) (o : AttemptEnd) (m : Option MistakeCode) : Option ProgressUpdate :=
  if o.counted then (s.entry n).map (progressOf o s.cfg.masteryStreak m) else none

/-- WT takes the update, if there is one (R8). -/
def State.applyUpdate (s : State) (n : Nat) : Option ProgressUpdate → State
  | some u => s.applyProgress n u
  | none => s

/-- The update changes mastered from no to yes (R45). -/
def State.mastersNow (s : State) (n : Nat) (u : Option ProgressUpdate) : Bool :=
  match s.entry n, u with
  | some e, some u => (storeProgress u e).mastered && !e.mastered
  | _, _ => false

/-- PS takes an attempt end of a seat: the target role ends, the word is reinserted, the queue is refilled
(R16). -/
def State.releaseTarget (s : State) (x : Seat) (n : Nat) (r : Reinsert) : State :=
  let s1 := s.setCtx x { s.ctx x with target := none, copy := none }
  (s1.reinsert (.practice x) n r).refillSeat x

/-- A solo attempt ends with an outcome: the five steps of R43 as one act. Any cancellation the ending event
requires has been made. The feedback is placed before keys queued behind are taken, so that after a feedback that SE
refuses they stay queued through the append, the model's choice (R26, R30, assumption 36). -/
def State.endSolo (s : State) (x : Seat) (o : AttemptEnd) : Act :=
  let c := s.ctx x
  match c.target, c.copy with
  | some n, some t =>
    let u := s.progressFor n o c.lastMistake
    let boxAfter := match u with
      | some v => v.box
      | none => t.box
    let r := soloRecord x c t o boxAfter (s.mastersNow n u)
    let s1 := s.setCtx x { c with idleRunning := false, firm := none }
    let s2 := (s1.applyUpdate n u).releaseTarget x n o.reinsert
    let s3 := s2.setCtx x { s2.ctx x with pendingRecord := some r, state := .feedback, pauseCause := none }
    match s3.feedbackClips t o with
    | [] => (s3, [.append x])
    | clips => (s3, [.firm x .feedback clips, .takeKeys x])
  | _, _ => (s, [])

/-! ### The append and presentation (R32, R47) -/

/-- The context enters IDLE with mode OFF (R47, R50, R53); what it still held of a lesson is gone. -/
def Context.toIdle (c : Context) : Context :=
  { c with state := .idle, mode := .off, pauseCause := none, stopMarked := false, target := none, copy := none,
           idleRunning := false, firm := none }

/-- The context of a seat enters IDLE with mode OFF and its queued keys are taken (R25, R26). -/
def State.idleSeat (s : State) (x : Seat) : Act := (s.setCtx x (s.ctx x).toIdle, [.takeKeys x])

/-- AE hands the pending record to RL (R47, R97). -/
def State.appendSolo (s : State) (x : Seat) : Act :=
  match (s.ctx x).pendingRecord with
  | none => (s, [])
  | some r =>
    if s.logHasRoom then
      ((s.setCtx x { s.ctx x with pendingRecord := none }).appendRecord r, [.goOn x])
    else (s.waitForLog x r, [])

/-- After the append: IDLE with mode OFF if the stop is marked or the seat is not READY, else the next word
(R47). -/
def State.goOnSolo (s : State) (x : Seat) : Act :=
  if (s.ctx x).stopMarked = true ∨ (s.seat x).state ≠ .ready then s.idleSeat x else (s, [.present x])

/-- A new attempt on a target (R23). -/
def Context.newAttempt (c : Context) (n : Nat) (e : WordEntry) : Context :=
  { c with target := some n, copy := some e.copy, pauseCause := none, typed := [], cursor := 0, wrongHere := 0,
           wrongTotal := 0, autofills := 0, tries := 0, hints := 0, repeats := 0, nudges := 0, keys := 0,
           lastMistake := none, startTick := none, elapsed := 0, idleRunning := false, firm := none }

/-- A slot read for a solo presentation becomes the target, rests change, and the context prompts or, when the
word clip is not READY, ends the attempt SKIPPED with reason NO_AUDIO (R12, R32 steps 2 to 4). -/
def State.startAttempt (s : State) (x : Seat) (n : Nat) (e : WordEntry) : Act :=
  let s1 := s.updateRests n e.owner
  let c := (s1.ctx x).newAttempt n e
  let s2 := s1.setCtx x { c with state := .prompting }
  if s2.clipReady e.wordClip then
    (s2, [.firm x .prompt (s2.promptClips e.copy c.sentence), .takeKeys x])
  else (s2.recordFault .noAudio (.slot n) 0 none, [.endSolo x .skippedNoAudio])

/-- A solo context presents its next word (R11, R32). -/
def State.presentSolo (s : State) (x : Seat) : Act :=
  if s.fb.condition = .hold then
    (s.setCtx x { s.ctx x with state := .paused, pauseCause := some .hold, target := none, copy := none,
                               idleRunning := false }, [])
  else
    let s1 := s.refillSeat x
    match s1.ps.practice.get x with
    | [] =>
      ((s1.setCtx x { s1.ctx x with state := .done, pauseCause := none, idleRunning := false }).raise (.seatDone x),
        [.takeKeys x])
    | n :: rest =>
      match (s1.setWordQueue (.practice x) rest).readTarget n true with
      | (s2, none) => (s2, [.present x])
      | (s2, some e) => s2.startAttempt x n e

/-! ### Pausing and resuming (R48, R49, R54, R55) -/

/-- A solo context enters PAUSED with a cause, keeping its attempt or its record; its handle is dropped and its
idle timer stops (R48, R54). -/
def State.pauseSolo (s : State) (x : Seat) (cause : PauseCause) : State :=
  s.setCtx x { s.ctx x with state := .paused, pauseCause := some cause, firm := none, idleRunning := false }

/-- A context leaves PAUSED by its situation (R25, R49, R55). -/
def State.resumeSolo (s : State) (x : Seat) : Act :=
  let s1 := s.setCtx x { s.ctx x with pauseCause := none }
  match (s.ctx x).target with
  | some n =>
    match s1.readTarget n false with
    | (s2, some _) => s2.startRePrompt x
    | (s2, none) => (s2, [.endSolo x .abandoned])
  | none => if (s.ctx x).pendingRecord.isSome then (s1, [.append x]) else (s1, [.present x])

/-- CLEAR_HOLD resumes a solo context paused with cause HOLD, unless an earlier resumption has brought about a new
HOLD (R55, R196 step 2). -/
def State.resumeHeld (s : State) (x : Seat) : Act :=
  let c := s.ctx x
  if s.fb.condition = .normal ∧ c.mode = .solo ∧ c.state = .paused ∧ c.pauseCause = some .hold then
    (s, [.resumeSolo x])
  else (s, [])

/-! ### Idle expiry (R41) -/

/-- An idle expiry in solo practice: a nudge, or the attempt ends TIMED_OUT (R41). -/
def State.expireSolo (s : State) (x : Seat) : Act :=
  let c := s.ctx x
  if c.nudges < s.cfg.nudgeLimit then
    (s.setCtx x { c with nudges := c.nudges + 1 }).startRePrompt x
  else (s, [.endSolo x .timedOut])

/-! ### Stopping and losing a seat (R50, R53) -/

/-- How STOP_SEAT and a seat loss end a solo context, by its state (R50, R53). Both mark the stop (R23), so that the append
leads to mode OFF even if the seat is READY again by then; R53's "None" for WAITING_LOG is read as leaving the record
to wait (assumption 34). `byHost` says which of the two it is: a seat loss also cancels the seat's utterances when the
context is paused with its record held. -/
def State.leaveSolo (s : State) (x : Seat) (byHost : Bool) : Act :=
  let c := s.ctx x
  let marked := { c with stopMarked := true, firm := none, pauseCause := none }
  match c.state with
  | .idle => (s, [])
  | .done => s.idleSeat x
  | .waitingLog => (s.setCtx x { c with stopMarked := true }, [])
  | .prompting | .typing => ((s.setCtx x marked).cancelSeat x, [.arbitrate, .endSolo x .abandoned])
  | .feedback => ((s.setCtx x marked).cancelSeat x, [.arbitrate, .append x])
  | .paused =>
    if c.target.isSome then ((s.setCtx x marked).cancelSeat x, [.arbitrate, .endSolo x .abandoned])
    else if c.pendingRecord.isNone then s.idleSeat x
    else if byHost then (s.setCtx x marked, [.append x])
    else ((s.setCtx x marked).cancelSeat x, [.arbitrate, .append x])

end Sys2Proof.Machine
end

