-- ==== Sys2Proof/Machine/DuelOps.lean ====
section
/-! DEFINITION. The Duel Controller (spec 04): presenting a round, the race, settling, the round close,
finishing, breaking off and resuming. -/

namespace Sys2Proof.Machine

/-! ### Contexts of the duel (R76) -/

/-- The state of a duel context whose attempt has ended: FEEDBACK, or PAUSED kept while the hold lasts (R76,
R81, R82). -/
def Context.leftRace (c : Context) : ContextState := if c.state = .paused then .paused else .feedback

/-- A seat's attempt in a duel ends: the idle timer stops, any firm handle is dropped, the context enters FEEDBACK
and the outcome is reported to DC (R76). -/
def State.endDuelAttempt (s : State) (x : Seat) (o : AttemptEnd) : State :=
  let c := s.ctx x
  let s1 := s.setCtx x { c with idleRunning := false, firm := none, state := c.leftRace }
  s1.setRound x { s1.round x with ended := some o }

/-- A context of a duel enters FEEDBACK (R76, R86, R92). -/
def Context.toFeedback (c : Context) : Context :=
  { c with state := .feedback, pauseCause := none, idleRunning := false, firm := none }

/-- Every judgement still in flight was made in a round that is over (R81). -/
def State.staleJudgements (s : State) : State :=
  let stale := fun (j : Judgement) => { j with live := false }
  { s with dc := { s.dc with judgements := ⟨s.dc.judgements.a.map stale, s.dc.judgements.b.map stale⟩ } }

/-- A seat is still in the race (R73). -/
def State.races (s : State) (x : Seat) : Bool := (s.round x).status == some .typing

/-! ### Finishing (R87) -/

/-- The duel winner by the scores (R87). -/
def leadingSeat (scores : Pair Nat) : Option Seat :=
  if scores.b < scores.a then some .a else if scores.a < scores.b then some .b else none

/-- The duel winner of a finish reason (R87). -/
def FinishReason.winner (r : FinishReason) (scores : Pair Nat) : Option Seat :=
  match r with
  | .rounds | .noWords => leadingSeat scores
  | .forfeitA => some .b
  | .forfeitB => some .a
  | .stopped => none

/-- A context after the duel has finished: IDLE with mode OFF unless its record waits (R87). -/
def Context.afterDuel (c : Context) : Context := if c.pendingRecord.isSome then c else c.toIdle

/-- The duel finishes (R87). -/
def State.finishDuel (s : State) (r : FinishReason) : Act :=
  let s1 := { s with dc := { s.dc with
    state := .finished, finish := some r, duelWinner := r.winner s.dc.scores, target := none, firm := none } }
  let s2 := (s1.staleJudgements).raise .duelEnd
  ({ s2 with ae := ⟨s2.ae.a.afterDuel, s2.ae.b.afterDuel⟩ }, [.takeKeys .a, .takeKeys .b])

/-! ### Presenting a round (R77, R78) -/

/-- A context whose presentation HOLD holds back (R77 step 1). -/
def Context.heldPresentation (c : Context) : Context :=
  { c with state := .paused, pauseCause := some .hold, target := none, copy := none, pendingRecord := none,
           idleRunning := false, firm := none }

/-- The presentation is held by the part condition HOLD (R77 step 1). -/
def State.holdPresentation (s : State) : State :=
  { s with dc := { s.dc with state := .presenting, target := none }
           ae := ⟨s.ae.a.heldPresentation, s.ae.b.heldPresentation⟩ }

/-- A seat's part of the duel record as a round begins (R77 step 4). -/
def SeatRound.begun : SeatRound := { status := some .typing, lateCorrect := false, record := .notBuilt, ended := none }

/-- A round begins on a slot: the round's fields, both contexts' attempts and the rests (R77 step 4, R12). -/
def State.beginRound (s : State) (n : Nat) (e : WordEntry) : State :=
  let s1 := { s with
    dc := { s.dc with
      round := s.dc.round + 1, target := some n, copy := some e.copy,
      seats := ⟨SeatRound.begun, SeatRound.begun⟩,
      winner := none, mistake := none, result := none, update := none }
    ae := ⟨s.ae.a.newAttempt n e, s.ae.b.newAttempt n e⟩ }
  s1.updateRests n .both

/-- Both contexts enter PROMPTING with the round's prompt (R77 step 6). -/
def State.openRound (s : State) : State :=
  { s with dc := { s.dc with state := .presenting }
           ae := ⟨{ s.ae.a with state := .prompting }, { s.ae.b with state := .prompting }⟩ }

/-- A silent round: NO_AUDIO once, both attempts end SKIPPED with reason NO_AUDIO, both seats are OUT (R78). A context
that stands in FEEDBACK stays there with the keys it keeps until the next prompt; one in another state enters FEEDBACK,
where its queued keys are discarded (R26, R86, assumption 33). -/
def State.silentRound (s : State) (n : Nat) : Act :=
  let entering := [Seat.a, .b].filter fun x => (s.ctx x).state != .feedback
  let s1 := s.recordFault .noAudio (.slot n) 0 none
  let s2 := (s1.endDuelAttempt .a .skippedNoAudio).endDuelAttempt .b .skippedNoAudio
  let s3 := { s2 with ae := ⟨s2.ae.a.toFeedback, s2.ae.b.toFeedback⟩ }
  let s4 := s3.setRound .a { s3.round .a with status := some .out }
  (s4.setRound .b { s4.round .b with status := some .out }, entering.map Task.takeKeys ++ [.settle true])

/-- DC presents a round (R77). Keys queued at the seats are taken and discarded as the contexts enter PROMPTING,
before the prompt is placed (R76). -/
def State.presentRound (s : State) : Act :=
  if s.fb.condition = .hold then (s.holdPresentation, [])
  else
    let s1 := s.refillDuel
    match s1.ps.duel with
    | [] => s1.finishDuel .noWords
    | n :: rest =>
      match (s1.setWordQueue .duel rest).readTarget n true with
      | (s2, none) => (s2, [.presentRound])
      | (s2, some e) =>
        let s3 := s2.beginRound n e
        if s3.clipReady e.wordClip then
          let s4 := s3.openRound
          (s4, [.takeKeys .a, .takeKeys .b, .duelFirm .prompt (s4.promptClips e.copy s4.dc.sentence)])
        else s3.silentRound n

/-- DC drops its firm handle and the utterance it has outstanding is cancelled (R147, assumption 18). -/
def State.dropDuelFirm (s : State) : State :=
  let s1 := s.cancelHandle s.dc.firm
  { s1 with dc := { s1.dc with firm := none } }

/-- DC places a firm utterance on the duel speech queue; an empty one, or one that SE refuses, is handled at once
as its completion (R77). A firm utterance of DC still outstanding is cancelled first, so that DC never has two
(R147, assumption 18). -/
def State.placeDuelFirm (s : State) (cls : SpeechClass) (clips : List Nat) : Act :=
  let s1 := s.dropDuelFirm
  if clips = [] then (s1, [.arbitrate, .duelCompleted cls])
  else match s1.acceptDuel cls clips with
    | some (h, s2) => ({ s2 with dc := { s2.dc with firm := some h } }, [.arbitrate])
    | none => (s1, [.arbitrate, .duelCompleted cls])

/-- The prompt completion of a seat still in the race (R79). -/
def State.startRace (s : State) (x : Seat) : State := if s.races x then s.completePrompt x else s

/-- The completion of DC's firm utterance: the prompt's starts the race, the feedback's leads to the round close
(R79, R85). -/
def State.completeDuelFirm (s : State) (cls : SpeechClass) : Act :=
  if cls = .feedback then (s, [.closeRound])
  else if s.dc.state = .presenting then
    ((({ s with dc := { s.dc with state := .racing } }).startRace .a).startRace .b, [.takeKeys .a, .takeKeys .b])
  else (s, [])

/-! ### The race (R81 to R83) -/

/-- The other seat has won: the seat is beaten at once (R82). -/
def State.beat (s : State) (x : Seat) : State :=
  let s1 := s.endDuelAttempt x .beaten
  let s2 := s1.setRound x { s1.round x with status := some .beaten }
  (s2.setCtx x { s2.ctx x with typed := [] }).cancelSeat x

/-- An EQUAL judgement of a seat in the race: it wins the round, its score increases by 1, and the other seat is
beaten if it still races (R81, R82). -/
def State.winRound (s : State) (x : Seat) : Act :=
  let s1 := s.endDuelAttempt x (s.ctx x).finished
  let s2 := s1.setRound x { s1.round x with status := some .solved }
  let s3 := { s2 with dc := { s2.dc with
    winner := some x, scores := s2.dc.scores.set x (s2.dc.scores.get x + 1) } }
  if s3.races x.other then
    (s3.beat x.other, [.takeKeys x, .takeKeys x.other, .arbitrate, .settleCheck])
  else (s3, [.takeKeys x, .settleCheck])

/-- An UNEQUAL judgement below the try limit: another try (R81). In HOLD the cue is not queued and a paused context
stays paused. A context in PROMPTING stays there, with typed emptied and the cue queued, the model's choice (assumption
37). -/
def State.tryAgain (s : State) (x : Seat) : Act :=
  let c := s.ctx x
  let s1 := s.setCtx x (if c.state = .typing then
      { c with typed := [], idleTimer := s.cfg.idleLimit, idleRunning := true }
    else { c with typed := [] })
  (s1, (if s.fb.condition = .hold then [] else [s.sayCue x .tryAgain]) ++ [.takeKeys x])

/-- An attempt that ends without winning: the seat is OUT (R81, R83). -/
def State.seatOut (s : State) (x : Seat) (o : AttemptEnd) : Act :=
  let s1 := s.endDuelAttempt x o
  (s1.setRound x { s1.round x with status := some .out }, [.takeKeys x, .settleCheck])

/-- DC disregards a judgement. The context's submission is no longer in flight: in TYPING its idle timer runs and
its keys are taken again (R25, R26, R80, assumption 16). -/
def State.disregard (s : State) (x : Seat) : Act :=
  let c := s.ctx x
  if c.state = .typing then (s.setCtx x { c with idleRunning := true }, [.takeKeys x]) else (s, [])

/-- DC takes the judgement a seat has in flight (R81). -/
def State.takeJudgement (s : State) (x : Seat) (j : Judgement) : Act :=
  let s1 := { s with dc := { s.dc with judgements := s.dc.judgements.set x none } }
  let part := s1.round x
  if j.live && j.round == s1.dc.round && s1.duelRuns && part.record == .notBuilt then
    match part.status with
    | some .typing =>
      if j.equal then s1.winRound x
      else
        let s2 := { s1 with dc := { s1.dc with mistake := j.mistake } }
        if j.atLimit then s2.seatOut x .miss else s2.tryAgain x
    | some .beaten =>
      if j.equal then (s1.setRound x { part with lateCorrect := true }, [])
      else s1.disregard x
    | some .out | some .solved | some .gone | none => s1.disregard x
  else s1.disregard x

/-- An idle expiry in a duel: the nudge limit is 0 there, so the attempt ends TIMED_OUT (R76, R83). -/
def State.expireDuel (s : State) (x : Seat) : Act :=
  if s.races x then s.seatOut x .timedOut else (s, [])

/-! ### Settling (R84, R85) -/

/-- DC looks at both seat statuses, and the round settles when neither is TYPING (R81, R84). -/
def State.checkSettled (s : State) : Act :=
  let open' := match s.dc.state with
    | .presenting | .racing => true
    | .off | .settling | .finished => false
  if open' && !s.races .a && !s.races .b then (s, [.settle false]) else (s, [])

/-- The round result (R84). -/
def State.roundResult (s : State) (silent : Bool) : RoundResult :=
  if silent then .skipped
  else match s.dc.winner with
    | none => .miss
    | some x => if (s.round x).ended = some .correct then .correct else .helped

/-- The counted outcome that stands for a round result in the progress update (R84). -/
def RoundResult.counted : RoundResult → Option AttemptEnd
  | .correct => some .correct
  | .helped => some .helped
  | .miss => some .miss
  | .skipped | .abandoned => none

/-- The progress update of a round, if it makes one (R84 step 1). -/
def State.roundProgress (s : State) (n : Nat) (r : RoundResult) : Option ProgressUpdate :=
  match r.counted with
  | some o => s.progressFor n o s.dc.mistake
  | none => none

/-- The round target and both contexts' targets become absent (R84 step 2, assumption 14). -/
def State.clearRoundTarget (s : State) : State :=
  let clear := fun (c : Context) => { c with target := none, copy := none }
  { s with dc := { s.dc with target := none }, ae := ⟨clear s.ae.a, clear s.ae.b⟩ }

/-- PS takes the end of a round (R16, R84 step 2, R88). -/
def State.releaseRound (s : State) (n : Nat) (r : RoundResult) : State :=
  (s.clearRoundTarget.reinsert .duel n r.reinsert).refillDuel

/-- The feedback clips of a round (R85). -/
def State.roundFeedback (s : State) : List Nat :=
  let spelled := match s.dc.copy with
    | some t => s.spellOutClips t
    | none => []
  match s.dc.winner with
  | some .a => s.cueClips .chime ++ s.cueClips .aWins ++ spelled
  | some .b => s.cueClips .chime ++ s.cueClips .bWins ++ spelled
  | none => spelled

/-- The round settles (R84): the result, one progress update, the hand-over to PS, then the feedback, which HOLD
leaves out (R91). In HOLD a prompt still outstanding is withdrawn all the same, so that nothing but CLEAR_HOLD leads to
the round close (R92, assumption 18). -/
def State.settleRound (s : State) (silent : Bool) : Act :=
  let r := s.roundResult silent
  let s1 := { s with dc := { s.dc with state := .settling, result := some r } }
  let s2 := match s.dc.target with
    | some n =>
      let u := s.roundProgress n r
      let stored := u.map fun v => { boxAfter := v.box, masteredNow := s.mastersNow n u : RoundUpdate }
      (({ s1 with dc := { s1.dc with update := stored } }).applyUpdate n u).releaseRound n r
    | none => s1
  if silent then (s2, [.closeRound])
  else if s2.fb.condition = .hold then (s2.dropDuelFirm, [.arbitrate])
  else (s2, [.duelFirm .feedback s2.roundFeedback])

/-! ### The round close (R86) -/

/-- A seat's record of the round (R86). -/
def State.duelRecord (s : State) (x : Seat) : ResultRecord :=
  let c := s.ctx x
  let wordId := match s.dc.copy with
    | some t => t.wordId
    | none => 0
  let before := match s.dc.copy with
    | some t => t.box
    | none => 0
  { number := none, seat := x, style := .wordwise, duel := true, round := s.dc.round,
    won := s.dc.winner == some x, lateCorrect := (s.round x).lateCorrect, wordId := wordId,
    outcome := (s.round x).ended.getD .abandoned, tries := c.tries, wrongTotal := c.wrongTotal,
    hints := c.hints, keys := c.keys,
    duration := match c.startTick with
      | some _ => c.elapsed
      | none => 0
    boxBefore := before
    boxAfter := match s.dc.update with
      | some u => u.boxAfter
      | none => before
    masteredNow := match s.dc.update with
      | some u => u.masteredNow
      | none => false
    mistake := c.lastMistake }

/-- A seat's part of the duel record with another record status. -/
def State.setRecordStatus (s : State) (x : Seat) (r : RecordStatus) : State :=
  s.setRound x { s.round x with record := r }

/-- DC hands a seat's record to RL (R86, R97). -/
def State.handRecord (s : State) (x : Seat) (r : ResultRecord) : State :=
  if s.logHasRoom then
    ((s.setCtx x { s.ctx x with pendingRecord := none }).appendRecord r).setRecordStatus x .inLog
  else (s.waitForLog x r).setRecordStatus x .waiting

/-- Both records are built, and handed seat A's first (R86). -/
def State.handBoth (s : State) : State :=
  let ra := s.duelRecord .a
  let rb := s.duelRecord .b
  let built := fun (c : Context) (r : ResultRecord) => { c with pendingRecord := some r }
  (({ s with ae := ⟨built s.ae.a ra, built s.ae.b rb⟩ }).handRecord .a ra).handRecord .b rb

/-- The records of the round have not been built. -/
def State.notBuilt (s : State) : Bool := (s.round .a).record == .notBuilt && (s.round .b).record == .notBuilt

/-- The round close (R86). -/
def State.closeRound (s : State) : Act :=
  if s.dc.state = .settling ∧ s.notBuilt then (s.handBoth, [.afterRecords]) else (s, [])

/-- When both records are in the log the round is closed, and the duel finishes or presents its next round (R86). -/
def State.afterRecords (s : State) : Act :=
  if s.duelRuns ∧ (s.round .a).record = .inLog ∧ (s.round .b).record = .inLog then
    let s1 := s.staleJudgements
    if s1.dc.round = s1.dc.total then s1.finishDuel .rounds else (s1, [.presentRound])
  else (s, [])

/-- RL has appended the waiting record of a duel seat (R86). While the duel runs the keys that were queued in WAITING_LOG
stay queued: the next prompt takes and discards them as it puts the context in PROMPTING. -/
def State.duelAppended (s : State) (x : Seat) : Act :=
  let s1 := s.setRecordStatus x .inLog
  if s1.duelRuns then (s1.setCtx x (s1.ctx x).toFeedback, [.afterRecords]) else s1.idleSeat x

/-! ### Breaking off (R88 to R90) -/

/-- A presentation of the running duel is held (R88, R92). -/
def State.presentationHeld (s : State) : Bool := s.dc.state == .presenting && s.dc.target.isNone

/-- A seat still in the race ends its attempt ABANDONED (R88 step 2, R92). Its seat status stays TYPING, the model's
choice: no rule names another (assumption 32). -/
def State.abandonSeat (s : State) (x : Seat) : State :=
  if s.races x then s.endDuelAttempt x .abandoned else s

/-- The break-off empties typed of a seat still in the race (R88 step 2). -/
def State.emptyTyped (s : State) (x : Seat) : State :=
  if s.races x then s.setCtx x { s.ctx x with typed := [] } else s

/-- The break-off ends the attempt of a seat still in the race: its context enters FEEDBACK, from a pause too, and the keys
queued behind its last submission or its pause are taken and discarded there, before its record is handed (R25, R26, R76,
R88 step 2, assumption 38). -/
def State.breakAttempt (s : State) (x : Seat) : State :=
  if s.races x then
    let s1 := (s.emptyTyped x).abandonSeat x
    (s1.setCtx x (s1.ctx x).toFeedback).clearKeys x
  else s

/-- The round result of a broken-off round, and the word back at the front of the duel queue (R88 step 3). -/
def State.abandonRound (s : State) : State :=
  match s.dc.result with
  | some _ => s
  | none =>
    let s1 := { s with dc := { s.dc with result := some .abandoned } }
    match s1.dc.target with
    | some n => s1.releaseRound n .abandoned
    | none => s1

/-- DC and both contexts drop their firm handles; DC's utterance and every utterance of both seats is cancelled
(R88 step 1). -/
def State.cancelRound (s : State) : State :=
  let drop := fun (c : Context) => { c with firm := none }
  let s1 := { s with dc := { s.dc with firm := none }, ae := ⟨drop s.ae.a, drop s.ae.b⟩ }
  ((s1.cancelHandle s.dc.firm).cancelSeat .a).cancelSeat .b

/-- A round is broken off (R88). -/
def State.breakOff (s : State) : State :=
  if s.presentationHeld || !s.notBuilt then s
  else ((s.cancelRound.breakAttempt .a).breakAttempt .b).abandonRound.handBoth

/-- STOP_DUEL breaks the round off and finishes the duel (R89). -/
def State.stopDuelNow (s : State) : Act :=
  let (s1, after) := s.breakOff.finishDuel .stopped
  (s1, .arbitrate :: after)

/-- The finish reason of a forfeit (R90). -/
def forfeitReason : Seat → FinishReason
  | .a => .forfeitA
  | .b => .forfeitB

/-- A seat that leaves READY while the duel runs forfeits it (R90). -/
def State.forfeit (s : State) (x : Seat) : Act :=
  let s1 := s.breakOff
  let (s2, after) := (s1.setRound x { s1.round x with status := some .gone }).finishDuel (forfeitReason x)
  (s2, .arbitrate :: after)

/-! ### Hold (R91, R92) -/

/-- The hold entry's effect on a context of the running duel (R91). -/
def Context.holdDuel (c : Context) (record : RecordStatus) : Context :=
  let held := { c with state := .paused, pauseCause := some .hold, idleRunning := false, firm := none }
  match c.state with
  | .prompting | .typing => held
  | .feedback => if record = .notBuilt then held else c
  | .idle | .waitingLog | .paused | .done => c

/-- The hold entry's effect on a running duel (R91). -/
def State.holdDuelContexts (s : State) : State :=
  if s.duelRuns then
    { s with dc := { s.dc with firm := none }
             ae := ⟨s.ae.a.holdDuel (s.round .a).record, s.ae.b.holdDuel (s.round .b).record⟩ }
  else s

/-- A context of the duel is paused with cause HOLD. -/
def Context.heldInDuel (c : Context) : Bool :=
  c.mode == .duel && c.state == .paused && c.pauseCause == some .hold

/-- The running duel has something to resume: a context that HOLD paused, or a settled round whose feedback HOLD
left out (R92, assumption 21). -/
def State.duelHeld (s : State) : Bool :=
  s.ae.a.heldInDuel || s.ae.b.heldInDuel ||
    (s.dc.state == .settling && s.notBuilt && s.dc.firm.isNone)

/-- A context that comes back with the round's re-prompt: PROMPTING while it races, else FEEDBACK (R92). -/
def Context.rePrompted (c : Context) (races : Bool) : Context :=
  if races then { c with state := .prompting, pauseCause := none, idleRunning := false } else c.toFeedback

/-- The round target was read again, and the round is prompted again (R92). -/
def State.rePromptRound (s : State) : Act :=
  let s1 := { s with
    dc := { s.dc with state := .presenting }
    ae := ⟨s.ae.a.rePrompted (s.races .a), s.ae.b.rePrompted (s.races .b)⟩ }
  let clips := match s1.dc.copy with
    | some t => [t.wordClip]
    | none => []
  (s1, [.takeKeys .a, .takeKeys .b, .duelFirm .prompt clips])

/-- Both contexts enter FEEDBACK and DC goes to the round close (R92). -/
def State.closeAfterHold (s : State) : Act :=
  ({ s with ae := ⟨s.ae.a.toFeedback, s.ae.b.toFeedback⟩ }, [.takeKeys .a, .takeKeys .b, .closeRound])

/-- The re-read of the round target failed: the racing attempts end ABANDONED and the round goes to its close (R92,
assumption 22). -/
def State.loseRound (s : State) : Act :=
  let s1 := ((s.abandonSeat .a).abandonSeat .b).abandonRound
  ({ s1 with dc := { s1.dc with state := .settling } }).staleJudgements.closeAfterHold

/-- CLEAR_HOLD resumes a running duel by its state, unless an earlier resumption has brought about a new HOLD (R92,
R196 step 2). -/
def State.resumeDuel (s : State) : Act :=
  if s.fb.condition = .normal ∧ s.duelRuns ∧ s.duelHeld then
    match s.dc.state, s.dc.target with
    | .presenting, none => (s, [.presentRound])
    | .presenting, some n | .racing, some n =>
      match s.readTarget n false with
      | (s1, some _) => s1.rePromptRound
      | (s1, none) => s1.loseRound
    | .settling, _ => if s.notBuilt then s.closeAfterHold else (s, [])
    | _, _ => (s, [])
  else (s, [])

end Sys2Proof.Machine
end

