-- ==== Sys2Proof/Machine/Cascade.lean ====
section
/-! DEFINITION. What follows an act within one step: each task's meaning, and carrying tasks out in order until
none is left. SE's arbiter, the end reports, AE, DC and RL meet here (R30, R153, R158, R195). -/

namespace Sys2Proof.Machine

/-! ### The arbiter (R153, R155) -/

/-- A started utterance ends FAILED because the voice came to a BAD clip (R155). -/
def State.failStart (s : State) (v : Voice) (u : Utterance) : Act :=
  (s.freeVoice v, [.report u.requester u.cls u.handle .failed, .arbitrate])

/-- The arbiter gives one free voice to the best eligible head, if there is one, and looks again (R153). -/
def State.arbitrate (s : State) : Act :=
  match s.voiceToFill with
  | none => (s, [])
  | some v =>
    match s.bestHead v with
    | none => (s, [])
    | some u =>
      let s1 := s.startUtterance v u
      match u.clips with
      | c :: _ => if s1.clipBad c then s1.failStart v u else (s1, [.arbitrate])
      | [] => (s1, [.arbitrate])

/-! ### Utterances of AE (R29, R30) -/

/-- AE places a CUE or an ECHO; an empty or a refused one is not spoken (R29, R30). -/
def State.placeDisposable (s : State) (x : Seat) (cls : SpeechClass) (clips : List Nat) : Act :=
  if clips = [] then (s, [])
  else match s.acceptSeat x cls clips with
    | some (_, s1) => (s1, [.arbitrate])
    | none => (s, [])

/-- AE places a firm utterance; an empty or a refused one is handled at once as its completion (R29, R30). -/
def State.placeFirm (s : State) (x : Seat) (cls : SpeechClass) (clips : List Nat) : Act :=
  if clips = [] then (s, [.completed x cls])
  else match s.acceptSeat x cls clips with
    | some (h, s1) => (s1.setCtx x { s1.ctx x with firm := some h }, [.arbitrate])
    | none => (s, [.completed x cls])

/-- The completion of a context's firm utterance (R33, R46). -/
def State.completeFirm (s : State) (x : Seat) (cls : SpeechClass) : Act :=
  if cls = .feedback then
    if (s.ctx x).state = .feedback ∧ (s.ctx x).mode = .solo then (s, [.append x]) else (s, [])
  else (s.completePrompt x, [.takeKeys x])

/-! ### End reports (R158) -/

/-- A context acts on the report of its firm handle and ignores every other (R30). -/
def State.reportToSeat (s : State) (x : Seat) (cls : SpeechClass) (h : Nat) : Act :=
  if (s.ctx x).firm = some h then (s.setCtx x { s.ctx x with firm := none }, [.completed x cls]) else (s, [])

/-- DC acts on the report of its firm handle and ignores every other (R77). -/
def State.reportToDuel (s : State) (cls : SpeechClass) (h : Nat) : Act :=
  if s.dc.firm = some h then ({ s with dc := { s.dc with firm := none } }, [.duelCompleted cls]) else (s, [])

/-! ### Leaving READY, appends and the hold entry (R53, R90, R99, R195) -/

/-- KS has reported that a seat left READY: the running duel is forfeited, a solo context acts by its state, any
other context is not changed (R53, R90). -/
def State.loseSeat (s : State) (x : Seat) : Act :=
  match (s.ctx x).mode with
  | .duel => if s.duelRuns then s.forfeit x else (s, [])
  | .solo => s.leaveSolo x false
  | .off => (s, [])

/-- RL has appended a waiting record (R99 step 3). -/
def State.recordAppended (s : State) (x : Seat) : Act :=
  if (s.ctx x).mode = .duel then s.duelAppended x else s.goOnSolo x

/-- The hold entry's effect on a solo context (R54). -/
def State.holdSolo (s : State) (x : Seat) : State :=
  if (s.ctx x).mode = .solo then
    match (s.ctx x).state with
    | .prompting | .typing | .feedback => s.pauseSolo x .hold
    | .idle | .waitingLog | .paused | .done => s
  else s

/-- The hold entry, if one is outstanding (R195). -/
def State.enterHold (s : State) : Act :=
  if s.fb.holdDue then
    let s1 := { s with fb := { s.fb with holdDue := false } }
    ((((s1.holdSolo .a).holdSolo .b).holdDuelContexts).cancelLessons, [.arbitrate])
  else (s, [])

/-! ### Tasks -/

/-- What a task of AE, DC or the hold entry does. -/
def runLessonTask (t : Task) (s : State) : Act :=
  match t with
  | .arbitrate => s.arbitrate
  | .report (.seat x) cls h _ => s.reportToSeat x cls h
  | .report .duel cls h _ => s.reportToDuel cls h
  | .report .announce _ h st => (s.noteAnnouncement h st, [])
  | .say x cls clips => s.placeDisposable x cls clips
  | .firm x cls clips => s.placeFirm x cls clips
  | .completed x cls => s.completeFirm x cls
  | .takeKeys x => s.takeKey x
  | .judge x k => s.judgeKey x k
  | .endSolo x o => s.endSolo x o
  | .append x => s.appendSolo x
  | .goOn x => s.goOnSolo x
  | .present x => s.presentSolo x
  | .appended x => s.recordAppended x
  | .resumeSolo x => s.resumeSolo x
  | .resumeHeld x => s.resumeHeld x
  | .seatLost x => s.loseSeat x
  | .duelFirm cls clips => s.placeDuelFirm cls clips
  | .duelCompleted cls => s.completeDuelFirm cls
  | .presentRound => s.presentRound
  | .settleCheck => s.checkSettled
  | .settle silent => s.settleRound silent
  | .closeRound => s.closeRound
  | .afterRecords => s.afterRecords
  | .resumeDuel => s.resumeDuel
  | .holdEntry => s.enterHold

/-- A task of SE alone, which the freeze of AE and DC does not stop (R56, R93, R197). -/
def Task.ofSpeech : Task → Bool
  | .arbitrate => true
  | .report .announce _ _ _ => true
  | _ => false

/-- Carries out a task. After the lockdown entry AE and DC take no further event (R56, R93). -/
def runTask (t : Task) (s : State) : Act :=
  if s.fb.frozen && !t.ofSpeech then (s, []) else runLessonTask t s

/-- Carries out tasks in order; what a task leads to is carried out before the tasks behind it. -/
def drain : Nat → List Task → State → State
  | 0, _, s => s
  | _, [], s => s
  | k + 1, t :: ts, s =>
    match runTask t s with
    | (s1, more) => drain k (more ++ ts) s1

/-- Carries out an act and everything that follows from it. -/
def State.carryOut (s : State) (ts : List Task) : State := drain Config.cascade ts s

/-- Carries out an act with everything that follows from it. -/
def Act.done (a : Act) : State := a.1.carryOut a.2

end Sys2Proof.Machine
end

