-- ==== Sys2Proof/Machine/Scanning.lean ====
section
/-! DEFINITION. The Key Scanner (spec 06): decodes, debounce and key events, alerts, the key queue, the scan, the
ladder check and the seat machine. -/

namespace Sys2Proof.Machine

/-! ### Decodes and key events (R110, R115, R116) -/

/-- The decode of a row level (R110). -/
def decodeLevel (level : Nat) : Decode :=
  if 920 ≤ level then .idle
  else
    let k := level / 128
    let offset := level % 128
    if k ≤ 6 ∧ 24 ≤ offset ∧ offset ≤ 104 then .step k else .ambiguous

/-- The step whose key-down a change of stable state gives (R116). -/
def keyDownOf (before after : Decode) : Option Nat :=
  match before, after with
  | .idle, .step k => some k
  | .step j, .step k => if j = k then none else some k
  | _, _ => none

/-- The seat of a converter row index (R109). -/
def rowSeat (i : Nat) : Seat := if i < 8 then .a else .b

/-- A row record with a new decode seen (R115 step 1). -/
def RowRecord.see (r : RowRecord) (d : Decode) : RowRecord :=
  if d = r.candidate then { r with streak := satSucc 15 r.streak } else { r with candidate := d, streak := 1 }

/-- The candidate is accepted as a new stable reading (R115 step 2). -/
def RowRecord.accepts (r : RowRecord) (debounce : Nat) : Bool :=
  decide (debounce ≤ r.streak) && r.candidate != r.stable

/-- A row record whose candidate becomes its stable reading (R115 step 2). -/
def RowRecord.settle (r : RowRecord) : RowRecord :=
  { r with stable := r.candidate, holdCount := 0, alerted := false, due := false }

/-- A row of a seat. -/
def SeatRecord.row (r : SeatRecord) (n : Nat) : RowRecord := r.rows.getD n RowRecord.fresh

/-- Replaces a row of a seat. -/
def SeatRecord.setRow (r : SeatRecord) (n : Nat) (v : RowRecord) : SeatRecord := { r with rows := r.rows.set n v }

/-! ### Alerts (R117, R118) -/

/-- The alert of a row: alerted, the sticky hold or chord row, and cause ALERT (R117). -/
def State.giveAlert (s : State) (x : Seat) (n : Nat) : State :=
  let r := s.seat x
  let row := r.row n
  let r1 := r.setRow n { row with alerted := true, due := false }
  let mask := 1#8 <<< n
  let r2 := match row.stable with
    | .step _ => { r1 with holdRows := r1.holdRows ||| mask }
    | .ambiguous => { r1 with chordRows := r1.chordRows ||| mask }
    | .idle => r1
  (s.setSeat x r2).raise .alert

/-- The alert of a row if a lesson tick has found one that is not yet given (R117, assumption 13). -/
def State.giveDue (s : State) (x : Seat) (n : Nat) : State :=
  if ((s.seat x).row n).due then s.giveAlert x n else s

/-- Every alert of a seat that is found and not yet given. -/
def State.giveAllDue (s : State) (x : Seat) : State := (List.range 8).foldl (fun s n => s.giveDue x n) s

/-- A lesson tick advances a row record of a READY seat (R117). -/
def RowRecord.tick (limit : Nat) (r : RowRecord) : RowRecord :=
  if r.stable = .idle then r
  else
    let held := min (r.holdCount + 1) 2000
    { r with holdCount := held, due := r.due || (decide (limit ≤ held) && !r.alerted) }

/-- A lesson tick advances the rows of a seat in READY (R117). -/
def State.tickSeat (s : State) (x : Seat) : State :=
  let r := s.seat x
  if r.state = .ready then s.setSeat x { r with rows := r.rows.map (RowRecord.tick s.cfg.holdLimit) } else s

/-! ### The key queue (R119) -/

/-- The key map of a map slot. -/
def State.keyMap (s : State) (slot : Nat) : KeyMap := if slot = 0 then s.ks.map0 else s.ks.map1

/-- The key code of a row and step in a seat's map slot (R116, R122). -/
def State.mapEntry (s : State) (x : Seat) (row step : Nat) : KeyCode :=
  match (s.seat x).mapSlot with
  | some slot => (s.keyMap slot).entries.getD (7 * row + step) .unused
  | none => .unused

/-- The seat's context stands in FEEDBACK of a duel with keys queued. They were typed in WAITING_LOG and stay queued until
the next prompt puts the context in PROMPTING (R86): a context in FEEDBACK has discarded every other key. -/
def State.keysHeld (s : State) (x : Seat) : Bool :=
  (s.ctx x).mode == .duel && (s.ctx x).state == .feedback && !(s.seat x).keys.isEmpty

/-- A key-down is appended to the seat's key queue, and AE takes keys; or it is discarded with KEY_OVERRUN (R119). Behind
keys that R86 keeps it waits with them, since AE takes from the head only (R26, assumption 33). -/
def State.appendKey (s : State) (x : Seat) (k : KeyCode) : Act :=
  let r := s.seat x
  if r.keys.length < Config.keyQueue then
    (s.setSeat x { r with keys := r.keys ++ [k] }, if s.keysHeld x then [] else [.takeKeys x])
  else (s.recordFault .keyOverrun (.seat x) 0 none, [])

/-- A key-down at a row and step: in READY, a key code other than NONE goes to the key queue (R116). -/
def State.keyDown (s : State) (x : Seat) (row step : Nat) : Act :=
  if (s.seat x).state = .ready ∧ s.mapEntry x row step ≠ .unused then s.appendKey x (s.mapEntry x row step)
  else (s, [])

/-- A row's record takes a decode, with the key event of any change of stable state (R115, R116). -/
def State.debounce (s : State) (x : Seat) (n : Nat) (d : Decode) : Act :=
  let seen := ((s.seat x).row n).see d
  let s1 := s.setSeat x ((s.seat x).setRow n seen)
  if seen.accepts s.cfg.debounceCount then
    let s2 := s1.giveDue x n
    let s3 := s2.setSeat x ((s2.seat x).setRow n ((s2.seat x).row n).settle)
    match keyDownOf seen.stable seen.candidate with
    | some k => s3.keyDown x n k
    | none => (s3, [])
  else (s1, [])

/-! ### The scan (R111 to R113) -/

/-- A seat's rows are converted in CHECKING and READY (R111). -/
def State.converts (s : State) (x : Seat) : Bool :=
  match (s.seat x).state with
  | .checking | .ready => true
  | .empty | .identifying | .faulted => false

/-- The next row to convert, from a converter row index on (R111). -/
def State.nextRow (s : State) (i : Nat) : Option Nat :=
  ((List.range 16).drop i).find? fun k => s.converts (rowSeat k)

/-- The tally of a seat at the start of a scan, or when it enters CHECKING. -/
def Tally.fresh : Tally := { rows := 0, busy := none }

/-- KS begins a scan (R111); one with no row to convert ends at once. -/
def State.beginScan (s : State) : State :=
  let first := (s.nextRow 0).map fun i => { row := i, discard := false, tally := ⟨Tally.fresh, Tally.fresh⟩ : Scan }
  { s with ks := { s.ks with scan := first } }

/-- The scan goes on to the next row to convert, or ends (R111). -/
def State.advanceScan (s : State) (sc : Scan) : State :=
  let next := (s.nextRow (sc.row + 1)).map fun i => { sc with row := i, discard := false }
  { s with ks := { s.ks with scan := next } }

/-- A seat leaves CHECKING or READY: a conversion of its rows under way will be discarded (R111). -/
def Scan.seatLeft (sc : Scan) (x : Seat) : Scan := if rowSeat sc.row = x then { sc with discard := true } else sc

/-- A seat enters CHECKING: its share of the scan in progress starts afresh, so a scan it enters partway is not
counted (R128). -/
def Scan.seatEntered (sc : Scan) (x : Seat) : Scan := { sc with tally := sc.tally.set x Tally.fresh }

/-- A change of the scan in progress, if there is one. -/
def State.mapScan (s : State) (f : Scan → Scan) : State :=
  { s with ks := { s.ks with scan := s.ks.scan.map f } }

/-- A row's conversion joins the seat's tally (R128). -/
def Tally.count (t : Tally) (row : Nat) (d : Decode) : Tally :=
  { rows := t.rows + 1, busy := if d = .idle then t.busy else some row }

/-! ### The seat machine (spec 06, section 6.8) -/

/-- The cause that a seat has changed. -/
def State.raiseSeatChange (s : State) (x : Seat) : State := s.raise (.seatChange x)

/-- A seat enters FAULTED (R126 to R129). -/
def State.faultSeat (s : State) (x : Seat) (cause : SeatFault) (row : Option Nat) : State :=
  (s.setSeat x { s.seat x with state := .faulted, faultCause := some cause, faultRow := row }).raiseSeatChange x

/-- A seat record with identity, map slot, fault and check progress absent, the key queue empty and the row records
reset (R130, R131). -/
def SeatRecord.forgotten (r : SeatRecord) : SeatRecord :=
  { r with faultCause := none, faultRow := none, identity := none, mapSlot := none, readFailures := 0,
           idleRun := 0, scansCounted := 0, lastBusyRow := none, keys := [],
           rows := List.replicate 8 RowRecord.fresh }

/-- What follows when a seat leaves a state: the report to AE from READY (R130, R131). -/
def departure (was : SeatState) (x : Seat) : List Task := if was = .ready then [.seatLost x] else []

/-- A settled "absent" sends a seat to EMPTY (R130). -/
def State.seatToEmpty (s : State) (x : Seat) : Act :=
  let s1 := (s.giveAllDue x).mapScan (·.seatLeft x)
  let s2 := s1.setSeat x { (s1.seat x).forgotten with state := .empty }
  (s2.raiseSeatChange x, departure (s.seat x).state x)

/-- A seat is sent to IDENTIFYING by CHECK_SEAT, and a new identity read begins (R131). -/
def State.seatToIdentifying (s : State) (x : Seat) : Act :=
  let s1 := (s.giveAllDue x).mapScan (·.seatLeft x)
  (s1.setSeat x { (s1.seat x).forgotten with state := .identifying }, departure (s.seat x).state x)

/-- The settled sense level acts by the seat state (R125). -/
def State.settleSense (s : State) (x : Seat) : Act :=
  let r := s.seat x
  let s1 := s.setSeat x { r with settled := r.senseLine, settleTimer := none }
  if r.senseLine then
    if r.state = .empty then
      (s1.setSeat x { s1.seat x with state := .identifying, readFailures := 0 }, [])
    else (s1, [])
  else if r.state = .empty then (s1, [])
  else s1.seatToEmpty x

/-- A failed identity read: a retry, or FAULTED (R126). -/
def State.failRead (s : State) (x : Seat) (cause : SeatFault) (code : FaultCode) (detail : Nat) : State :=
  let s1 := s.recordFault code (.seat x) detail none
  if (s1.seat x).readFailures = 0 then s1.setSeat x { s1.seat x with readFailures := 1 }
  else (s1.setSeat x { s1.seat x with identity := none }).faultSeat x cause none

/-- The map slot whose tag equals a kind (R127). -/
def State.matchingMap (s : State) (kind : Nat) : Option Nat :=
  if kind = 0 then none
  else if s.ks.map0.tag = kind then some 0
  else if s.ks.map1.tag = kind then some 1
  else none

/-- A good identity is recorded and matched to a map slot (R127). -/
def State.matchMap (s : State) (x : Seat) (i : Identity) : State :=
  let s1 := s.setSeat x { s.seat x with identity := some i }
  match s1.matchingMap i.kind.toNat with
  | some slot =>
    (s1.setSeat x { s1.seat x with
      state := .checking, mapSlot := some slot, rows := List.replicate 8 RowRecord.fresh,
      idleRun := 0, scansCounted := 0, lastBusyRow := none }).mapScan (·.seatEntered x)
  | none => (s1.setSeat x { s1.seat x with mapSlot := none }).faultSeat x .unknownKind none

/-- The identity read's completion (R126). -/
def State.completeRead (s : State) (x : Seat) (answer : Option Identity) : State :=
  match answer with
  | none => s.failRead x .noId .noId 0
  | some i =>
    if identityCheck i.kind i.serial = i.check then s.matchMap x i
    else s.failRead x .idCheck .idCheck i.check.toNat

/-! ### The ladder check (R128) -/

/-- A counted scan is evaluated (R128). The check progress keeps its last values when the seat leaves CHECKING for READY or
FAULTED, the model's choice (assumption 39). -/
def State.countScan (s : State) (x : Seat) (t : Tally) : State :=
  let r := s.seat x
  let r1 := { r with
    scansCounted := r.scansCounted + 1
    idleRun := if t.busy = none then r.idleRun + 1 else 0
    lastBusyRow := match t.busy with
      | some n => some n
      | none => r.lastBusyRow }
  if r1.idleRun = Config.ladderPass then (s.setSeat x { r1 with state := .ready }).raiseSeatChange x
  else if r1.scansCounted = Config.ladderScans then (s.setSeat x r1).faultSeat x .ladder r1.lastBusyRow
  else s.setSeat x r1

/-- The ladder check of a CHECKING seat at the conversion of one of its rows: at row 7 a scan in which all 8 rows
were converted is counted (R128). -/
def State.ladderCheck (s : State) (x : Seat) (n : Nat) (t : Tally) : State :=
  if (s.seat x).state = .checking ∧ n = 7 ∧ t.rows = 8 then s.countScan x t else s

/-- A row conversion completes (R111, R115, R128). A discarded one reaches no row record and no check. -/
def State.completeRow (s : State) (sc : Scan) (level : Nat) : Act :=
  if sc.discard then (s.advanceScan sc, [])
  else
    let x := rowSeat sc.row
    let n := sc.row % 8
    let d := decodeLevel level
    let t := (sc.tally.get x).count n d
    let (s1, after) := s.debounce x n d
    let s2 := s1.ladderCheck x n t
    (s2.advanceScan { sc with tally := sc.tally.set x t }, after)

end Sys2Proof.Machine
end

