-- ==== Sys2Proof/Machine/Timing.lean ====
section
/-! DEFINITION. The Timebase (spec 07): scan starts and lesson ticks, what a lesson tick does to attempt contexts
(R28), and one master-clock period (R136), which is what a step does when no command waits (assumption 3). -/

namespace Sys2Proof.Machine

/-! ### Lesson ticks (R28, R141) -/

/-- The attempt of a context is in progress and its elapsed counts (R28). A duel seat whose attempt has ended keeps
its target until the round settles, and does not count. -/
def Context.counts (c : Context) (duelEnded : Bool) : Bool :=
  c.target.isSome && c.startTick.isSome && !(c.mode == .duel && duelEnded)

/-- A lesson tick in an attempt context (R28). -/
def Context.tick (c : Context) (duelEnded : Bool) : Context :=
  { c with
    elapsed := if c.counts duelEnded then satSucc 65535 c.elapsed else c.elapsed
    idleTimer := if c.state = .typing ∧ c.idleRunning = true then c.idleTimer - 1 else c.idleTimer }

/-- A lesson tick in both contexts, unless they are frozen (R28, R56). -/
def State.tickContexts (s : State) : State :=
  if s.fb.frozen then s
  else { s with ae := ⟨s.ae.a.tick (s.round .a).ended.isSome, s.ae.b.tick (s.round .b).ended.isSome⟩ }

/-- The next scan start brings the tick divider's count to the divisor in use (R141). -/
def State.tickIsNext (s : State) : Bool := decide (s.tb.divisorInUse ≤ s.tb.count + 1)

/-- The tick divider issues a lesson tick: its count is 0, the counter goes on, and the stored divisor is taken into use
(R141, R142). -/
def State.lessonTick (s : State) : State :=
  let s1 := { s with tb := { s.tb with
    count := 0, counter := wrapSucc s.tb.counter, divisorInUse := s.cfg.tickDivisor } }
  ((s1.tickSeat .a).tickSeat .b).tickContexts

/-- The tick divider counts a scan start, and issues a lesson tick when its count reaches the divisor in use (R141). -/
def State.countScanStart (s : State) : State :=
  if s.tickIsNext then s.lessonTick else { s with tb := { s.tb with count := s.tb.count + 1 } }

/-! ### The scan generator (R137 to R140) -/

/-- The scan generator stops (R139, R140). -/
def State.stopGenerator (s : State) : State := { s with tb := { s.tb with generator := .stopped } }

/-- The down-count is loaded with the scan divisor as it stands (R137, R138). -/
def State.loadGenerator (s : State) : State := { s with tb := { s.tb with generator := .running s.cfg.scanDivisor } }

/-- The generator is RUNNING. -/
def State.generatorRuns (s : State) : Bool :=
  match s.tb.generator with
  | .running _ => true
  | .stopped => false

/-- KS takes a scan start: it begins a scan, or drops the start with SCAN_OVERRUN (R111, R112). -/
def State.takeScanStart (s : State) : State :=
  match s.ks.scan with
  | none => s.beginScan
  | some _ => s.recordFault .scanOverrun .nothing 0 none

/-- The generator issues a scan start to the tick divider and to KS, and its down-count is loaded again (R137, R141). -/
def State.issueScanStart (s : State) : State := (s.loadGenerator.countScanStart).takeScanStart

/-- A scan start of a RUNNING generator; in STOPPED none is issued (R137). -/
def State.scanStart (s : State) : State := if s.generatorRuns then s.issueScanStart else s

/-- The scan start that brings a lesson tick, if that is the next one (R141). -/
def State.tickStart (s : State) : State := if s.tickIsNext then s.scanStart else s

/-- A conversion times out: the scan is abandoned, CONVERTER_TIMEOUT is recorded and the generator stops (R113). -/
def State.timeOutRow (s : State) (sc : Scan) : State :=
  (({ s with ks := { s.ks with scan := none } }).recordFault .converterTimeout .nothing sc.row (some true)).stopGenerator

/-! ### One master-clock period (R136) -/

/-- A count of periods left, one less, not below 1: the period that would end it is the event's own (assumption 3). -/
def countDown (n : Nat) : Nat := max (n - 1) 1

/-- The generator's period. -/
def Generator.period : Generator → Generator
  | .running n => .running (countDown n)
  | .stopped => .stopped

/-- The period of a seat's settle timer. -/
def SeatRecord.period (r : SeatRecord) : SeatRecord := { r with settleTimer := r.settleTimer.map countDown }

/-- The period of the verify unit: a byte every three periods, up to the last (R176). -/
def State.verifyPeriod (s : State) : State :=
  match s.cs.verify with
  | none => s
  | some v =>
    match s.clip v.clip with
    | none => s
    | some c =>
      let next :=
        if v.phase + 1 < Config.verifyPeriods then { v with phase := v.phase + 1 }
        else if v.checked < c.length then
          { v with phase := 0, checked := v.checked + 1, register := crcByte v.register (s.clipByte c v.checked) }
        else v
      { s with cs := { s.cs with verify := some next } }

/-- The period of a voice: its position moves within the clip, up to the last sample (R155). -/
def State.voicePeriod (s : State) : Option Playing → Option Playing
  | none => none
  | some p =>
    match p.utterance.clips[p.index]? with
    | none => some p
    | some id =>
      match s.clip id with
      | none => some p
      | some c =>
        let phase := p.phase + c.rate
        if phase < Config.clockHz then some { p with phase := phase }
        else if p.sample + 1 < c.samples then
          some { p with sample := p.sample + 1, phase := phase - Config.clockHz }
        else some p

/-- One master-clock period passes (R136, assumption 3). -/
def State.clockPeriod (s : State) : State :=
  let s1 := s.verifyPeriod
  { s1 with
    tb := { s1.tb with generator := s1.tb.generator.period }
    lp := { s1.lp with gapTimer := s1.lp.gapTimer.map countDown }
    ks := { s1.ks with seats := ⟨s1.ks.seats.a.period, s1.ks.seats.b.period⟩ }
    se := { s1.se with v0 := s1.voicePeriod s1.se.v0, v1 := s1.voicePeriod s1.se.v1 } }

end Sys2Proof.Machine
end

