-- ==== Sys2Proof/Machine/Link.lean ====
section
/-! DEFINITION. The Link Port (spec 11): replies, the checks around every request, the receive assembler, and how
an event acts. -/

namespace Sys2Proof.Machine

/-- What a step answers. -/
abbrev Result := Host.Outcome State Fault Refusal

/-- What an owner gives back for a request: the state, the status and the contents behind the status. -/
abbrev Answer := State × Status × List Byte

/-- The request was carried out, with these contents. -/
def State.ok (s : State) (contents : List Byte) : Answer := (s, .ok, contents)

/-- The request is turned away: nothing changes, and the reply carries its status alone (R205). -/
def State.deny (s : State) (st : Status) : Answer := (s, st, [])

/-! ### Replies (R205, R206) -/

/-- The kind of the reply to a request kind (spec 11.2). -/
def replyKind (kind : Byte) : Byte := kind + 0x80

/-- A reply joins the tail of the reply queue (R206). -/
def State.reply (s : State) (kind tag : Byte) (payload : List Byte) : State :=
  { s with lp := { s.lp with replies := s.lp.replies ++ [{ kind := kind, tag := tag, payload := payload }] } }

/-- The reply to a request: its kind plus 0x80, its tag, the status and the contents (R205, R209). -/
def State.answer (s : State) (c : Instr) (st : Status) (contents : List Byte) : State :=
  s.reply (replyKind c.kind) c.tag (st.code :: contents)

/-- The reply queue holds 4 replies (R203 step 1). -/
def State.repliesFull (s : State) : Bool := decide (Config.replyQueue ≤ s.lp.replies.length)

/-- Carries out a request (R203 steps 1 and 4 to 6, R205). Step 1: a full reply queue discards the frame with
OVERRUN. Step 4: an argument list of another length than the layout gives is answered BAD_LENGTH. Step 5: LOCKDOWN
lets five requests through. Step 6: the owner carries out its rule and the reply is queued. While the reset pin is
held nothing is taken (assumption 20). -/
def serve (c : Instr) (owner : State → Answer) (s : State) : Result :=
  if s.resetHeld then .next s
  else if s.repliesFull then .next (s.recordFault .overrun .nothing 0 none)
  else if !c.wellFormed then .next (s.answer c .badLength [])
  else if s.fb.condition = .lockdown ∧ c.passesLockdown = false then .next (s.answer c .locked [])
  else
    match owner s with
    | (s1, st, contents) => .next (s1.answer c st contents)

/-- An event acts, except while the reset pin is held (assumption 20). -/
def event (act : State → State) (s : State) : Result := .next (if s.resetHeld then s else act s)

/-- An owner of a request that names a seat refuses BAD_FIELD for a code that names none (R218). -/
def forSeat (v : Byte) (owner : Seat → State → Answer) (s : State) : Answer :=
  match seatOf v with
  | some x => owner x s
  | none => s.deny .badField

/-- A refusal with a status when a check fails, else what follows. -/
def State.refuseIf (s : State) (failed : Bool) (st : Status) (after : Answer) : Answer :=
  if failed then s.deny st else after

/-! ### The receive line (R199) -/

/-- The byte the receiver takes as the line is at mark: the character it has held back, else the one just received
(R199, assumption 27). -/
def ReceiveLine.taken (l : ReceiveLine) (value : Byte) : Byte :=
  match l with
  | .heldBack held => held
  | .mark | .space => value

/-- The line after a character whose stop bit is at space: the character is held back. With one held back already no
further character begins (R199). -/
def ReceiveLine.holding (l : ReceiveLine) (value : Byte) : ReceiveLine :=
  match l with
  | .heldBack held => .heldBack held
  | .mark | .space => .heldBack value

/-- The line with a held-back character lost; its level is the outside's. -/
def ReceiveLine.emptied (l : ReceiveLine) : ReceiveLine :=
  match l with
  | .mark => .mark
  | .heldBack _ | .space => .space

/-- The receive line as the receiver sees it now. -/
def State.setLine (s : State) (l : ReceiveLine) : State := { s with lp := { s.lp with line := l } }

/-! ### Frames (R200, R201) -/

/-- The bytes of a frame (spec 11.2, R200): start byte, length, kind, tag, payload, CRC low byte first. -/
def frameOf (kind tag : Byte) (payload : List Byte) : List Byte :=
  let covered := [byte payload.length, kind, tag] ++ payload
  [Config.startByte] ++ covered ++ lowFirst (crc16 covered).toNat

/-- The frame a reply is sent as (R200, R205). -/
def Reply.frame (r : Reply) : List Byte := frameOf r.kind r.tag r.payload

/-- The number of bytes of the frame under way, once its length byte is there (spec 11.2). -/
def frameLength (bytes : List Byte) : Option Nat := (bytes[1]?).map fun n => n.toNat + 6

/-- The payload length of a complete frame. -/
def framePayloadLength (bytes : List Byte) : Nat := (bytes.getD 1 0).toNat

/-- The bytes the CRC covers: length, kind, tag and payload (R200). -/
def frameCovered (bytes : List Byte) : List Byte := (bytes.drop 1).take (framePayloadLength bytes + 3)

/-- The payload of a complete frame. -/
def framePayload (bytes : List Byte) : List Byte := (bytes.drop 4).take (framePayloadLength bytes)

/-- The two CRC bytes of a complete frame. -/
def frameCheck (bytes : List Byte) : List Byte := bytes.drop (framePayloadLength bytes + 4)

/-- The received CRC equals the computed one (R200). -/
def frameGood (bytes : List Byte) : Bool := frameCheck bytes == lowFirst (crc16 (frameCovered bytes)).toNat

/-- The assembler returns to HUNTING and the gap timer stops (R201). -/
def State.hunt (s : State) : State := { s with lp := { s.lp with assembler := .hunting, gapTimer := none } }

/-- The assembler holds the bytes of a partial frame, with the gap timer started (R201, R202). -/
def State.assemble (s : State) (bytes : List Byte) : State :=
  { s with lp := { s.lp with assembler := .inFrame bytes, gapTimer := some Config.gapPeriods } }

/-- A byte received in HUNTING (R201). -/
def State.huntByte (s : State) (v : Byte) : State := if v = Config.startByte then s.assemble [v] else s

/-- The byte would complete the frame under way (R201). -/
def frameCompletes (bytes : List Byte) : Bool := frameLength bytes == some (bytes.length + 1)

/-- A byte received in a frame that it does not complete (R201). -/
def State.frameByte (s : State) (bytes : List Byte) (v : Byte) : State :=
  if bytes.length = 1 ∧ Config.payload < v.toNat then s.hunt.huntByte v else s.assemble (bytes ++ [v])

/-- The kind of a BAD_KIND reply (R203 step 3). -/
def badKindReply (kind : Byte) : Byte := if 0x01 ≤ kind.toNat ∧ kind.toNat ≤ 0x3F then replyKind kind else 0xFF

/-- The status of a RESTART whose argument is neither LESSON nor FULL (R204, R213). -/
def State.badRestart (s : State) : Status := if s.fb.condition = .lockdown then .locked else .badField

/-- A complete frame is checked and its request executed by `run` (R203). -/
def State.completeFrame (s0 : State) (run : Instr → State → Result) (bytes : List Byte) : Result :=
  let s := s0.hunt
  let kind := bytes.getD 2 0
  let tag := bytes.getD 3 0
  if s.repliesFull then .next (s.recordFault .overrun .nothing 0 none)
  else if !frameGood bytes then
    .next ((s.reply 0xFF tag [Status.badCrc.code]).recordFault .frameCrc .nothing kind.toNat none)
  else match parseRequest kind tag (framePayload bytes) with
    | .badKind => .next (s.reply (badKindReply kind) tag [Status.badKind.code])
    | .badLength => .next (s.reply (replyKind kind) tag [Status.badLength.code])
    | .badRestart => .next (s.reply (replyKind kind) tag [s.badRestart.code])
    | .request c => run c s

end Sys2Proof.Machine
end

