-- ==== Sys2Proof/Machine/ExecClips.lean ====
section
/-! DEFINITION. The requests and the event of the Clip Store (spec 09). -/

namespace Sys2Proof.Machine

/-! ### OPEN_CLIP (R172, R173) -/

/-- A clip just opened (R172). -/
def Clip.opened (format : Format) (rate length first : Nat) (crc : BitVec 16) : Clip :=
  { state := .loading, format := format, rate := rate, length := length, firstBlock := first,
    blockCount := blocksFor length, crc := crc, fill := 0, pins := 0, badCause := none }

/-- A clip enters LOADING and its run of blocks becomes held (R172). -/
def State.openRun (s : State) (id : Nat) (c : Clip) : State :=
  let s1 := s.setClip id (some c)
  { s1 with cs := { s1.cs with blocks := holdBlocks s1.cs.blocks id c.firstBlock c.blockCount } }

/-- OPEN_CLIP with its arguments named (R172 steps 2 and 3). -/
def State.openClipAt (s : State) (id : Nat) (format : Format) (rate length : Nat) (crc : BitVec 16) : Answer :=
  s.refuseIf (s.clip id).isSome .duplicate <|
  match firstFit s.cs.blocks (blocksFor length) with
  | none => s.deny .noSpace
  | some b =>
    (s.openRun id (Clip.opened format rate length b crc)).ok (lowFirst b ++ [byte (blocksFor length)])

/-- The length of a clip fits its format (R172 step 1). -/
def lengthGood (format : Format) (length : Nat) : Bool :=
  length != 0 && (format == .u8 || length % 2 == 0)

/-- OPEN_CLIP (R172). -/
def openClipOwner (id format rate : Byte) (length crc : Word16) (s : State) : Answer :=
  match clipIdOf id, formatOf format, rateOf rate with
  | some n, some f, some r =>
    s.refuseIf (!lengthGood f length.toNat) .badField <| s.openClipAt n f r length.toNat crc
  | _, _, _ => s.deny .badField

/-- OPEN_CLIP (R172). -/
def execOpenClip (tag id format rate : Byte) (length crc : Word16) (s : State) : Result :=
  serve (.openClip tag id format rate length crc) (openClipOwner id format rate length crc) s

/-! ### CLIP_DATA (R174) -/

/-- CS stores bytes at an address, each with its parity mark (R174). -/
def State.storeBytes (s : State) (address : Nat) (bytes : List Byte) : State :=
  { s with cs := { s.cs with
      bytes := Memory.writeAll s.cs.bytes address bytes
      parity := Memory.writeAll s.cs.parity address (bytes.map parityMark) } }

/-- The next bytes of a clip are written and its fill increases (R174). -/
def State.writeClip (s : State) (id : Nat) (c : Clip) (bytes : List Byte) : State :=
  (s.storeBytes (c.address c.fill) bytes).setClip id (some { c with fill := c.fill + bytes.length })

/-- CLIP_DATA for a clip id (R174 steps 2 to 4). -/
def State.clipDataAt (s : State) (id offset : Nat) (bytes : List Byte) : Answer :=
  match s.clip id with
  | none => s.deny .wrongState
  | some c =>
    s.refuseIf (c.state != .loading) .wrongState <|
    s.refuseIf (offset != c.fill) .badField <|
    s.refuseIf (decide (c.length < offset + bytes.length)) .badField <|
    (s.writeClip id c bytes).ok (lowFirst (c.fill + bytes.length))

/-- CLIP_DATA (R174). -/
def clipDataOwner (id : Byte) (offset : Word16) (count : Byte) (bytes : List Byte) (s : State) : Answer :=
  match clipIdOf id with
  | some n =>
    s.refuseIf (decide (count.toNat = 0 ∨ 48 < count.toNat)) .badField <| s.clipDataAt n offset.toNat bytes
  | none => s.deny .badField

/-- CLIP_DATA (R174). -/
def execClipData (tag id : Byte) (offset : Word16) (count : Byte) (bytes : List Byte) (s : State) : Result :=
  serve (.clipData tag id offset count bytes) (clipDataOwner id offset count bytes) s

/-! ### COMMIT_CLIP (R175) -/

/-- A clip enters VERIFYING and the verify unit becomes BUSY with it (R175). -/
def State.beginVerify (s : State) (id : Nat) (c : Clip) : State :=
  let s1 := s.setClip id (some { c with state := .verifying })
  { s1 with cs := { s1.cs with verify := some { clip := id, checked := 0, register := 0xFFFF, phase := 0 } } }

/-- COMMIT_CLIP for a clip id (R175 steps 2 to 4). -/
def State.commitClipAt (s : State) (id : Nat) : Answer :=
  match s.clip id with
  | none => s.deny .wrongState
  | some c =>
    s.refuseIf (c.state != .loading) .wrongState <|
    s.refuseIf (c.fill != c.length) .badField <|
    s.refuseIf s.cs.verify.isSome .busy <|
    (s.beginVerify id c, .accepted, [])

/-- An owner of a request that names a clip refuses BAD_FIELD for an id of 0 or above 160. -/
def forClip (v : Byte) (owner : Nat → State → Answer) (s : State) : Answer :=
  match clipIdOf v with
  | some id => owner id s
  | none => s.deny .badField

/-- COMMIT_CLIP (R175). -/
def execCommitClip (tag id : Byte) (s : State) : Result :=
  serve (.commitClip tag id) (forClip id fun n s => s.commitClipAt n) s

/-! ### DELETE_CLIP (R178) -/

/-- The clip is deleted at once: a verify of it is abandoned, its blocks are freed and it is ABSENT (R178). -/
def State.deleteNow (s : State) (id : Nat) : State :=
  let verify := match s.cs.verify with
    | some v => if v.clip = id then none else some v
    | none => none
  ({ s with cs := { s.cs with verify := verify } }).dropClip id

/-- DELETE_CLIP by the clip's state (R178). -/
def deleteClipOwner (id : Nat) (s : State) : Answer :=
  match s.clip id with
  | none => s.deny .notFound
  | some c =>
    match c.state with
    | .loading | .verifying => (s.deleteNow id).ok [0]
    | .ready | .bad =>
      if c.pins = 0 then (s.deleteNow id).ok [0]
      else (s.setClip id (some { c with state := .retiring })).ok [5]
    | .retiring => s.ok [5]

/-- DELETE_CLIP (R178). -/
def execDeleteClip (tag id : Byte) (s : State) : Result := serve (.deleteClip tag id) (forClip id deleteClipOwner) s

/-! ### CLIP_STATUS and STORE_STATUS (R181, R182) -/

/-- The bytes the verify unit has checked of a clip; 0 for a clip it does not verify. -/
def State.bytesChecked (s : State) (id : Nat) : Nat :=
  match s.cs.verify with
  | some v => if v.clip = id then v.checked else 0
  | none => 0

/-- The CLIP_STATUS reply behind its status (R181, R218). -/
def State.clipBytes (s : State) (id : Nat) : List Byte :=
  match s.clip id with
  | none => List.replicate 16 0
  | some c =>
    [byte (clipStateCode (some c)), byte (formatCode c.format + 2 * rateCode c.rate), byte (badCauseCode c.badCause)] ++
    lowFirst c.length ++ lowFirst c.firstBlock ++ [byte c.blockCount] ++ lowFirst c.crc.toNat ++ lowFirst c.fill ++
    lowFirst c.pins ++ lowFirst (s.bytesChecked id)

/-- CLIP_STATUS (R181). -/
def clipStatusOwner (id : Nat) (s : State) : Answer := s.ok (s.clipBytes id)

/-- CLIP_STATUS (R181). -/
def execClipStatus (tag id : Byte) (s : State) : Result := serve (.clipStatus tag id) (forClip id clipStatusOwner) s

/-- The number of directory entries in a state, by its code. -/
def State.clipsIn (s : State) (code : Nat) : Nat := s.cs.directory.countP fun c => clipStateCode c == code

/-- The verify unit in the STORE_STATUS reply. -/
def State.verifyBytes (s : State) : List Byte :=
  match s.cs.verify with
  | some v => [1, byte v.clip] ++ lowFirst v.checked
  | none => [0, 0, 0, 0]

/-- The first block of the longest free stretch, 65535 when no block is free (R182, R218). -/
def longestStart (stretch : Nat × Nat) : Nat := if stretch.2 = 0 then 65535 else stretch.1

/-- The STORE_STATUS reply behind its status (R182, R218). -/
def State.storeBytesReply (s : State) : List Byte :=
  let stretch := longestFree s.cs.blocks
  lowFirst s.freeCount ++ lowFirst stretch.2 ++ lowFirst (longestStart stretch) ++
  [byte (s.clipsIn 0), byte (s.clipsIn 1), byte (s.clipsIn 2), byte (s.clipsIn 3), byte (s.clipsIn 4),
    byte (s.clipsIn 5)] ++ s.verifyBytes

/-- STORE_STATUS (R182). -/
def storeStatusOwner (s : State) : Answer := s.ok s.storeBytesReply

/-- STORE_STATUS (R182). -/
def execStoreStatus (tag : Byte) (s : State) : Result := serve (.storeStatus tag) storeStatusOwner s

/-- VERIFY_COMPLETE (R177); with the verify unit FREE there is nothing to complete. -/
def execVerifyComplete (s : State) : Result := event State.completeVerify s

end Sys2Proof.Machine
end

