-- ==== Sys2Proof/Machine/ExecControl.lean ====
section
/-! DEFINITION. Configuration, status, restarts and the reset pin (spec 11, sections 11.5 to 11.7). -/

namespace Sys2Proof.Machine

/-! ### CONFIGURE and READ_CONFIG (R210, R211) -/

/-- The configuration an image gives (R210). -/
def configOf (im : ConfigImage) : Configuration :=
  { scanDivisor := im.scanDivisor.toNat, tickDivisor := im.tickDivisor.toNat, debounceCount := im.debounceCount.toNat,
    holdLimit := im.holdLimit.toNat, idleLimit := im.idleLimit.toNat, nudgeLimit := im.nudgeLimit.toNat,
    tryLimit := im.tryLimit.toNat, letterMissLimit := im.letterMissLimit.toNat,
    repeatLimit := im.repeatLimit.toNat, reinsertGap := im.reinsertGap.toNat, refillMark := im.refillMark.toNat,
    refillTarget := im.refillTarget.toNat, masteryStreak := im.masteryStreak.toNat,
    logThreshold := im.logThreshold.toNat }

/-- A number lies in a range. -/
def inRange (low high n : Nat) : Bool := decide (low ≤ n) && decide (n ≤ high)

/-- Every field lies in its range, and the refill target is greater than the refill mark (R210, R21). -/
def Configuration.valid (c : Configuration) : Bool :=
  inRange 1 65535 c.scanDivisor && inRange 1 255 c.tickDivisor && inRange 1 15 c.debounceCount &&
  inRange 50 2000 c.holdLimit && inRange 100 6000 c.idleLimit && inRange 0 3 c.nudgeLimit &&
  inRange 1 3 c.tryLimit && inRange 1 5 c.letterMissLimit && inRange 0 5 c.repeatLimit &&
  inRange 0 7 c.reinsertGap && inRange 0 5 c.refillMark && inRange 1 8 c.refillTarget &&
  inRange 1 15 c.masteryStreak && inRange 1 31 c.logThreshold && decide (c.refillMark < c.refillTarget)

/-- CONFIGURE: all fields or none, then RL's evaluation of the threshold flag (R101, R210). -/
def configureOwner (im : ConfigImage) (s : State) : Answer :=
  s.refuseIf (!(configOf im).valid) .badField <| (({ s with cfg := configOf im }).evaluateThreshold).ok []

/-- CONFIGURE (R210). -/
def execConfigure (tag : Byte) (image : ConfigImage) (s : State) : Result :=
  serve (.configure tag image) (configureOwner image) s

/-- The 17 bytes of the stored configuration (R210, R211). -/
def Configuration.bytes (c : Configuration) : List Byte :=
  lowFirst c.scanDivisor ++ [byte c.tickDivisor, byte c.debounceCount] ++ lowFirst c.holdLimit ++
  lowFirst c.idleLimit ++
  [byte c.nudgeLimit, byte c.tryLimit, byte c.letterMissLimit, byte c.repeatLimit, byte c.reinsertGap,
    byte c.refillMark, byte c.refillTarget, byte c.masteryStreak, byte c.logThreshold]

/-- READ_CONFIG (R211). -/
def readConfigOwner (s : State) : Answer := s.ok s.cfg.bytes

/-- READ_CONFIG (R211). -/
def execReadConfig (tag : Byte) (s : State) : Result := serve (.readConfig tag) readConfigOwner s

/-! ### STATUS (R212) -/

/-- The banks that hold a valid record (R212). -/
def State.validBanks (s : State) : Nat :=
  bit s.fb.link.held.isSome + 2 * bit s.fb.scan.held.isSome + 4 * bit s.fb.audio.held.isSome +
    8 * bit s.fb.lesson.held.isSome

/-- The STATUS reply behind its status (R212). -/
def State.statusBytes (s : State) : List Byte :=
  [byte (conditionCode s.fb.condition), byte (bit s.generatorRuns), byte (seatStateCode (s.seat .a).state),
    byte (seatStateCode (s.seat .b).state), byte (contextStateCode s.ae.a.state),
    byte (contextStateCode s.ae.b.state), byte (duelStateCode s.dc.state), byte s.rl.records.length] ++
  lowFirst s.au.raised.toNat ++ [byte s.validBanks] ++ lowFirst s.freeCount

/-- STATUS (R212). -/
def statusOwner (s : State) : Answer := s.ok s.statusBytes

/-- STATUS (R212). -/
def execStatus (tag : Byte) (s : State) : Result := serve (.status tag) statusOwner s

/-! ### Restarts (R213 to R216) -/

/-- A context after RESTART LESSON: the values of R24, with style and options kept (R24, R57). -/
def Context.restarted (c : Context) : Context :=
  { Context.fresh with style := c.style, echo := c.echo, bargeIn := c.bargeIn, sentence := c.sentence }

/-- A seat record after RESTART LESSON: key queue empty and row records reset (R135). -/
def SeatRecord.restarted (r : SeatRecord) : SeatRecord :=
  { r with keys := [], rows := List.replicate 8 RowRecord.fresh }

/-- RESTART LESSON, as one act (R214). -/
def State.lessonRestart (s : State) : State :=
  let s1 := ((s.cancelAll).giveAllDue .a).giveAllDue .b
  { s1 with
    ae := ⟨s1.ae.a.restarted, s1.ae.b.restarted⟩
    dc := DuelRecord.fresh
    rl := { s1.rl with waiting := [] }
    ps := { practice := ⟨[], []⟩, duel := [] }
    ks := { s1.ks with seats := ⟨s1.ks.seats.a.restarted, s1.ks.seats.b.restarted⟩ }
    fb := { s1.fb with condition := .normal, holdDue := false } }

/-- RESTART LESSON (R213, R214). -/
def restartLessonOwner (s : State) : Answer := s.lessonRestart.ok []

/-- RESTART LESSON (R214). -/
def execRestartLesson (tag : Byte) (s : State) : Result := serve (.restartLesson tag) restartLessonOwner s

/-- A seat placed in EMPTY with its settle timer started from its sense line as it stands (R135, R215, R216). -/
def SeatRecord.resensed (r : SeatRecord) : SeatRecord := { SeatRecord.fresh with senseLine := r.senseLine }

/-- The power-on values of every block, with the levels of the sense lines and of the receive line, the clip bytes as they
stand and the commands that wait (R185, R216, assumptions 2 and 27). -/
def State.powerUp (s : State) : State :=
  { State.reset with
    lp := { State.reset.lp with line := s.lp.line.emptied }
    ks := { State.reset.ks with seats := ⟨s.ks.seats.a.resensed, s.ks.seats.b.resensed⟩ }
    cs := { ClipStore.fresh with bytes := s.cs.bytes, parity := s.cs.parity }
    pending := s.pending }

/-- RESTART FULL sets every block to its power-on state, except the reply queue (R215). -/
def State.fullRestart (s : State) : State :=
  { s.powerUp with lp := { s.powerUp.lp with replies := s.lp.replies } }

/-- RESTART FULL (R213, R215). -/
def restartFullOwner (s : State) : Answer := s.fullRestart.ok []

/-- RESTART FULL (R215). -/
def execRestartFull (tag : Byte) (s : State) : Result := serve (.restartFull tag) restartFullOwner s

/-- POWER_ON: the release of the reset pin (R216). -/
def execPowerOn (s : State) : Result := .next s.powerUp

/-- RESET_PIN_ASSERTED: the lines go to their held levels and a frame under way is lost, a held-back character with it
(R216, assumption 27). The lines follow from `resetHeld`; the blocks take their power-on values at the release. -/
def execResetPinAsserted (s : State) : Result := .next { s.hunt.setLine s.lp.line.emptied with resetHeld := true }

end Sys2Proof.Machine
end

