-- ==== Sys2Proof/Machine/ExecAttempts.lean ====
section
/-! DEFINITION. The requests and events of the Attempt Engine (spec 02, sections 2.3, 2.7 and 2.9). -/

namespace Sys2Proof.Machine

/-! ### START_SOLO (R31) -/

/-- A context that begins solo practice (R31). -/
def Context.startSolo (c : Context) (style : Style) (options : Byte) : Context :=
  { c with mode := .solo, style := style, echo := options.getLsbD 0, bargeIn := options.getLsbD 1,
           sentence := options.getLsbD 2, stopMarked := false }

/-- START_SOLO is refused WRONG_STATE (R31 step 2). -/
def State.soloBarred (s : State) (x : Seat) : Bool :=
  s.fb.condition == .hold || (s.seat x).state != .ready || (s.ctx x).mode != .off || s.duelRuns

/-- START_SOLO (R31). -/
def startSoloOwner (seat style options : Byte) (s : State) : Answer :=
  match seatOf seat, styleOf style with
  | some x, some st =>
    s.refuseIf (s.soloBarred x) .wrongState <|
    ((((s.setCtx x ((s.ctx x).startSolo st options)).refillSeat x).carryOut [.present x]).ok [])
  | _, _ => s.deny .badField

/-- START_SOLO (R31). -/
def execStartSolo (tag seat style options : Byte) (s : State) : Result :=
  serve (.startSolo tag seat style options) (startSoloOwner seat style options) s

/-! ### STOP_SEAT, PAUSE_SEAT, RESUME_SEAT, SKIP_WORD (R48 to R51) -/

/-- STOP_SEAT (R50). -/
def stopSeatOwner (x : Seat) (s : State) : Answer :=
  s.refuseIf ((s.ctx x).mode == .duel) .wrongState <| (s.leaveSolo x true).done.ok []

/-- STOP_SEAT (R50). -/
def execStopSeat (tag seat : Byte) (s : State) : Result := serve (.stopSeat tag seat) (forSeat seat stopSeatOwner) s

/-- The context is at work on a word: PROMPTING or TYPING (R51). -/
def Context.atWork (c : Context) : Bool := c.state == .prompting || c.state == .typing

/-- PAUSE_SEAT (R48). -/
def pauseSeatOwner (x : Seat) (s : State) : Answer :=
  let c := s.ctx x
  s.refuseIf (!(c.mode == .solo && (c.atWork || c.state == .feedback))) .wrongState <|
  (((s.pauseSolo x .host).cancelSeat x).carryOut [.arbitrate]).ok []

/-- PAUSE_SEAT (R48). -/
def execPauseSeat (tag seat : Byte) (s : State) : Result := serve (.pauseSeat tag seat) (forSeat seat pauseSeatOwner) s

/-- RESUME_SEAT (R49). -/
def resumeSeatOwner (x : Seat) (s : State) : Answer :=
  let c := s.ctx x
  s.refuseIf (s.fb.condition == .hold || !(c.state == .paused && c.pauseCause == some .host)) .wrongState <|
  (s.resumeSolo x).done.ok []

/-- RESUME_SEAT (R49). -/
def execResumeSeat (tag seat : Byte) (s : State) : Result :=
  serve (.resumeSeat tag seat) (forSeat seat resumeSeatOwner) s

/-- SKIP_WORD (R51). -/
def skipWordOwner (x : Seat) (s : State) : Answer :=
  let c := s.ctx x
  s.refuseIf (s.fb.condition == .hold || !(c.mode == .solo && c.atWork)) .wrongState <|
  (((s.setCtx x { c with firm := none }).cancelHandle c.firm).carryOut
    [.arbitrate, .endSolo x .skippedHost]).ok []

/-- SKIP_WORD (R51). -/
def execSkipWord (tag seat : Byte) (s : State) : Result := serve (.skipWord tag seat) (forSeat seat skipWordOwner) s

/-! ### READ_ATTEMPT (R52) -/

/-- The word id of a target copy, 0 for absent. -/
def copyWordId : Option TargetCopy → Nat
  | some t => t.wordId
  | none => 0

/-- The READ_ATTEMPT reply behind its status (R52, R218). -/
def State.attemptBytes (s : State) (x : Seat) : List Byte :=
  let c := s.ctx x
  [byte (modeCode c.mode + 4 * styleCode c.style + 8 * bit c.echo + 16 * bit c.bargeIn + 32 * bit c.sentence +
      64 * bit c.stopMarked + 128 * bit (s.inFlight x)),
    byte (contextStateCode c.state + 8 * pauseCode c.pauseCause + 32 * orZero (s.waitStamp x) +
      128 * bit c.idleRunning),
    byte (or255 c.target)] ++ lowFirst (copyWordId c.copy) ++
  [byte (c.typed.length + 32 * bit c.startTick.isSome + 64 * bit c.pendingRecord.isSome),
    byte (c.cursor + 32 * c.repeats), byte (c.wrongHere + 8 * c.autofills),
    byte (c.tries + 4 * c.nudges + 16 * c.hints), byte c.wrongTotal, byte c.keys] ++
  mistakeBytes c.lastMistake ++ lowFirst (orZero c.startTick) ++ lowFirst c.elapsed ++ lowFirst c.idleTimer ++
  [byte (orZero c.firm)] ++ padTo 16 0 (c.typed.map byte) ++
  (match c.pendingRecord with
    | some r => recordBody r
    | none => List.replicate 17 0)

/-- READ_ATTEMPT (R52). -/
def readAttemptOwner (x : Seat) (s : State) : Answer := s.ok (s.attemptBytes x)

/-- READ_ATTEMPT (R52). -/
def execReadAttempt (tag seat : Byte) (s : State) : Result :=
  serve (.readAttempt tag seat) (forSeat seat readAttemptOwner) s

/-! ### IDLE_EXPIRY (R41) -/

/-- The seat's idle timer has expired: it runs, in TYPING, and stands at 0 (R28). A frozen context takes no event
(R56). -/
def State.idleExpired (s : State) (x : Seat) : Bool :=
  let c := s.ctx x
  c.state == .typing && c.idleRunning && c.idleTimer == 0 && !s.fb.frozen

/-- What an idle expiry does, by the context's mode (R41, R83). -/
def State.expireIdle (s : State) (x : Seat) : Act :=
  let s1 := s.setCtx x { s.ctx x with idleRunning := false }
  match (s.ctx x).mode with
  | .duel => s1.expireDuel x
  | .solo => s1.expireSolo x
  | .off => (s1, [])

/-- IDLE_EXPIRY (R41). -/
def execIdleExpiry (seat : Seat) (s : State) : Result :=
  event (fun s => if s.idleExpired seat then (s.expireIdle seat).done else s) s

end Sys2Proof.Machine
end

