-- ==== Sys2Proof/Machine/ExecDuels.lean ====
section
/-! DEFINITION. The requests and the event of the Duel Controller (spec 04). -/

namespace Sys2Proof.Machine

/-- A context that begins a duel (R75). -/
def Context.startDuel (c : Context) (echo sentence : Bool) : Context :=
  { c with mode := .duel, style := .wordwise, echo := echo, bargeIn := false, sentence := sentence,
           stopMarked := false }

/-- START_DUEL is refused WRONG_STATE (R75 step 2). -/
def State.duelBarred (s : State) : Bool :=
  s.fb.condition == .hold || (s.seat .a).state != .ready || (s.seat .b).state != .ready ||
    s.ae.a.mode != .off || s.ae.b.mode != .off || s.duelRuns

/-- The duel record and both contexts set for a new duel (R75). The record runs from here on, so that the refill of
R15 applies; a judgement still in flight stays in flight (R80). -/
def State.setDuel (s : State) (rounds : Nat) (echo sentence : Bool) : State :=
  { s with
    dc := { DuelRecord.fresh with
      state := .presenting, total := rounds, echo := echo, sentence := sentence, judgements := s.dc.judgements }
    ae := ⟨s.ae.a.startDuel echo sentence, s.ae.b.startDuel echo sentence⟩ }

/-- START_DUEL (R75). Of the options, the echo and sentence bits are used (R217). -/
def startDuelOwner (rounds options : Byte) (s : State) : Answer :=
  s.refuseIf (decide (rounds.toNat = 0 ∨ 20 < rounds.toNat)) .badField <|
  s.refuseIf s.duelBarred .wrongState <|
  ((((s.setDuel rounds.toNat (options.getLsbD 0) (options.getLsbD 2)).refillDuel).carryOut [.presentRound]).ok [])

/-- START_DUEL (R75). -/
def execStartDuel (tag rounds options : Byte) (s : State) : Result :=
  serve (.startDuel tag rounds options) (startDuelOwner rounds options) s

/-- STOP_DUEL (R89). -/
def stopDuelOwner (s : State) : Answer := s.refuseIf (!s.duelRuns) .wrongState <| s.stopDuelNow.done.ok []

/-- STOP_DUEL (R89). -/
def execStopDuel (tag : Byte) (s : State) : Result := serve (.stopDuel tag) stopDuelOwner s

/-- The round update byte of the READ_DUEL reply. -/
def roundUpdateCode : Option RoundUpdate → Nat
  | some u => 1 + 2 * u.boxAfter + 16 * bit u.masteredNow
  | none => 0

/-- The READ_DUEL reply behind its status (R94, R218). -/
def State.duelBytes (s : State) : List Byte :=
  let d := s.dc
  [byte (duelStateCode d.state + 8 * bit d.echo + 16 * bit d.sentence), byte d.total, byte d.round,
    byte d.scores.a, byte d.scores.b, byte (or255 d.target)] ++ lowFirst (copyWordId d.copy) ++
  [byte (seatStatusCode d.seats.a.status + 8 * seatStatusCode d.seats.b.status + 64 * bit d.seats.a.lateCorrect +
      128 * bit d.seats.b.lateCorrect),
    byte (winnerCode d.winner + 4 * winnerCode d.duelWinner + 16 * finishCode d.finish)] ++
  mistakeBytes d.mistake ++
  [byte (roundResultCode d.result), byte (roundUpdateCode d.update),
    byte (recordStatusCode d.seats.a.record + 4 * recordStatusCode d.seats.b.record), byte (orZero d.firm)]

/-- READ_DUEL (R94). -/
def readDuelOwner (s : State) : Answer := s.ok s.duelBytes

/-- READ_DUEL (R94). -/
def execReadDuel (tag : Byte) (s : State) : Result := serve (.readDuel tag) readDuelOwner s

/-- DC takes the judgement a seat has in flight; a frozen duel takes no event (R81, R93). -/
def State.takeInFlight (s : State) (x : Seat) : State :=
  match s.dc.judgements.get x with
  | some j => if s.fb.frozen then s else (s.takeJudgement x j).done
  | none => s

/-- JUDGEMENT_TAKEN (R81). -/
def execJudgementTaken (seat : Seat) (s : State) : Result := event (·.takeInFlight seat) s

end Sys2Proof.Machine
end

