-- ==== Sys2Proof/Machine/ExecFaults.lean ====
section
/-! DEFINITION. The requests of the Fault Banks and the two entries that follow a change of the part condition
(spec 10). -/

namespace Sys2Proof.Machine

/-- A bank in the READ_FAULTS reply: its record and its enable mask (R192, R218). -/
def State.bankBytes (s : State) (b : Bank) : List Byte :=
  faultBytes b (s.fb.bank b).held ++ lowFirst (s.fb.bank b).mask.toNat

/-- The banks a READ_FAULTS names: one, or all four (R192). -/
def readBanksOf (v : Byte) : Option (List Bank) :=
  if v.toNat = 4 then some [.link, .scan, .audio, .lesson] else (bankOf v).map fun b => [b]

/-- READ_FAULTS (R192). -/
def readFaultsOwner (bank : Byte) (s : State) : Answer :=
  match readBanksOf bank with
  | some bs => s.ok (byte (conditionCode s.fb.condition) :: bs.flatMap s.bankBytes)
  | none => s.deny .badField

/-- READ_FAULTS (R192). -/
def execReadFaults (tag bank : Byte) (s : State) : Result := serve (.readFaults tag bank) (readFaultsOwner bank) s

/-- Changes one bank. -/
def State.mapBank (s : State) (b : Bank) (f : FaultBank → FaultBank) : State :=
  { s with fb := s.fb.setBank b (f (s.fb.bank b)) }

/-- CLEAR_FAULT (R193). -/
def clearFaultOwner (bank : Byte) (s : State) : Answer :=
  match bankOf bank with
  | some b => (s.mapBank b fun k => { k with held := none }).ok []
  | none => s.deny .badField

/-- CLEAR_FAULT (R193). -/
def execClearFault (tag bank : Byte) (s : State) : Result := serve (.clearFault tag bank) (clearFaultOwner bank) s

/-- SET_FAULT_ENABLE (R189). -/
def setFaultEnableOwner (bank : Byte) (codes : Word16) (s : State) : Answer :=
  match bankOf bank with
  | some b =>
    s.refuseIf ((codes &&& ~~~(bankCodes b)) != 0) .badField <|
    (s.mapBank b fun k => { k with mask := codes }).ok []
  | none => s.deny .badField

/-- SET_FAULT_ENABLE (R189). -/
def execSetFaultEnable (tag bank : Byte) (codes : Word16) (s : State) : Result :=
  serve (.setFaultEnable tag bank codes) (setFaultEnableOwner bank codes) s

/-- The part returns to NORMAL, an outstanding hold entry is withdrawn, and the lessons paused with cause HOLD are
resumed in turn (R196 steps 1 and 2). -/
def State.clearHoldNow (s : State) : State :=
  ({ s with fb := { s.fb with condition := .normal, holdDue := false } }).carryOut
    [.resumeHeld .a, .resumeHeld .b, .resumeDuel]

/-- CLEAR_HOLD (R196). -/
def clearHoldOwner (s : State) : Answer :=
  s.refuseIf (s.fb.condition != .hold) .wrongState <|
  s.clearHoldNow.ok [byte (conditionCode s.clearHoldNow.fb.condition)]

/-- CLEAR_HOLD (R196). -/
def execClearHold (tag : Byte) (s : State) : Result := serve (.clearHold tag) clearHoldOwner s

/-- HOLD_ENTRY (R195): carried out when one is outstanding. -/
def execHoldEntry (s : State) : Result := event (fun s => s.carryOut [.holdEntry]) s

/-- The lockdown entry (R197): the scan generator stops, every utterance is cancelled, AE and DC are frozen, and an
outstanding hold entry is not carried out. -/
def State.enterLockdown (s : State) : State :=
  let s1 := s.stopGenerator.cancelAll
  { s1 with fb := { s1.fb with holdDue := false, lockdownDue := false, frozen := true } }

/-- LOCKDOWN_ENTRY (R197). -/
def execLockdownEntry (s : State) : Result := event (fun s => if s.fb.lockdownDue then s.enterLockdown else s) s

end Sys2Proof.Machine
end

