-- ==== Sys2Proof/Machine/ExecLog.lean ====
section
/-! DEFINITION. The requests of the Result Log and the Attention Unit (spec 05). -/

namespace Sys2Proof.Machine

/-- PEEK_RESULTS (R100). -/
def peekResultsOwner (n : Byte) (s : State) : Answer :=
  s.refuseIf (decide (n.toNat = 0 ∨ 2 < n.toNat)) .badField <|
  s.ok ([byte s.rl.records.length, byte s.rl.waiting.length] ++ (s.rl.records.take n.toNat).flatMap recordBytes)

/-- PEEK_RESULTS (R100). -/
def execPeekResults (tag n : Byte) (s : State) : Result := serve (.peekResults tag n) (peekResultsOwner n) s

/-- RL removes the oldest records and evaluates the threshold flag (R99 step 1). -/
def State.removeOldest (s : State) (k : Nat) : State :=
  ({ s with rl := { s.rl with records := s.rl.records.drop k } }).evaluateThreshold

/-- The removal, the appends from the waiting line and the contexts going on (R99 steps 1 to 3). -/
def State.release (s : State) (k : Nat) : State :=
  match (s.removeOldest k).appendAllWaiting with
  | (s1, seats) => s1.carryOut (seats.map Task.appended)

/-- RELEASE_RESULTS (R99). -/
def releaseResultsOwner (k : Byte) (s : State) : Answer :=
  s.refuseIf (decide (k.toNat = 0 ∨ s.rl.records.length < k.toNat)) .badField <|
  let s1 := s.release k.toNat
  s1.ok (byte s1.rl.records.length :: lowFirst s1.rl.counter)

/-- RELEASE_RESULTS (R99). -/
def execReleaseResults (tag k : Byte) (s : State) : Result := serve (.releaseResults tag k) (releaseResultsOwner k) s

/-- READ_ATTENTION returns both sets, and the causes it returns leave the pending set (R105). -/
def readAttentionOwner (s : State) : Answer :=
  ({ s with au := { s.au with raised := 0 } }).ok (lowFirst s.au.raised.toNat ++ lowFirst s.au.enabled.toNat)

/-- READ_ATTENTION (R105). -/
def execReadAttention (tag : Byte) (s : State) : Result := serve (.readAttention tag) readAttentionOwner s

/-- The eleven causes (R104, R218). -/
def allCauses : Word16 := 0x07FF

/-- SET_ATTENTION_ENABLE (R106). -/
def setAttentionEnableOwner (causes : Word16) (s : State) : Answer :=
  s.refuseIf ((causes &&& ~~~allCauses) != 0) .badField <|
  ({ s with au := { s.au with enabled := causes } }).ok []

/-- SET_ATTENTION_ENABLE (R106). -/
def execSetAttentionEnable (tag : Byte) (causes : Word16) (s : State) : Result :=
  serve (.setAttentionEnable tag causes) (setAttentionEnableOwner causes) s

end Sys2Proof.Machine
end

