-- ==== Sys2Proof/Machine/ExecSeats.lean ====
section
/-! DEFINITION. The requests and events of the Key Scanner (spec 06). -/

namespace Sys2Proof.Machine

/-! ### FLUSH_KEYS (R121) -/

/-- A row record whose debounce in progress is aborted (R121). -/
def RowRecord.flushed (r : RowRecord) : RowRecord := { r with candidate := r.stable, streak := 0 }

/-- A seat record with its typed-ahead keys thrown away (R121). -/
def SeatRecord.flushed (r : SeatRecord) : SeatRecord :=
  { r with keys := [], rows := r.rows.map RowRecord.flushed }

/-- FLUSH_KEYS (R121). -/
def flushKeysOwner (x : Seat) (s : State) : Answer :=
  s.refuseIf ((s.seat x).state != .ready) .wrongState <| (s.setSeat x (s.seat x).flushed).ok []

/-- FLUSH_KEYS (R121). -/
def execFlushKeys (tag seat : Byte) (s : State) : Result := serve (.flushKeys tag seat) (forSeat seat flushKeysOwner) s

/-! ### LOAD_KEY_MAP (R123) -/

/-- The key codes of an entry list, absent when one is not a key code (R123 step 1). -/
def keyCodes : List Byte → Option (List KeyCode)
  | [] => some []
  | v :: vs =>
    match keyOf v, keyCodes vs with
    | some k, some ks => some (k :: ks)
    | _, _ => none

/-- A map slot argument: 0 or 1. -/
def mapSlotOf (v : Byte) : Option Nat := if v.toNat ≤ 1 then some v.toNat else none

/-- The seat has the slot in use (R122). -/
def State.mapInUse (s : State) (slot : Nat) (x : Seat) : Bool := s.converts x && (s.seat x).mapSlot == some slot

/-- The entries of a map with the given ones written from an index on (R123). -/
def writeEntries (entries : List KeyCode) (start : Nat) (new : List KeyCode) : List KeyCode :=
  entries.take start ++ new ++ entries.drop (start + new.length)

/-- Replaces a key map. -/
def State.setKeyMap (s : State) (slot : Nat) (m : KeyMap) : State :=
  if slot = 0 then { s with ks := { s.ks with map0 := m } } else { s with ks := { s.ks with map1 := m } }

/-- LOAD_KEY_MAP with its arguments named (R123 steps 2 and 3). -/
def State.loadKeyMapAt (s : State) (slot kind first : Nat) (keys : List KeyCode) : Answer :=
  s.refuseIf (s.mapInUse slot .a || s.mapInUse slot .b) .inUse <|
  s.refuseIf (kind != 0 && (s.keyMap (1 - slot)).tag == kind) .duplicate <|
  (s.setKeyMap slot { tag := kind, entries := writeEntries (s.keyMap slot).entries (7 * first) keys }).ok []

/-- LOAD_KEY_MAP (R123). -/
def loadKeyMapOwner (slot kind first rows : Byte) (keys : List Byte) (s : State) : Answer :=
  match mapSlotOf slot, keyCodes keys with
  | some n, some ks =>
    s.refuseIf (decide (7 < first.toNat ∨ rows.toNat = 0 ∨ 7 < rows.toNat ∨ 8 < first.toNat + rows.toNat)) .badField <|
    s.loadKeyMapAt n kind.toNat first.toNat ks
  | _, _ => s.deny .badField

/-- LOAD_KEY_MAP (R123). -/
def execLoadKeyMap (tag slot kind firstRow rows : Byte) (keys : List Byte) (s : State) : Result :=
  serve (.loadKeyMap tag slot kind firstRow rows keys) (loadKeyMapOwner slot kind firstRow rows keys) s

/-! ### CHECK_SEAT (R131) -/

/-- CHECK_SEAT finds a seat with nothing to check again (R131 step 2). -/
def State.notCheckable (s : State) (x : Seat) : Bool :=
  match (s.seat x).state with
  | .empty | .identifying | .checking => true
  | .ready | .faulted => false

/-- The seat is READY with its context neither IDLE nor DONE (R131 step 3). A context in mode DUEL is never IDLE or
DONE. -/
def State.seatBusy (s : State) (x : Seat) : Bool :=
  (s.seat x).state == .ready && !((s.ctx x).state == .idle || (s.ctx x).state == .done)

/-- CHECK_SEAT (R131). -/
def checkSeatOwner (x : Seat) (s : State) : Answer :=
  s.refuseIf (s.notCheckable x) .wrongState <|
  s.refuseIf (s.seatBusy x) .seatBusy <|
  (s.seatToIdentifying x).done.ok []

/-- CHECK_SEAT (R131). -/
def execCheckSeat (tag seat : Byte) (s : State) : Result := serve (.checkSeat tag seat) (forSeat seat checkSeatOwner) s

/-! ### READ_SEATS (R132) -/

/-- A map slot in the READ_SEATS reply: 0 absent, 1 slot 0, 2 slot 1. -/
def mapSlotCode : Option Nat → Nat
  | none => 0
  | some n => n + 1

/-- A count that the READ_SEATS reply shows in CHECKING only. -/
def inChecking (st : SeatState) (n : Nat) : Nat := if st = .checking then n else 0

/-- The 14 bytes of a seat in the READ_SEATS reply (R132, R218). -/
def SeatRecord.bytes (r : SeatRecord) : List Byte :=
  [byte (seatStateCode r.state), byte (seatFaultCode r.faultCause), byte (or255 r.faultRow),
    byte (bit r.identity.isSome + 2 * mapSlotCode r.mapSlot + 8 * r.readFailures)] ++
  identityBytes r.identity ++
  [byte (inChecking r.state r.idleRun), byte (inChecking r.state r.scansCounted), byte r.keys.length,
    r.holdRows, r.chordRows]

/-- A seat record whose sticky alerts have been reported (R118, R132). -/
def SeatRecord.reported (r : SeatRecord) : SeatRecord := { r with holdRows := 0, chordRows := 0 }

/-- READ_SEATS (R132). -/
def readSeatsOwner (s : State) : Answer :=
  ((s.setSeat .a (s.seat .a).reported).setSeat .b (s.seat .b).reported).ok
    ((s.seat .a).bytes ++ (s.seat .b).bytes)

/-- READ_SEATS (R132). -/
def execReadSeats (tag : Byte) (s : State) : Result := serve (.readSeats tag) readSeatsOwner s

/-! ### Events (R113, R115, R117, R125, R126) -/

/-- A row conversion completes, if one is under way. -/
def State.rowDone (s : State) (level : Nat) : State :=
  match s.ks.scan with
  | some sc => (s.completeRow sc level).done
  | none => s

/-- ROW_CONVERSION_COMPLETE (R115). -/
def execRowConversionComplete (level : BitVec 10) (s : State) : Result := event (·.rowDone level.toNat) s

/-- A conversion times out, if one is under way. -/
def State.rowTimedOut (s : State) : State :=
  match s.ks.scan with
  | some sc => s.timeOutRow sc
  | none => s

/-- CONVERTER_TIMEOUT (R113). -/
def execConverterTimeout (s : State) : Result := event State.rowTimedOut s

/-- A change of a sense line's level starts the settle timer (R125); a level it already has is no change. -/
def State.changeSense (s : State) (x : Seat) (keyboard : Bool) : State :=
  let r := s.seat x
  if r.senseLine = keyboard then s
  else s.setSeat x { r with senseLine := keyboard, settleTimer := some Config.settlePeriods }

/-- The line's level alone changes, while the reset pin is held: the settle timer starts at the release (R216,
assumption 20). -/
def State.changeLine (s : State) (x : Seat) (keyboard : Bool) : State :=
  s.setSeat x { s.seat x with senseLine := keyboard }

/-- SENSE_CHANGE (R125). -/
def execSenseChange (seat : Seat) (keyboard : Bool) (s : State) : Result :=
  .next (if s.resetHeld then s.changeLine seat keyboard else s.changeSense seat keyboard)

/-- The settle timer expires, if it runs. -/
def State.senseDone (s : State) (x : Seat) : State :=
  match (s.seat x).settleTimer with
  | some _ => (s.settleSense x).done
  | none => s

/-- SENSE_SETTLED (R125). -/
def execSenseSettled (seat : Seat) (s : State) : Result := event (·.senseDone seat) s

/-- The identity read ends, if one is in progress: a seat reads exactly while it is IDENTIFYING (R126). -/
def State.readDone (s : State) (x : Seat) (answer : Option Identity) : State :=
  if (s.seat x).state = .identifying then s.completeRead x answer else s

/-- IDENTITY_READ_COMPLETE (R126). -/
def execIdentityReadComplete (seat : Seat) (answer : Option Identity) (s : State) : Result :=
  event (·.readDone seat answer) s

/-- HOLD_ALERT (R117). -/
def execHoldAlert (seat : Seat) (row : Fin 8) (s : State) : Result := event (·.giveDue seat row.val) s

end Sys2Proof.Machine
end

