-- ==== Sys2Proof/Machine/ExecSpeech.lean ====
section
/-! DEFINITION. The requests and events of the Speech Engine (spec 08). -/

namespace Sys2Proof.Machine

/-! ### Routes, tables and volumes (R151, R164 to R166) -/

/-- SET_ROUTE (R151). -/
def setRouteOwner (seat setting : Byte) (s : State) : Answer :=
  match seatOf seat, settingOf setting with
  | some x, some r => ({ s with se := { s.se with routes := s.se.routes.set x r } }).ok []
  | _, _ => s.deny .badField

/-- SET_ROUTE (R151). -/
def execSetRoute (tag seat setting : Byte) (s : State) : Result :=
  serve (.setRoute tag seat setting) (setRouteOwner seat setting) s

/-- The entries of a clip table, absent when one is no clip id (R164). -/
def tableEntries : List Byte → Option (List (Option Nat))
  | [] => some []
  | v :: vs =>
    match clipRefOf v, tableEntries vs with
    | some e, some es => some (e :: es)
    | _, _ => none

/-- SET_CUES (R164). -/
def setCuesOwner (clips : List Byte) (s : State) : Answer :=
  match tableEntries clips with
  | some es => ({ s with se := { s.se with cues := es } }).ok []
  | none => s.deny .badField

/-- SET_CUES (R164). -/
def execSetCues (tag : Byte) (clips : List Byte) (s : State) : Result := serve (.setCues tag clips) (setCuesOwner clips) s

/-- SET_LETTERS (R165). -/
def setLettersOwner (clips : List Byte) (s : State) : Answer :=
  match tableEntries clips with
  | some es => ({ s with se := { s.se with letters := es } }).ok []
  | none => s.deny .badField

/-- SET_LETTERS (R165). -/
def execSetLetters (tag : Byte) (clips : List Byte) (s : State) : Result :=
  serve (.setLetters tag clips) (setLettersOwner clips) s

/-- Replaces a channel's volume (R166). -/
def State.setVolumeTo (s : State) (c : Channel) (level : Nat) : State :=
  match c with
  | .phonesA => { s with se := { s.se with volumeA := level } }
  | .phonesB => { s with se := { s.se with volumeB := level } }
  | .speaker => { s with se := { s.se with volumeSpeaker := level } }

/-- SET_VOLUME (R166). -/
def setVolumeOwner (channel level : Byte) (s : State) : Answer :=
  match channelOf channel with
  | some c => s.refuseIf (decide (15 < level.toNat)) .badField <| (s.setVolumeTo c level.toNat).ok []
  | none => s.deny .badField

/-- SET_VOLUME (R166). -/
def execSetVolume (tag channel level : Byte) (s : State) : Result :=
  serve (.setVolume tag channel level) (setVolumeOwner channel level) s

/-! ### Announcements (R162, R163) -/

/-- The clip ids of an announcement, absent when one is out of range (R162 step 1). -/
def clipIds : List Byte → Option (List Nat)
  | [] => some []
  | v :: vs =>
    match clipIdOf v, clipIds vs with
    | some id, some ids => some (id :: ids)
    | _, _ => none

/-- ANNOUNCE with its arguments named (R162 steps 2 and 3). -/
def State.announceOn (s : State) (route : BitVec 3) (ids : List Nat) : Answer :=
  s.refuseIf (!ids.all s.clipReady) .noClip <|
  s.refuseIf (decide (Config.announcements ≤ s.se.announceQueue.length)) .full <|
  match s.enqueue .announce .announce route ids with
  | (h, s1) => (s1.carryOut [.arbitrate]).ok [byte h]

/-- ANNOUNCE (R162). -/
def announceOwner (route count : Byte) (clips : List Byte) (s : State) : Answer :=
  match routeOf route, clipIds clips with
  | some r, some ids =>
    s.refuseIf (decide (count.toNat = 0 ∨ Config.utteranceClips < count.toNat)) .badField <| s.announceOn r ids
  | _, _ => s.deny .badField

/-- ANNOUNCE (R162). -/
def execAnnounce (tag route count : Byte) (clips : List Byte) (s : State) : Result :=
  serve (.announce tag route count clips) (announceOwner route count clips) s

/-- The utterance is an announcement. -/
def isAnnouncement (u : Utterance) : Bool := u.requester == .announce

/-- A cancellation that the arbiter follows (R159 step 5). -/
def State.cancelAnd (s : State) (p : Utterance → Bool) : State := (s.cancel p).carryOut [.arbitrate]

/-- The utterance is the announcement with a handle. -/
def isAnnouncementWith (h : Nat) (u : Utterance) : Bool := isAnnouncement u && u.handle == h

/-- CANCEL_ANNOUNCE of one handle (R163). -/
def State.cancelAnnounceOne (s : State) (h : Nat) : Answer :=
  s.refuseIf (h == 0) .badField <|
  s.refuseIf (!(s.allPlaying ++ s.allWaiting).any (isAnnouncementWith h)) .notFound <|
  (s.cancelAnd (isAnnouncementWith h)).ok []

/-- CANCEL_ANNOUNCE (R163): selector 0 one handle, 1 ALL (R217). -/
def cancelAnnounceOwner (selector handle : Byte) (s : State) : Answer :=
  match selector.toNat with
  | 0 => s.cancelAnnounceOne handle.toNat
  | 1 => (s.cancelAnd isAnnouncement).ok []
  | _ => s.deny .badField

/-- CANCEL_ANNOUNCE (R163). -/
def execCancelAnnounce (tag selector handle : Byte) (s : State) : Result :=
  serve (.cancelAnnounce tag selector handle) (cancelAnnounceOwner selector handle) s

/-! ### READ_SPEECH (R168) -/

/-- What READ_SPEECH reads. -/
inductive SpeechPart where
  | queue (r : Requester)
  | cues
  | letters
deriving DecidableEq, Repr

/-- part: 0 SEAT_A, 1 SEAT_B, 2 DUEL, 3 ANNOUNCE, 4 CUES, 5 LETTERS (R218). -/
def partOf (v : Byte) : Option SpeechPart :=
  match v.toNat with
  | 0 => some (.queue (.seat .a))
  | 1 => some (.queue (.seat .b))
  | 2 => some (.queue .duel)
  | 3 => some (.queue .announce)
  | 4 => some .cues
  | 5 => some .letters
  | _ => none

/-- The route byte: bit c for channel c. -/
def routeByte (r : BitVec 3) : Byte := r.setWidth 8

/-- A waiting entry in the READ_SPEECH reply. -/
def Utterance.entryBytes (u : Utterance) : List Byte :=
  [byte u.handle, byte (classCode u.cls), routeByte u.route, byte u.clips.length]

/-- A voice in the READ_SPEECH reply. -/
def voiceBytes : Option Playing → List Byte
  | none => [0, 0, 0, 0, 0, 0, 0]
  | some p => [1, byte p.utterance.handle, byte (requesterCode p.utterance.requester),
      byte (classCode p.utterance.cls), routeByte p.utterance.route, byte p.index, byte p.utterance.clips.length]

/-- The start order byte: the least recent requester in bits 0 and 1. -/
def startOrderCode : List Requester → Nat
  | [] => 0
  | r :: rs => requesterCode r + 4 * startOrderCode rs

/-- The last announcement record in the READ_SPEECH reply. -/
def lastAnnounceBytes : Option LastAnnouncement → List Byte
  | some l => [byte l.handle, byte (endStatusCode l.status)]
  | none => [0, 0]

/-- The READ_SPEECH reply for a queue, behind its status (R168, R218). -/
def State.speechBytes (s : State) (r : Requester) : List Byte :=
  let q := s.speechQueue r
  byte q.length :: padTo 24 0 (q.flatMap Utterance.entryBytes) ++ voiceBytes s.se.v0 ++ voiceBytes s.se.v1 ++
  [byte (settingCode s.se.routes.a + 2 * settingCode s.se.routes.b), byte s.se.volumeA, byte s.se.volumeB,
    byte s.se.volumeSpeaker, byte (startOrderCode s.se.startOrder)] ++ lastAnnounceBytes s.se.lastAnnounce

/-- The contents of the READ_SPEECH reply (R168). -/
def State.partBytes (s : State) : SpeechPart → List Byte
  | .queue r => s.speechBytes r
  | .cues => s.se.cues.map fun e => byte (orZero e)
  | .letters => s.se.letters.map fun e => byte (orZero e)

/-- READ_SPEECH (R168). -/
def readSpeechOwner (part : Byte) (s : State) : Answer :=
  match partOf part with
  | some p => s.ok (s.partBytes p)
  | none => s.deny .badField

/-- READ_SPEECH (R168). -/
def execReadSpeech (tag part : Byte) (s : State) : Result := serve (.readSpeech tag part) (readSpeechOwner part) s

/-! ### Events (R155 to R157) -/

/-- The utterance on a voice ends with a status: the voice is freed, the pins go, the end is reported and the
arbiter acts (R156). -/
def State.endPlaying (s : State) (v : Voice) (u : Utterance) (st : EndStatus) : State :=
  (s.freeVoice v).carryOut [.report u.requester u.cls u.handle st, .arbitrate]

/-- How an utterance ends that plays to its end: FAILED if the voice comes to a BAD clip on the way (R155, R156,
assumption 23). -/
def State.playedTo (s : State) (p : Playing) : EndStatus :=
  if (p.utterance.clips.drop (p.index + 1)).any s.clipBad then .failed else .done

/-- The utterance on a voice plays to its end. -/
def State.voiceDone (s : State) (v : Voice) : State :=
  match s.voice v with
  | some p => s.endPlaying v p.utterance (s.playedTo p)
  | none => s

/-- UTTERANCE_DONE (R156). -/
def execUtteranceDone (voice : Voice) (s : State) : Result := event (·.voiceDone voice) s

/-- A voice comes to the next clip of its utterance (R155). -/
def State.advanceVoice (s : State) (v : Voice) : State :=
  match s.voice v with
  | some p =>
    match p.utterance.clips[p.index + 1]? with
    | some id =>
      if s.clipBad id then s.endPlaying v p.utterance .failed
      else s.setVoice v (some { p with index := p.index + 1, sample := 0, phase := 0 })
    | none => s
  | none => s

/-- CLIP_ADVANCE (R155). -/
def execClipAdvance (voice : Voice) (s : State) : Result := event (·.advanceVoice voice) s

/-- What follows a parity error: the FAILED report and the arbiter, steps 5 and 6. When HOLD is taken first, a context or DC
handles the report only after SE's act and the hold entry, and so ignores it; an announcement's end is SE's own to write,
with no order open (R157, R158, assumption 11). -/
def State.parityTasks (s : State) (u : Utterance) (holdFirst : Bool) : List Task :=
  let report := Task.report u.requester u.cls u.handle .failed
  if holdFirst = true ∧ s.fb.holdDue = true ∧ u.requester ≠ .announce then [.arbitrate, .holdEntry, report]
  else [report, .arbitrate]

/-- A voice reads a sample with a parity error: steps 1 to 6 (R157). -/
def State.parityError (s : State) (v : Voice) (holdFirst : Bool) : State :=
  match s.voice v with
  | some p =>
    match p.utterance.clips[p.index]? with
    | some id =>
      let s1 := ((s.setVoice v none).reportClipParity id).unpinAll p.utterance.clips
      let s2 := s1.recordFault .clipParity (.clip id) 0 (some true)
      s2.carryOut (s2.parityTasks p.utterance holdFirst)
    | none => s
  | none => s

/-- CLIP_PARITY (R157). -/
def execClipParity (voice : Voice) (holdFirst : Bool) (s : State) : Result := event (·.parityError voice holdFirst) s

end Sys2Proof.Machine
end

