-- ==== Sys2Proof/Machine/ExecTimebase.lean ====
section
/-! DEFINITION. The requests and events of the Timebase (spec 07). -/

namespace Sys2Proof.Machine

/-- The SCAN_START and SCAN_STOP replies behind their status (R138, R139, R218). -/
def State.generatorBytes (s : State) : List Byte := byte (bit s.generatorRuns) :: lowFirst s.tb.counter

/-- SCAN_START (R138). -/
def scanStartOwner (s : State) : Answer :=
  let s1 := if s.generatorRuns then s else s.loadGenerator
  s1.ok s1.generatorBytes

/-- SCAN_START (R138). -/
def execScanStart (tag : Byte) (s : State) : Result := serve (.scanStart tag) scanStartOwner s

/-- SCAN_STOP (R139). -/
def scanStopOwner (s : State) : Answer := s.stopGenerator.ok s.stopGenerator.generatorBytes

/-- SCAN_STOP (R139). -/
def execScanStop (tag : Byte) (s : State) : Result := serve (.scanStop tag) scanStopOwner s

/-- SCAN_START_ISSUED (R137), with the lesson tick it brings. -/
def execScanStartIssued (s : State) : Result := event State.scanStart s

/-- LESSON_TICK (R141): the scan start that brings the tick, named by the tick; when the next scan start brings none it does
nothing (assumption 35). -/
def execLessonTick (s : State) : Result := event State.tickStart s

end Sys2Proof.Machine
end

