-- ==== Sys2Proof/Machine/ExecWords.lean ====
section
/-! DEFINITION. The requests of the Word Table and the Practice Scheduler (spec 01). -/

namespace Sys2Proof.Machine

/-! ### PUT_WORD (R5) -/

/-- The spelling of a word image: its length and its letters in range (R5 step 1). -/
def imageSpelling (w : WordImage) : Option (List Nat) :=
  let letters := (w.letters.take w.length.toNat).map (·.toNat)
  if 1 ≤ w.length.toNat ∧ w.length.toNat ≤ 16 ∧ letters.all (fun l => 1 ≤ l ∧ l ≤ Config.letters) then some letters
  else none

/-- The progress fields of a word image lie in range (R5 step 1). -/
def imageProgressGood (w : WordImage) : Bool :=
  decide (w.box.toNat ≤ 4) && decide (w.streak.toNat ≤ 15) && decide (w.mastered.toNat ≤ 1) &&
    (w.mastered.toNat == 0 || w.box.toNat == 4)

/-- The entry a word image gives, absent when a field is out of range (R5 step 1). -/
def imageEntry (w : WordImage) : Option WordEntry :=
  match ownerOf w.owner, imageSpelling w, clipIdOf w.wordClip, clipRefOf w.sentenceClip, clipRefOf w.hintClip,
    mistakeOf w.mistakeKind w.mistakePosition w.mistakeExpected w.mistakeTyped with
  | some owner, some spelling, some wordClip, some sentence, some hint, some mistake =>
    if w.wordId.toNat ≠ 0 ∧ imageProgressGood w = true then
      some { wordId := w.wordId.toNat, owner := owner, spelling := spelling, wordClip := wordClip,
             sentenceClip := sentence, hintClip := hint, box := w.box.toNat, streak := w.streak.toNat,
             attempts := w.attempts.toNat, misses := w.misses.toNat, rest := w.rest.toNat,
             mastered := w.mastered.toNat == 1, lastMistake := mistake }
    else none
  | _, _, _, _, _, _ => none

/-- Another OCCUPIED slot holds the word id (R5 step 3). -/
def State.wordIdElsewhere (s : State) (n id : Nat) : Bool :=
  (List.range Config.slots).any fun k => k != n && (s.entry k).any (·.wordId == id)

/-- PUT_WORD (R5). -/
def putWordOwner (slot : Byte) (w : WordImage) (s : State) : Answer :=
  let n := slot.toNat
  match imageEntry w with
  | none => s.deny .badField
  | some e =>
    s.refuseIf (decide (Config.slots ≤ n)) .badField <|
    s.refuseIf (s.engaged n) .inUse <|
    s.refuseIf (s.wordIdElsewhere n e.wordId) .duplicate <|
    (s.setSlot n (.occupied e true)).ok []

/-- PUT_WORD (R5). -/
def execPutWord (tag slot : Byte) (image : WordImage) (s : State) : Result :=
  serve (.putWord tag slot image) (putWordOwner slot image) s

/-! ### GET_WORD and DROP_WORD (R6, R7) -/

/-- Slot state codes of the GET_WORD reply (R218). -/
def Slot.code : Slot → Byte
  | .empty => 0
  | .occupied _ _ => 1
  | .damaged => 2

/-- The entry in the GET_WORD reply (R218). -/
def Slot.contents (n : Nat) : Slot → List Byte
  | .occupied e _ => wordBytes n e
  | .empty | .damaged => []

/-- GET_WORD (R6). -/
def getWordOwner (slot : Byte) (s : State) : Answer :=
  let n := slot.toNat
  s.refuseIf (decide (Config.slots ≤ n)) .badField <|
  s.ok ([(s.slot n).code, byte (s.engagement n).code] ++ (s.slot n).contents n)

/-- GET_WORD (R6). -/
def execGetWord (tag slot : Byte) (s : State) : Result := serve (.getWord tag slot) (getWordOwner slot) s

/-- DROP_WORD (R7). -/
def dropWordOwner (slot : Byte) (s : State) : Answer :=
  let n := slot.toNat
  s.refuseIf (decide (Config.slots ≤ n)) .badField <|
  s.refuseIf (s.slot n == .empty) .notFound <|
  s.refuseIf (s.engaged n) .inUse <|
  (s.setSlot n .empty).ok []

/-- DROP_WORD (R7). -/
def execDropWord (tag slot : Byte) (s : State) : Result := serve (.dropWord tag slot) (dropWordOwner slot) s

/-! ### The word queues (R18 to R20) -/

/-- QUEUE_WORD with its arguments named (R18 steps 2 to 6). -/
def State.queueWordAt (s : State) (q : WordQueue) (n : Nat) (front : Bool) : Answer :=
  if s.fb.condition = .hold then s.deny .wrongState
  else match s.entry n with
    | none => s.deny .notFound
    | some e =>
      s.refuseIf (e.owner != q.owner) .badField <|
      s.refuseIf (s.engaged n) .inUse <|
      s.refuseIf (decide (Config.wordQueue ≤ (s.wordQueue q).length)) .full <|
      (s.setWordQueue q (if front then n :: s.wordQueue q else s.wordQueue q ++ [n])).ok []

/-- QUEUE_WORD (R18). -/
def queueWordOwner (queue slot position : Byte) (s : State) : Answer :=
  match queueOf queue, frontOf position with
  | some q, some front => if slot.toNat < Config.slots then s.queueWordAt q slot.toNat front else s.deny .badField
  | _, _ => s.deny .badField

/-- QUEUE_WORD (R18). -/
def execQueueWord (tag queue slot position : Byte) (s : State) : Result :=
  serve (.queueWord tag queue slot position) (queueWordOwner queue slot position) s

/-- CLEAR_QUEUE (R19). -/
def clearQueueOwner (queue : Byte) (s : State) : Answer :=
  match queueOf queue with
  | none => s.deny .badField
  | some q => s.refuseIf (q == .duel && s.duelRuns) .wrongState <| (s.setWordQueue q []).ok []

/-- CLEAR_QUEUE (R19). -/
def execClearQueue (tag queue : Byte) (s : State) : Result := serve (.clearQueue tag queue) (clearQueueOwner queue) s

/-- READ_QUEUE (R20). -/
def readQueueOwner (queue : Byte) (s : State) : Answer :=
  match queueOf queue with
  | none => s.deny .badField
  | some q => s.ok (byte (s.wordQueue q).length :: padTo 8 255 ((s.wordQueue q).map byte))

/-- READ_QUEUE (R20). -/
def execReadQueue (tag queue : Byte) (s : State) : Result := serve (.readQueue tag queue) (readQueueOwner queue) s

end Sys2Proof.Machine
end

