-- ==== Sys2Proof/Machine/ExecLink.lean ====
section
/-! DEFINITION. The events of the link (spec 11, sections 11.2 and 11.3): received bytes, complete frames with the
requests they carry, the gap timer, breaks and replies sent. -/

namespace Sys2Proof.Machine

/-- Executes the request of a complete frame: what its own command does (R205). A command that is no request is in no
frame, and does nothing here. -/
def runRequest (c : Instr) (s : State) : Result :=
  match c with
  | .restartLesson tag => execRestartLesson tag s
  | .restartFull tag => execRestartFull tag s
  | .status tag => execStatus tag s
  | .readConfig tag => execReadConfig tag s
  | .configure tag image => execConfigure tag image s
  | .putWord tag slot image => execPutWord tag slot image s
  | .getWord tag slot => execGetWord tag slot s
  | .dropWord tag slot => execDropWord tag slot s
  | .queueWord tag queue slot position => execQueueWord tag queue slot position s
  | .clearQueue tag queue => execClearQueue tag queue s
  | .readQueue tag queue => execReadQueue tag queue s
  | .startSolo tag seat style options => execStartSolo tag seat style options s
  | .stopSeat tag seat => execStopSeat tag seat s
  | .pauseSeat tag seat => execPauseSeat tag seat s
  | .resumeSeat tag seat => execResumeSeat tag seat s
  | .skipWord tag seat => execSkipWord tag seat s
  | .readAttempt tag seat => execReadAttempt tag seat s
  | .startDuel tag rounds options => execStartDuel tag rounds options s
  | .stopDuel tag => execStopDuel tag s
  | .readDuel tag => execReadDuel tag s
  | .peekResults tag n => execPeekResults tag n s
  | .releaseResults tag k => execReleaseResults tag k s
  | .readAttention tag => execReadAttention tag s
  | .setAttentionEnable tag causes => execSetAttentionEnable tag causes s
  | .flushKeys tag seat => execFlushKeys tag seat s
  | .loadKeyMap tag slot kind firstRow rows keys => execLoadKeyMap tag slot kind firstRow rows keys s
  | .checkSeat tag seat => execCheckSeat tag seat s
  | .readSeats tag => execReadSeats tag s
  | .scanStart tag => execScanStart tag s
  | .scanStop tag => execScanStop tag s
  | .setRoute tag seat setting => execSetRoute tag seat setting s
  | .setCues tag clips => execSetCues tag clips s
  | .setLetters tag clips => execSetLetters tag clips s
  | .setVolume tag channel level => execSetVolume tag channel level s
  | .announce tag route count clips => execAnnounce tag route count clips s
  | .cancelAnnounce tag selector handle => execCancelAnnounce tag selector handle s
  | .readSpeech tag part => execReadSpeech tag part s
  | .openClip tag id format rate length crc => execOpenClip tag id format rate length crc s
  | .clipData tag id offset count bytes => execClipData tag id offset count bytes s
  | .commitClip tag id => execCommitClip tag id s
  | .deleteClip tag id => execDeleteClip tag id s
  | .clipStatus tag id => execClipStatus tag id s
  | .storeStatus tag => execStoreStatus tag s
  | .readFaults tag bank => execReadFaults tag bank s
  | .clearFault tag bank => execClearFault tag bank s
  | .setFaultEnable tag bank codes => execSetFaultEnable tag bank codes s
  | .clearHold tag => execClearHold tag s
  | .powerOn | .frameComplete .. | .gapTimerExpiry | .linkBreak | .replySent | .scanStartIssued
  | .lessonTick | .rowConversionComplete .. | .converterTimeout | .senseChange .. | .senseSettled ..
  | .identityReadComplete .. | .holdAlert .. | .idleExpiry .. | .utteranceDone .. | .clipAdvance ..
  | .clipParity .. | .verifyComplete | .judgementTaken .. | .holdEntry | .lockdownEntry
  | .byteReceived .. | .resetPinAsserted => .next s

/-- The bytes of the frame under way; none while HUNTING. -/
def State.partialFrame (s : State) : List Byte :=
  match s.lp.assembler with
  | .hunting => []
  | .inFrame bytes => bytes

/-- FRAME_COMPLETE: the byte taken, a held-back one included, completes the frame under way (R199, R203). A frame that it
would not complete is not changed. -/
def execFrameComplete (last : Byte) (s : State) : Result :=
  if s.resetHeld ∨ frameCompletes s.partialFrame = false then .next s
  else (s.setLine .mark).completeFrame runRequest (s.partialFrame ++ [s.lp.line.taken last])

/-- A received byte, by the assembler's state (R201). One that completes the frame is handled as its completion. -/
def State.receiveByte (s : State) (v : Byte) : Result :=
  match s.lp.assembler with
  | .hunting => .next (s.huntByte v)
  | .inFrame bytes =>
    if frameCompletes bytes then s.completeFrame runRequest (bytes ++ [v]) else .next (s.frameByte bytes v)

/-- BYTE_RECEIVED (R199, R201). With the line at mark a byte is taken: the held-back character as the line returns, else
the character with this stop bit. A character with its stop bit at space is held back, and nothing is taken. -/
def execByteReceived (value : Character) (s : State) : Result :=
  if s.resetHeld then .next s
  else match value.stop with
    | .mark => (s.setLine .mark).receiveByte (s.lp.line.taken value.bits)
    | .space => .next (s.setLine (s.lp.line.holding value.bits))

/-- The gap timer expires, if it runs: the partial frame is discarded with FRAME_GAP (R202). -/
def State.gapExpired (s : State) : State :=
  match s.lp.assembler, s.lp.gapTimer with
  | .inFrame bytes, some _ => s.hunt.recordFault .frameGap .nothing bytes.length none
  | _, _ => s

/-- GAP_TIMER_EXPIRY (R202). -/
def execGapTimerExpiry (s : State) : Result := event State.gapExpired s

/-- The link is reset: the partial frame, a held-back character and every reply are discarded, with the receive line at
space (R199, R208). -/
def State.breakLink (s : State) : State :=
  { s with lp := { assembler := .hunting, gapTimer := none, replies := [], line := .space } }

/-- LINK_BREAK (R208). -/
def execLinkBreak (s : State) : Result := event State.breakLink s

/-- The head reply has been sent in full and leaves the queue (R206). -/
def State.replyOut (s : State) : State := { s with lp := { s.lp with replies := s.lp.replies.drop 1 } }

/-- REPLY_SENT (R206). -/
def execReplySent (s : State) : Result := event State.replyOut s

end Sys2Proof.Machine
end

