-- ==== Sys2Proof/Machine/Dispatch.lean ====
section
/-! DEFINITION. The meaning of each command: one arm for each row of the table. -/

namespace Sys2Proof.Machine

def exec (i : Instr) (s : State) : Host.Outcome State Fault Refusal :=
  match i with
  | .powerOn => Sys2Proof.Machine.execPowerOn s
  | .restartLesson tag => Sys2Proof.Machine.execRestartLesson tag s
  | .restartFull tag => Sys2Proof.Machine.execRestartFull tag s
  | .status tag => Sys2Proof.Machine.execStatus tag s
  | .readConfig tag => Sys2Proof.Machine.execReadConfig tag s
  | .configure tag image => Sys2Proof.Machine.execConfigure tag image s
  | .putWord tag slot image => Sys2Proof.Machine.execPutWord tag slot image s
  | .getWord tag slot => Sys2Proof.Machine.execGetWord tag slot s
  | .dropWord tag slot => Sys2Proof.Machine.execDropWord tag slot s
  | .queueWord tag queue slot position => Sys2Proof.Machine.execQueueWord tag queue slot position s
  | .clearQueue tag queue => Sys2Proof.Machine.execClearQueue tag queue s
  | .readQueue tag queue => Sys2Proof.Machine.execReadQueue tag queue s
  | .startSolo tag seat style options => Sys2Proof.Machine.execStartSolo tag seat style options s
  | .stopSeat tag seat => Sys2Proof.Machine.execStopSeat tag seat s
  | .pauseSeat tag seat => Sys2Proof.Machine.execPauseSeat tag seat s
  | .resumeSeat tag seat => Sys2Proof.Machine.execResumeSeat tag seat s
  | .skipWord tag seat => Sys2Proof.Machine.execSkipWord tag seat s
  | .readAttempt tag seat => Sys2Proof.Machine.execReadAttempt tag seat s
  | .startDuel tag rounds options => Sys2Proof.Machine.execStartDuel tag rounds options s
  | .stopDuel tag => Sys2Proof.Machine.execStopDuel tag s
  | .readDuel tag => Sys2Proof.Machine.execReadDuel tag s
  | .peekResults tag n => Sys2Proof.Machine.execPeekResults tag n s
  | .releaseResults tag k => Sys2Proof.Machine.execReleaseResults tag k s
  | .readAttention tag => Sys2Proof.Machine.execReadAttention tag s
  | .setAttentionEnable tag causes => Sys2Proof.Machine.execSetAttentionEnable tag causes s
  | .flushKeys tag seat => Sys2Proof.Machine.execFlushKeys tag seat s
  | .loadKeyMap tag slot kind firstRow rows keys => Sys2Proof.Machine.execLoadKeyMap tag slot kind firstRow rows keys s
  | .checkSeat tag seat => Sys2Proof.Machine.execCheckSeat tag seat s
  | .readSeats tag => Sys2Proof.Machine.execReadSeats tag s
  | .scanStart tag => Sys2Proof.Machine.execScanStart tag s
  | .scanStop tag => Sys2Proof.Machine.execScanStop tag s
  | .setRoute tag seat setting => Sys2Proof.Machine.execSetRoute tag seat setting s
  | .setCues tag clips => Sys2Proof.Machine.execSetCues tag clips s
  | .setLetters tag clips => Sys2Proof.Machine.execSetLetters tag clips s
  | .setVolume tag channel level => Sys2Proof.Machine.execSetVolume tag channel level s
  | .announce tag route count clips => Sys2Proof.Machine.execAnnounce tag route count clips s
  | .cancelAnnounce tag selector handle => Sys2Proof.Machine.execCancelAnnounce tag selector handle s
  | .readSpeech tag part => Sys2Proof.Machine.execReadSpeech tag part s
  | .openClip tag id format rate length crc => Sys2Proof.Machine.execOpenClip tag id format rate length crc s
  | .clipData tag id offset count bytes => Sys2Proof.Machine.execClipData tag id offset count bytes s
  | .commitClip tag id => Sys2Proof.Machine.execCommitClip tag id s
  | .deleteClip tag id => Sys2Proof.Machine.execDeleteClip tag id s
  | .clipStatus tag id => Sys2Proof.Machine.execClipStatus tag id s
  | .storeStatus tag => Sys2Proof.Machine.execStoreStatus tag s
  | .readFaults tag bank => Sys2Proof.Machine.execReadFaults tag bank s
  | .clearFault tag bank => Sys2Proof.Machine.execClearFault tag bank s
  | .setFaultEnable tag bank codes => Sys2Proof.Machine.execSetFaultEnable tag bank codes s
  | .clearHold tag => Sys2Proof.Machine.execClearHold tag s
  | .frameComplete last => Sys2Proof.Machine.execFrameComplete last s
  | .gapTimerExpiry => Sys2Proof.Machine.execGapTimerExpiry s
  | .linkBreak => Sys2Proof.Machine.execLinkBreak s
  | .replySent => Sys2Proof.Machine.execReplySent s
  | .scanStartIssued => Sys2Proof.Machine.execScanStartIssued s
  | .lessonTick => Sys2Proof.Machine.execLessonTick s
  | .rowConversionComplete level => Sys2Proof.Machine.execRowConversionComplete level s
  | .converterTimeout => Sys2Proof.Machine.execConverterTimeout s
  | .senseChange seat keyboard => Sys2Proof.Machine.execSenseChange seat keyboard s
  | .senseSettled seat => Sys2Proof.Machine.execSenseSettled seat s
  | .identityReadComplete seat answer => Sys2Proof.Machine.execIdentityReadComplete seat answer s
  | .holdAlert seat row => Sys2Proof.Machine.execHoldAlert seat row s
  | .idleExpiry seat => Sys2Proof.Machine.execIdleExpiry seat s
  | .utteranceDone voice => Sys2Proof.Machine.execUtteranceDone voice s
  | .clipAdvance voice => Sys2Proof.Machine.execClipAdvance voice s
  | .clipParity voice holdFirst => Sys2Proof.Machine.execClipParity voice holdFirst s
  | .verifyComplete => Sys2Proof.Machine.execVerifyComplete s
  | .judgementTaken seat => Sys2Proof.Machine.execJudgementTaken seat s
  | .holdEntry => Sys2Proof.Machine.execHoldEntry s
  | .lockdownEntry => Sys2Proof.Machine.execLockdownEntry s
  | .byteReceived value => Sys2Proof.Machine.execByteReceived value s
  | .resetPinAsserted => Sys2Proof.Machine.execResetPinAsserted s

end Sys2Proof.Machine
end

