-- ==== Sys2Proof/Machine/Step.lean ====
section
/-! DEFINITION. A step: the command at the front of the queue, or one master-clock period when none waits. -/

namespace Sys2Proof.Machine

/-- Takes the command at the front of the queue and answers what it does with the queue's rest; with no command
waiting, one master-clock period passes (assumption 3). -/
def step (s : State) : Host.Outcome State Fault Refusal :=
  match s.pending with
  | [] => .next (if s.resetHeld then s else s.clockPeriod)
  | c :: rest => exec c { s with pending := rest }

/-- The state with the command that a word spells at the front of its queue; the table's rows give no bits, so no word
spells one (assumption 30). -/
def State.withFetchWord (s : State) (nbits w : Nat) : State :=
  match decodeTableWord nbits w with
  | some c => { s with pending := c :: s.pending }
  | none => s

end Sys2Proof.Machine
end

