-- ==== Sys2Proof/Safety.lean ====
section
/-! DEFINITION. What statements about the ES212 are stated in: the condition on which a request is taken, what a
cascade never changes, quiet speech, and the laws that every step keeps. -/

namespace Sys2Proof.Machine

/-! ### When a request is taken (R203, R204) -/

/-- A request passes the checks around every request: the part is out of reset, the reply queue has room, the argument
lists have their lengths, and in LOCKDOWN the request is one of the five that pass (R203 steps 1, 4 and 5, R204). -/
def State.takes (s : State) (c : Instr) : Prop :=
  s.resetHeld = false ∧ s.repliesFull = false ∧ c.wellFormed = true ∧
    (s.fb.condition = .lockdown → c.passesLockdown = true)

/-- The state with a reply to a request at the tail of the reply queue: kind plus 0x80, tag, status, contents (R205,
R206, R209). -/
def State.replied (s : State) (c : Instr) (st : Status) (contents : List Byte) : State :=
  { s with lp := { s.lp with replies := s.lp.replies ++
      [{ kind := c.kind + 0x80, tag := c.tag, payload := st.code :: contents }] } }

/-! ### Frames of cascades -/

/-- What no cascade of AE, DC, RL and SE changes: the link, the configuration, the Timebase, the commands that wait,
the seat records but for their key queues, the key maps, the scan, the clip bytes, parity marks and verify unit, the
routes, volumes and tables, the fault masks, the attention enable set and the number of slots. -/
def State.fixed (s : State) :=
  ((s.resetHeld, s.lp, s.cfg, s.tb, s.pending),
   ({ s.ks.seats.a with keys := [] }, { s.ks.seats.b with keys := [] }, s.ks.map0, s.ks.map1, s.ks.scan),
   (s.cs.bytes, s.cs.parity, s.cs.verify, s.cs.directory.length, s.cs.blocks.length),
   (s.se.routes, s.se.volumeA, s.se.volumeB, s.se.volumeSpeaker, s.se.cues, s.se.letters),
   (s.fb.link.mask, s.fb.scan.mask, s.fb.audio.mask, s.fb.lesson.mask, s.fb.frozen),
   s.au.enabled, s.wt.length)

/-- The commands that AE, DC, SE and RL carry out with all that follows. -/
def lessonCommand : Instr → Bool
  | .startSolo .. | .stopSeat .. | .pauseSeat .. | .resumeSeat .. | .skipWord .. | .startDuel .. | .stopDuel ..
  | .releaseResults .. | .announce .. | .cancelAnnounce .. | .clearHold .. | .idleExpiry .. | .utteranceDone ..
  | .clipAdvance .. | .clipParity .. | .judgementTaken .. | .holdEntry => true
  | _ => false

/-- No utterance waits or plays. -/
def State.speechQuiet (s : State) : Prop := s.allPlaying = [] ∧ s.allWaiting = []

/-- Every utterance that waits or plays is the seat's own. -/
def State.onlySeatSpeaks (s : State) (x : Seat) : Prop :=
  ∀ u ∈ s.allPlaying ++ s.allWaiting, u.requester = .seat x

/-! ### Word queues (R10, R13 to R15) -/

/-- The slots of the three word queues (R10). -/
def State.queuedSlots (s : State) : List Nat := s.ps.practice.a ++ s.ps.practice.b ++ s.ps.duel

/-- A slot is a candidate for an owner's queue: OCCUPIED by an unmastered word of that owner, in no queue and no target
(R4, R14). -/
def State.isCandidate (s : State) (o : Owner) (n : Nat) : Prop :=
  ∃ e, s.entry n = some e ∧ e.owner = o ∧ e.mastered = false ∧ n ∉ s.queuedSlots ∧
    s.dc.target ≠ some n ∧ s.ae.a.target ≠ some n ∧ s.ae.b.target ≠ some n

/-- One slot stands before another in the choice order: the lower box, then the higher rest, then the lower slot (R14). -/
def State.chosenFirst (s : State) (m n : Nat) : Prop :=
  ∃ e f, s.entry m = some e ∧ s.entry n = some f ∧
    (e.box < f.box ∨ e.box = f.box ∧ (f.rest < e.rest ∨ e.rest = f.rest ∧ m < n))

/-- What a refill of a queue up to a limit draws: candidates in the choice order, within the limit, and none left out that
stands before one drawn or that would still have room (R13 to R15). -/
def State.drawsInOrder (s : State) (q : WordQueue) (limit : Nat) (drawn : List Nat) : Prop :=
  (∀ n ∈ drawn, s.isCandidate q.owner n) ∧ drawn.Pairwise s.chosenFirst ∧
  (drawn = [] ∨ (s.wordQueue q).length + drawn.length ≤ limit) ∧
  ∀ m, s.isCandidate q.owner m → m ∉ drawn →
    limit ≤ (s.wordQueue q).length + drawn.length ∧ ∀ n ∈ drawn, s.chosenFirst n m

/-! ### Rounds of a duel (R77, R86, R88) -/

/-- A record is the seat's record of the round the duel record describes (R86). -/
def ResultRecord.ofRound (r : ResultRecord) (s : State) (x : Seat) : Prop :=
  r.seat = x ∧ r.style = .wordwise ∧ r.duel = true ∧ r.round = s.dc.round ∧ (r.won = true ↔ s.dc.winner = some x) ∧
  r.lateCorrect = (s.round x).lateCorrect ∧ (∀ k, s.dc.copy = some k → r.wordId = k.wordId ∧ r.boxBefore = k.box) ∧
  (∀ o, (s.round x).ended = some o → r.outcome = o) ∧ r.tries = (s.ctx x).tries ∧
  r.wrongTotal = (s.ctx x).wrongTotal ∧ r.hints = (s.ctx x).hints ∧ r.keys = (s.ctx x).keys ∧
  r.duration = (if (s.ctx x).startTick.isSome = true then (s.ctx x).elapsed else 0) ∧
  (∀ u, s.dc.update = some u → r.boxAfter = u.boxAfter ∧ r.masteredNow = u.masteredNow) ∧
  (s.dc.update = none → r.boxAfter = r.boxBefore ∧ r.masteredNow = false) ∧ r.mistake = (s.ctx x).lastMistake

/-- The log has taken seat A's record of a round and then seat B's, with the next two numbers (R86, R96). -/
def State.hasRecordsOf (t s : State) : Prop :=
  ∃ ra rb, t.rl.records = s.rl.records ++ [ra, rb] ∧ ra.ofRound s .a ∧ rb.ofRound s .b ∧
    ra.number = some s.rl.counter ∧ rb.number = some ((s.rl.counter + 1) % 65536) ∧
    t.rl.counter = (s.rl.counter + 2) % 65536 ∧ t.rl.waiting = s.rl.waiting

/-- A round is open at both seats: it has a target and a copy, both statuses are TYPING, it has no result and no record
yet, and the log has room for both records; the word is still in the table, the duel queue has room for it, and no refill
is due. -/
def State.roundOpen (s : State) : Prop :=
  (s.dc.state = .presenting ∨ s.dc.state = .racing) ∧ (∃ k, s.dc.copy = some k) ∧
  (∃ n e, s.dc.target = some n ∧ s.entry n = some e) ∧
  (∀ x, (s.round x).status = some .typing ∧ (s.round x).record = .notBuilt) ∧ s.dc.winner = none ∧ s.dc.result = none ∧
  s.dc.update = none ∧ s.rl.records.length ≤ 30 ∧ s.ps.duel.length < 8 ∧ s.cfg.refillMark = 0

/-- The open round has been broken off: both attempts ended ABANDONED, both records are in the log, the result is
ABANDONED, the word is at the head of the duel queue with its progress unchanged, and both contexts are IDLE with mode OFF
(R87, R88). -/
def State.brokenOff (t s : State) : Prop :=
  (∃ ra rb, t.rl.records = s.rl.records ++ [ra, rb] ∧ ra.seat = .a ∧ rb.seat = .b ∧
    ra.number = some s.rl.counter ∧ rb.number = some ((s.rl.counter + 1) % 65536) ∧
    ∀ r, r = ra ∨ r = rb → r.outcome = .abandoned ∧ r.won = false ∧ r.duel = true ∧ r.round = s.dc.round ∧
      r.masteredNow = false ∧ r.tries = (s.ctx r.seat).tries ∧ r.keys = (s.ctx r.seat).keys ∧
      r.mistake = (s.ctx r.seat).lastMistake ∧
      ∀ k, s.dc.copy = some k → r.wordId = k.wordId ∧ r.boxBefore = k.box ∧ r.boxAfter = k.box) ∧
  t.dc.result = some .abandoned ∧ t.dc.target = none ∧ t.wt = s.wt ∧
  (∀ n, s.dc.target = some n → t.ps = { s.ps with duel := n :: s.ps.duel }) ∧
  ∀ x, (t.ctx x).state = .idle ∧ (t.ctx x).mode = .off ∧ (t.ctx x).target = none

/-- A round has been presented on the head of the duel queue, with the prompt alone in speech, on voice V0 (R77). -/
def State.presents (t s : State) (n : Nat) (rest : List Nat) (e : WordEntry) : Prop :=
  t.dc.state = .presenting ∧ t.dc.round = s.dc.round + 1 ∧ t.dc.target = some n ∧ t.dc.copy = some e.copy ∧
  t.dc.scores = s.dc.scores ∧ t.dc.winner = none ∧ t.dc.result = none ∧ t.ps = { s.ps with duel := rest } ∧
  t.entry n = some { e with rest := 0 } ∧
  (∀ x, (t.ctx x).state = .prompting ∧ (t.ctx x).target = some n ∧ (t.ctx x).copy = some e.copy ∧
    (t.ctx x).typed = [] ∧ (t.round x).status = some .typing ∧ (t.round x).record = .notBuilt) ∧
  (∃ p, t.se.v0 = some p ∧ t.dc.firm = some p.utterance.handle ∧ p.utterance.requester = .duel ∧
    p.utterance.cls = .prompt ∧ p.utterance.clips = s.promptClips e.copy s.dc.sentence ∧ p.index = 0) ∧
  t.se.v1 = none ∧ t.allWaiting = []

/-! ### The receive line (R199) -/

/-- With the line at mark the receiver takes the byte `v`, from a command with the operand `w`: the character held back, or
with none held back the operand. -/
def State.takesByte (s : State) (w v : Byte) : Prop :=
  s.lp.line = .heldBack v ∨ (∀ h, s.lp.line ≠ .heldBack h) ∧ w = v

/-! ### Laws of the link (R201, R202, R206) -/

/-- A partial frame: the start byte, then at most 60 further bytes, the second a length of 56 or less, and the frame not
yet complete (R201). -/
def partialGood (bytes : List Byte) : Prop :=
  bytes[0]? = some Config.startByte ∧ (∀ n, bytes[1]? = some n → n.toNat ≤ Config.payload) ∧
    (∀ n, frameLength bytes = some n → bytes.length < n)

/-- The law of the link: at most 4 replies, the gap timer runs exactly in a frame, and the frame under way is a partial
frame (R201, R202, R206). -/
def State.linkLaw (s : State) : Prop :=
  s.lp.replies.length ≤ Config.replyQueue ∧
  match s.lp.assembler with
  | .hunting => s.lp.gapTimer = none
  | .inFrame bytes => s.lp.gapTimer.isSome = true ∧ partialGood bytes

/-! ### Laws of the clip store (R170, R171, R173, R174, R179) -/

/-- The law of the clip bytes: both lists are in canonical form, and every byte stands with its parity mark (R170,
R174). -/
def State.memoryLaw (s : State) : Prop :=
  Memory.wf s.cs.bytes = true ∧ Memory.wf s.cs.parity = true ∧
  ∀ a, Memory.read s.cs.parity a = parityMark (Memory.read s.cs.bytes a)

/-- The run of blocks of a clip that is not ABSENT contains block `b`. -/
def Clip.holds (c : Clip) (b : Nat) : Prop := c.firstBlock ≤ b ∧ b < c.firstBlock + c.blockCount

/-- The law of the block map: 160 directory entries and 384 blocks; a block is held by a clip exactly when it lies in
that clip's run; and a run is as long as its clip's length asks and lies within the store (R170, R171, R173). -/
def State.blockLaw (s : State) : Prop :=
  s.cs.directory.length = Config.clips ∧ s.cs.blocks.length = Config.blocks ∧
  (∀ b id, b < Config.blocks →
    (s.cs.blocks[b]? = some (some id) ↔ ∃ c, s.clip id = some c ∧ c.holds b)) ∧
  ∀ id c, s.clip id = some c →
    c.blockCount = blocksFor c.length ∧ c.firstBlock + c.blockCount ≤ Config.blocks ∧ 0 < c.length

/-- How often the utterances that wait or play name a clip. -/
def State.references (s : State) (id : Nat) : Nat :=
  ((s.allPlaying ++ s.allWaiting).flatMap (·.clips)).count id

/-- The law of the pins: the pins of a clip are the references to it of the utterances that wait or play; an ABSENT
clip has none, one that loads or is verified has none, and a RETIRING one has some; an utterance waits in the queue of
its requester (R147, R150, R179). -/
def State.pinLaw (s : State) : Prop :=
  s.cs.directory.length = Config.clips ∧
  (∀ id, match s.clip id with
    | none => s.references id = 0
    | some c => c.pins = s.references id ∧
        ((c.state = .loading ∨ c.state = .verifying) → c.pins = 0) ∧ (c.state = .retiring → 0 < c.pins)) ∧
  ∀ r, ∀ u ∈ s.speechQueue r, u.requester = r

/-- The number of clips in a state (R182). -/
def State.clipsInState (s : State) (st : ClipState) : Nat := s.cs.directory.countP fun c => c.map (·.state) == some st

/-! ### Laws of speech (R147, R149, R152, R154, R166) -/

/-- The law of speech: the capacities of the seat queues with their waiting ECHOs and of the announcement queue (R147,
R149), two voices that share no channel (R152), a start order of the three requesters (R154), and the ranges of the
volumes and of the last handle (R146, R166). -/
def State.speechLaw (s : State) : Prop :=
  (∀ x, (s.se.seatQueue.get x).length ≤ Config.seatSpeech ∧
    (s.se.seatQueue.get x).countP (·.cls == .echo) ≤ Config.waitingEchoes) ∧
  s.se.announceQueue.length ≤ Config.announcements ∧
  (∀ p q, s.se.v0 = some p → s.se.v1 = some q → shareChannel p.utterance.route q.utterance.route = false) ∧
  s.se.startOrder.Perm [.seat .a, .seat .b, .duel] ∧
  s.se.volumeA ≤ 15 ∧ s.se.volumeB ≤ 15 ∧ s.se.volumeSpeaker ≤ 15 ∧ s.se.lastHandle ≤ 255

/-! ### Laws of letters and mistake codes (spec 00 "Key codes", R59) -/

/-- A letter code (spec 00). -/
def letterGood (l : Nat) : Prop := 1 ≤ l ∧ l ≤ Config.letters

/-- At most 16 letters, each a letter code: a spelling (R2) or a typed list (R23). -/
def lettersGood (w : List Nat) : Prop := w.length ≤ Config.typedLetters ∧ ∀ l ∈ w, letterGood l

/-- The fields of a mistake code lie in their ranges (R59). -/
def MistakeCode.lawful (m : MistakeCode) : Prop :=
  m.position ≤ 16 ∧ (∀ l, m.expected = some l → letterGood l) ∧ ∀ l, m.typed = some l → letterGood l

/-- An optional mistake code lies in its ranges. -/
def mistakeGood (m : Option MistakeCode) : Prop := ∀ k, m = some k → k.lawful

/-- A key code carries a letter code if it is a letter (spec 00 "Key codes"). -/
def KeyCode.lawful (k : KeyCode) : Prop := ∀ l, k = .letter l → letterGood l

/-- What a context's mistakes are made of lies in its ranges: the copy's spelling, typed, cursor and last mistake (R23). -/
def Context.lettersLawful (c : Context) : Prop :=
  (∀ k, c.copy = some k → lettersGood k.spelling) ∧ lettersGood c.typed ∧ c.cursor ≤ 16 ∧ mistakeGood c.lastMistake

/-- The law of mistake codes: every place a word's last mistake can come from holds letter codes and mistake codes in
their ranges, from the key maps to the round mistake (R23, R59, R73, R80, R122). -/
def State.mistakeLaw (s : State) : Prop :=
  (∀ k ∈ s.ks.map0.entries ++ s.ks.map1.entries, k.lawful) ∧ (∀ x, ∀ k ∈ (s.seat x).keys, k.lawful) ∧
  (∀ x, (s.ctx x).lettersLawful) ∧ mistakeGood s.dc.mistake ∧
  ∀ x j, s.dc.judgements.get x = some j → mistakeGood j.mistake

/-! ### Laws of the Word Table (R2, R5) -/

/-- The fields of a word entry lie in their ranges, under the box law (R2, R8). -/
def WordEntry.lawful (e : WordEntry) : Prop :=
  0 < e.wordId ∧ e.wordId < 65536 ∧ 0 < e.spelling.length ∧ lettersGood e.spelling ∧
  1 ≤ e.wordClip ∧ e.wordClip ≤ Config.clips ∧
  (∀ id, e.sentenceClip = some id → 1 ≤ id ∧ id ≤ Config.clips) ∧
  (∀ id, e.hintClip = some id → 1 ≤ id ∧ id ≤ Config.clips) ∧
  e.box ≤ 4 ∧ e.streak ≤ 15 ∧ e.attempts ≤ 255 ∧ e.misses ≤ 255 ∧ e.rest ≤ 255 ∧
  (e.mastered = true → e.box = 4) ∧ mistakeGood e.lastMistake

/-- The law of the Word Table: 96 slots, every entry lawful, no word id in two slots, and the law of mistake codes, from
which a word's last mistake comes (R1, R2, R5, R59). -/
def State.wordLaw (s : State) : Prop :=
  s.wt.length = Config.slots ∧ (∀ n e, s.entry n = some e → e.lawful) ∧
  (∀ m n e f, s.entry m = some e → s.entry n = some f → e.wordId = f.wordId → m = n) ∧ s.mistakeLaw

/-! ### Law of the Result Log (R95, R96, R98, R101) -/

/-- The records' numbers, ending just before `counter`, in order and modulo 65536. -/
def numbered (records : List ResultRecord) (counter : Nat) : Prop :=
  ∀ i, i < records.length →
    ((records[i]?).bind (·.number)) = some ((counter + 65536 - (records.length - i)) % 65536)

/-- The law of the log: at most 32 records, numbered in order up to the record counter, and a threshold flag that is
true exactly while the log count is greater than the log threshold (R95, R96, R101). -/
def State.logLaw (s : State) : Prop :=
  s.rl.records.length ≤ Config.logRecords ∧ s.rl.counter < 65536 ∧ numbered s.rl.records s.rl.counter ∧
  s.rl.threshold = decide (s.cfg.logThreshold < s.rl.records.length)

/-! ### Law of the seats (R119, R120, R135, section 6.8) -/

/-- The law of a seat record: 8 rows, at most 16 keys and none outside READY, a fault cause exactly in FAULTED, and a
map slot 0 or 1 in CHECKING and READY (R114, R119, R130, section 6.8). -/
def SeatRecord.lawful (r : SeatRecord) : Prop :=
  r.rows.length = 8 ∧ r.keys.length ≤ Config.keyQueue ∧ (r.state ≠ .ready → r.keys = []) ∧
  (r.faultCause.isSome = true ↔ r.state = .faulted) ∧
  ((r.state = .checking ∨ r.state = .ready) → ∃ n, r.mapSlot = some n ∧ n ≤ 1)

/-- The law of the seats and the key maps. -/
def State.seatLaw (s : State) : Prop :=
  (∀ x, (s.seat x).lawful) ∧ s.ks.map0.entries.length = 56 ∧ s.ks.map1.entries.length = 56

/-! ### Law of the part condition (R194, R195, R197) -/

/-- The law of the part condition: a hold entry is outstanding only after NORMAL was left, a lockdown entry only in
LOCKDOWN, and the freeze lasts in LOCKDOWN only (R195, R197, R198). -/
def State.conditionLaw (s : State) : Prop :=
  (s.fb.holdDue = true → s.fb.condition ≠ .normal) ∧ (s.fb.lockdownDue = true → s.fb.condition = .lockdown) ∧
  (s.fb.frozen = true → s.fb.condition = .lockdown)

/-! ### Restarts -/

/-- The request that the byte taken completes, if it completes a frame: the held-back character, else this one (R199). -/
def State.requestAt (s : State) (v : Byte) : Parsed :=
  let bytes := s.partialFrame ++ [s.lp.line.taken v]
  parseRequest (bytes.getD 2 0) (bytes.getD 3 0) (framePayload bytes)

/-- The command sets the part to its power-on values: power on, RESTART FULL, or a byte that completes a frame with
RESTART FULL (R215, R216). -/
def State.resets (s : State) : Instr → Prop
  | .powerOn => True
  | .restartFull _ => True
  | .frameComplete v | .byteReceived ⟨v, .mark⟩ =>
    frameCompletes s.partialFrame = true ∧ ∃ tag, s.requestAt v = .request (.restartFull tag)
  | _ => False

end Sys2Proof.Machine
end

