-- ==== Sys2Proof/Certificates/Slice0/Obligations.lean ====
section
/-! DEFINITION. The statements about the ES212 for the provers. Each is a proposition over every state that meets its
hypotheses; the invariants that some rest on are stated as their own obligations. -/

open Sys2Proof Sys2Proof.Machine

/-! ### Steps -/

/-- A step takes the command at the front of the queue and runs it on the queue's rest. The queue of waiting commands is
the model's own (notes/assumptions/30); that a command's whole rule is one step is the spec's. -/
def Obligations.StepRunsFrontCommand : Prop :=
  ∀ (s : State) (c : Instr) (rest : List Instr), s.pending = c :: rest →
    step s = exec c { s with pending := rest }

/-- With no command waiting, a step is one master-clock period, the model's choice (notes/assumptions/3): none while the
reset pin is held; else only the down-counts, the verify unit and the voices' positions move, no down-count below 1. -/
def Obligations.IdleStepMovesTimersOnly : Prop :=
  ∀ s : State, s.pending = [] →
    (s.resetHeld = true → step s = .next s) ∧
    (s.resetHeld = false → ∃ t, step s = .next t ∧
      t.cfg = s.cfg ∧ t.wt = s.wt ∧ t.ps = s.ps ∧ t.ae = s.ae ∧ t.dc = s.dc ∧ t.rl = s.rl ∧ t.au = s.au ∧
      t.fb = s.fb ∧ t.pending = [] ∧ t.resetHeld = false ∧
      t.lp = { s.lp with gapTimer := s.lp.gapTimer.map fun n => max (n - 1) 1 } ∧
      t.tb = { s.tb with generator := match s.tb.generator with
        | .running n => .running (max (n - 1) 1)
        | .stopped => .stopped } ∧
      (∀ x, t.seat x = { s.seat x with settleTimer := (s.seat x).settleTimer.map fun n => max (n - 1) 1 }) ∧
      t.ks.map0 = s.ks.map0 ∧ t.ks.map1 = s.ks.map1 ∧ t.ks.scan = s.ks.scan ∧
      t.se = { s.se with v0 := t.se.v0, v1 := t.se.v1 } ∧ t.cs = { s.cs with verify := t.cs.verify } ∧
      t.allPlaying = s.allPlaying)

/-- Every command answers a next state in every state, and leaves the commands that wait as they are. For requests this is
the spec's: each is answered. For an event that cannot occur, a command while the reset pin is held, a state that no run
reaches, and the queue of waiting commands it is the model's choice (notes/assumptions/5, 20, 28 and 30). -/
def Obligations.EveryCommandAnswersNextState : Prop :=
  ∀ (c : Instr) (s : State), ∃ t : State, exec c s = .next t ∧ t.pending = s.pending

/-! ### Requests and the link -/

/-- A request that passes the checks is answered exactly once, at the tail of the reply queue, with its kind plus 0x80 and
its tag; with a status other than OK and ACCEPTED the reply carries the status alone and nothing else changes (R205). -/
def Obligations.TakenRequestIsAnsweredOnce : Prop :=
  ∀ (c : Instr) (s : State), c.isRequest = true → s.takes c →
    ∃ (t : State) (st : Status) (contents : List Byte), exec c s = .next (t.replied c st contents) ∧ t.lp.replies = s.lp.replies ∧
      (st = .ok ∨ st = .accepted ∨ (contents = [] ∧ t = s))

/-- A request whose frame meets a full reply queue is not executed and answered; OVERRUN is recorded (R203 step 1). One
that LOCKDOWN does not let through is answered LOCKED and changes nothing else (R203 step 5, R204). -/
def Obligations.FullQueueOrLockdownTurnsRequestAway : Prop :=
  ∀ (c : Instr) (s : State), c.isRequest = true → s.resetHeld = false →
    (4 ≤ s.lp.replies.length → exec c s = .next (s.recordFault .overrun .nothing 0 none)) ∧
    (s.lp.replies.length < 4 → c.wellFormed = true → s.fb.condition = .lockdown →
      (∀ tag, c ≠ .status tag) → (∀ tag b, c ≠ .readFaults tag b) → (∀ tag, c ≠ .readAttention tag) →
      (∀ tag x, c ≠ .readAttempt tag x) → (∀ tag, c ≠ .restartFull tag) →
      exec c s = .next (s.replied c .locked []))

/-- The kind, the tag and the payload a request is sent with spell that request, with every operand, for every well-formed
request of the catalogue. -/
def Obligations.RequestPayloadsParseBack : Prop :=
  ∀ c : Instr, c.isRequest = true → c.wellFormed = true →
    parseRequest c.kind c.tag c.payload = .request c ∧ c.payload.length ≤ 56

/-- The byte that completes the frame of a well-formed request, with its CRC, executes that request: FRAME_COMPLETE and
BYTE_RECEIVED do what the request's own command does, with the assembler back in HUNTING (R203, R205). That a request is a
command of its own (notes/assumptions/7) and that BYTE_RECEIVED completes a frame too (notes/assumptions/8) is the
model's reading. The byte is the command's operand, or the character held back, taken as the line returns to mark (R199);
that the same commands stand for it is the model's choice (notes/assumptions/27). -/
def Obligations.CompletedFrameRunsItsRequest : Prop :=
  ∀ (c : Instr) (s : State) (bytes : List Byte) (w last : Byte), c.isRequest = true → c.wellFormed = true →
    s.resetHeld = false → s.lp.replies.length < 4 → s.lp.assembler = .inFrame bytes → s.takesByte w last →
    frameOf c.kind c.tag c.payload = bytes ++ [last] →
    exec (.frameComplete w) s =
      exec c { s with lp := { s.lp with assembler := .hunting, gapTimer := none, line := .mark } } ∧
    exec (.byteReceived ⟨w, .mark⟩) s =
      exec c { s with lp := { s.lp with assembler := .hunting, gapTimer := none, line := .mark } } ∧
    (s.takes c → ∃ (t : State) (st : Status) (contents : List Byte), exec (.frameComplete w) s = .next (t.replied c st contents) ∧
      exec (.byteReceived ⟨w, .mark⟩) s = .next (t.replied c st contents) ∧ t.lp.assembler = .hunting ∧
      t.lp.replies = s.lp.replies)

/-- A frame whose CRC bytes differ from the computed CRC is not executed: FRAME_CRC is recorded with the kind byte as
detail, and a reply of kind 0xFF with the frame's tag carries BAD_CRC alone (R203 step 2). That BYTE_RECEIVED completes a
frame as FRAME_COMPLETE does is the model's reading (notes/assumptions/8), and that either stands for a held-back character
too is its choice (notes/assumptions/27). -/
def Obligations.FrameWithBadCrcIsNotExecuted : Prop :=
  ∀ (s : State) (length kind tag crcLow w last : Byte) (payload : List Byte), s.resetHeld = false → s.takesByte w last →
    s.lp.replies.length < 4 → length.toNat = payload.length →
    s.lp.assembler = .inFrame ([0xC3, length, kind, tag] ++ payload ++ [crcLow]) →
    [crcLow, last] ≠ lowFirst (crc16 ([length, kind, tag] ++ payload)).toNat →
    ∃ t : State, exec (.frameComplete w) s = .next t ∧ exec (.byteReceived ⟨w, .mark⟩) s = .next t ∧
      t = ({ s with lp := ⟨.hunting, none, s.lp.replies ++ [⟨0xFF, tag, [0x02]⟩], .mark⟩ } : State).recordFault
        .frameCrc .nothing kind.toNat none

/-- Bytes of the link: HUNTING waits for 0xC3; a byte of a frame that it does not complete is stored and the gap timer
starts again; a length above 56 ends the frame, and is itself a start byte if it is 0xC3 (R201, R202). The gap
timer's expiry discards the partial frame with FRAME_GAP and the number of its bytes; a break resets the link
alone; a reply sent leaves the head of the reply queue (R202, R206, R208). That GAP_TIMER_EXPIRY with no gap timer running
changes nothing is the model's choice (notes/assumptions/5). A character whose stop bit is at space is held back, and no
further one begins while it is; it is the byte taken once the line is at mark, and a break discards it (R199, R208). That
BYTE_RECEIVED gives the stop bit, and gives the line's return to mark too, is the model's choice (notes/assumptions/27). With
nothing to send, and while the reset pin is held, the transmit line rests at mark (R199, R216). -/
def Obligations.LinkEventsActOnTheLink : Prop :=
  (∀ (s : State) (w v : Byte), s.resetHeld = false → s.takesByte w v →
    (s.lp.assembler = .hunting → v ≠ 0xC3 → exec (.byteReceived ⟨w, .mark⟩) s =
      .next { s with lp := { s.lp with line := .mark } }) ∧
    (s.lp.assembler = .hunting → v = 0xC3 → exec (.byteReceived ⟨w, .mark⟩) s =
      .next { s with lp := { s.lp with assembler := .inFrame [0xC3], gapTimer := some 24000, line := .mark } }) ∧
    (∀ start, s.lp.assembler = .inFrame [start] → 56 < v.toNat → v ≠ 0xC3 → exec (.byteReceived ⟨w, .mark⟩) s =
      .next { s with lp := { s.lp with assembler := .hunting, gapTimer := none, line := .mark } }) ∧
    (∀ start, s.lp.assembler = .inFrame [start] → v = 0xC3 → exec (.byteReceived ⟨w, .mark⟩) s =
      .next { s with lp := { s.lp with assembler := .inFrame [0xC3], gapTimer := some 24000, line := .mark } }) ∧
    (∀ start, s.lp.assembler = .inFrame [start] → v.toNat ≤ 56 → exec (.byteReceived ⟨w, .mark⟩) s =
      .next { s with lp := { s.lp with assembler := .inFrame [start, v], gapTimer := some 24000, line := .mark } }) ∧
    (∀ start length more, s.lp.assembler = .inFrame (start :: length :: more) →
      more.length + 3 ≠ length.toNat + 6 → exec (.byteReceived ⟨w, .mark⟩) s =
      .next { s with lp := { s.lp with
        assembler := .inFrame (start :: length :: more ++ [v]), gapTimer := some 24000, line := .mark } })) ∧
  (∀ s : State, s.resetHeld = false →
    (∀ bytes n, s.lp.assembler = .inFrame bytes → s.lp.gapTimer = some n → exec .gapTimerExpiry s =
      .next (({ s with lp := { s.lp with assembler := .hunting, gapTimer := none } }).recordFault
        .frameGap .nothing bytes.length none)) ∧
    (s.lp.gapTimer = none → exec .gapTimerExpiry s = .next s) ∧
    exec .linkBreak s = .next { s with lp := { assembler := .hunting, gapTimer := none, replies := [], line := .space } } ∧
    exec .replySent s = .next { s with lp := { s.lp with replies := s.lp.replies.tail } }) ∧
  (∀ (s : State) (v : Byte), s.resetHeld = false →
    (∀ h, s.lp.line = .heldBack h → exec (.byteReceived ⟨v, .space⟩) s = .next s) ∧
    ((∀ h, s.lp.line ≠ .heldBack h) → exec (.byteReceived ⟨v, .space⟩) s =
      .next { s with lp := { s.lp with line := .heldBack v } })) ∧
  ∀ s : State, s.lp.replies = [] ∨ s.resetHeld = true → s.transmitLevel = some .mark

/-- Out of reset, the ready line is high while the reply queue holds 0, 1 or 2 replies and low while it holds 3 or 4, and
it is high after power-on (R207). -/
def Obligations.ReadyLineFollowsReplyQueue : Prop :=
  (∀ s : State, s.resetHeld = false →
    (s.lp.replies.length = 0 ∨ s.lp.replies.length = 1 ∨ s.lp.replies.length = 2 → s.readyHigh = true) ∧
    (s.lp.replies.length = 3 ∨ s.lp.replies.length = 4 → s.readyHigh = false)) ∧
  State.reset.readyHigh = true

/-! ### Restarts, the reset pin and the configuration -/

/-- POWER_ON gives every block its power-on values, and RESTART FULL gives every block but the reply queue the same;
the sense lines stand as they are, the receive line keeps its level with no character held back (notes/assumptions/27), and
the model keeps the clip bytes and parity marks (notes/assumptions/2). The
reset pin's active level releases the ready and attention lines and stops the transmitter; until POWER_ON only the
levels of the sense lines follow the outside, the model's reading (notes/assumptions/20). -/
def Obligations.ResetsSetEveryBlock : Prop :=
  (∀ s : State, ∃ t : State, exec .powerOn s = .next t ∧
    t = { State.reset with
      lp := { State.reset.lp with line := if s.lp.line = .mark then .mark else .space }
      ks := { State.reset.ks with seats :=
        ⟨{ SeatRecord.fresh with senseLine := s.ks.seats.a.senseLine },
          { SeatRecord.fresh with senseLine := s.ks.seats.b.senseLine }⟩ }
      cs := { ClipStore.fresh with bytes := s.cs.bytes, parity := s.cs.parity }
      pending := s.pending } ∧
    ∀ tag, s.takes (.restartFull tag) → exec (.restartFull tag) s =
      .next (({ t with lp := { t.lp with replies := s.lp.replies } }).replied (.restartFull tag) .ok [])) ∧
  (∀ s : State,
    exec .resetPinAsserted s =
      .next { s with
        resetHeld := true
        lp := { s.lp with assembler := .hunting, gapTimer := none, line := if s.lp.line = .mark then .mark else .space } } ∧
    (s.resetHeld = true → s.readyHigh = false ∧ s.attentionAsserted = false ∧ s.sending = none ∧
      (∀ x keyboard, exec (.senseChange x keyboard) s =
        .next (s.setSeat x { s.seat x with senseLine := keyboard })) ∧
      ∀ c : Instr, c ≠ .powerOn → c ≠ .resetPinAsserted → (∀ x k, c ≠ .senseChange x k) → exec c s = .next s))

/-- RESTART LESSON: both contexts, the duel record, the word queues, the waiting line, the key queues and row records are
set back and every utterance is cancelled; style and options, the log, the words, the configuration, the Timebase, the
fault records and the attention enable set stay, and HOLD ends (R213, R214). The seats keep all else, with their faults
and check progress; the key maps and the scan stay; each clip stays with no pin, and its blocks, but a RETIRING one, whose
last pin goes, is freed with CLIP_FREED; the pending causes stay (R135, R179, R214). Alerts a lesson tick has found are
given first, the model's reading (notes/assumptions/13): they alone add ALERT and sticky rows. -/
def Obligations.LessonRestartClearsLessons : Prop :=
  ∀ (s : State) (tag : Byte), s.takes (.restartLesson tag) →
    ∃ t : State, exec (.restartLesson tag) s = .next (t.replied (.restartLesson tag) .ok []) ∧
      (∀ x, t.ctx x = { Context.fresh with
          style := (s.ctx x).style, echo := (s.ctx x).echo, bargeIn := (s.ctx x).bargeIn,
          sentence := (s.ctx x).sentence }) ∧
      t.dc = DuelRecord.fresh ∧ t.ps = { practice := ⟨[], []⟩, duel := [] } ∧ t.rl = { s.rl with waiting := [] } ∧
      t.allPlaying = [] ∧ t.allWaiting = [] ∧ t.fb = { s.fb with condition := .normal, holdDue := false } ∧
      (∀ x, { t.seat x with holdRows := (s.seat x).holdRows, chordRows := (s.seat x).chordRows } =
        { s.seat x with keys := [], rows := List.replicate 8 RowRecord.fresh } ∧
        (t.seat x).holdRows &&& (s.seat x).holdRows = (s.seat x).holdRows ∧
        (t.seat x).chordRows &&& (s.seat x).chordRows = (s.seat x).chordRows ∧
        ((∀ r ∈ (s.seat x).rows, r.due = false) →
          t.seat x = { s.seat x with keys := [], rows := List.replicate 8 RowRecord.fresh })) ∧
      t.ks.map0 = s.ks.map0 ∧ t.ks.map1 = s.ks.map1 ∧ t.ks.scan = s.ks.scan ∧
      t.wt = s.wt ∧ t.lp = s.lp ∧ t.cfg = s.cfg ∧ t.tb = s.tb ∧ t.au.enabled = s.au.enabled ∧
      (∀ k, s.isPending k = true → t.isPending k = true) ∧
      (∀ k, k ≠ .alert → k ≠ .clipFreed → t.isPending k = s.isPending k) ∧
      ((∀ x, ∀ r ∈ (s.seat x).rows, r.due = false) → t.isPending .alert = s.isPending .alert) ∧
      (s.pinLaw →
        (∀ id, t.clip id = match s.clip id with
          | some c => if c.state = .retiring then none else some { c with pins := 0 }
          | none => none) ∧
        (∀ b : Nat, t.cs.blocks[b]? = match s.cs.blocks[b]? with
          | some (some id) => if (s.clip id).map (·.state) = some .retiring then some none else some (some id)
          | v => v) ∧
        (t.isPending .clipFreed = true ↔ s.isPending .clipFreed = true ∨
          ∃ id c, s.clip id = some c ∧ c.state = .retiring)) ∧
      t.cs.bytes = s.cs.bytes ∧ t.cs.parity = s.cs.parity ∧ t.cs.verify = s.cs.verify ∧
      t.se.routes = s.se.routes ∧ t.se.cues = s.se.cues ∧ t.se.letters = s.se.letters ∧
      t.se.lastHandle = s.se.lastHandle ∧ t.se.startOrder = s.se.startOrder ∧ t.se.volumeA = s.se.volumeA ∧
      t.se.volumeB = s.se.volumeB ∧ t.se.volumeSpeaker = s.se.volumeSpeaker ∧
      ((∀ u ∈ s.allPlaying ++ s.allWaiting, u.requester ≠ .announce) → t.se.lastAnnounce = s.se.lastAnnounce)

/-- CONFIGURE stores all fields when every one lies in its range and the refill target is above the refill mark, and no
field otherwise (R210); READ_CONFIG then returns the bytes CONFIGURE was sent with (R211). Of the log and the attention unit
only the threshold flag and the cause LOG_THRESHOLD follow the new threshold (R101). -/
def Obligations.ConfigureStoresAllOrNone : Prop :=
  ∀ (s : State) (tag tag' : Byte) (im : ConfigImage), s.takes (.configure tag im) →
    ((1 ≤ im.scanDivisor.toNat ∧ 1 ≤ im.tickDivisor.toNat ∧ 1 ≤ im.debounceCount.toNat ∧ im.debounceCount.toNat ≤ 15 ∧
      50 ≤ im.holdLimit.toNat ∧ im.holdLimit.toNat ≤ 2000 ∧ 100 ≤ im.idleLimit.toNat ∧ im.idleLimit.toNat ≤ 6000 ∧
      im.nudgeLimit.toNat ≤ 3 ∧ 1 ≤ im.tryLimit.toNat ∧ im.tryLimit.toNat ≤ 3 ∧ 1 ≤ im.letterMissLimit.toNat ∧
      im.letterMissLimit.toNat ≤ 5 ∧ im.repeatLimit.toNat ≤ 5 ∧ im.reinsertGap.toNat ≤ 7 ∧ im.refillMark.toNat ≤ 5 ∧
      1 ≤ im.refillTarget.toNat ∧ im.refillTarget.toNat ≤ 8 ∧ 1 ≤ im.masteryStreak.toNat ∧
      im.masteryStreak.toNat ≤ 15 ∧ 1 ≤ im.logThreshold.toNat ∧ im.logThreshold.toNat ≤ 31 ∧
      im.refillMark.toNat < im.refillTarget.toNat) →
      ∃ t : State, exec (.configure tag im) s = .next (t.replied (.configure tag im) .ok []) ∧
        t.cfg = configOf im ∧ t.rl.threshold = decide (im.logThreshold.toNat < s.rl.records.length) ∧
        t.au.raised = (if t.rl.threshold = true ∧ s.rl.threshold = false then s.au.raised ||| 32#16 else s.au.raised) ∧
        t.rl = { s.rl with threshold := t.rl.threshold } ∧ t.au = { s.au with raised := t.au.raised } ∧
        { t with cfg := s.cfg, rl := s.rl, au := s.au } = s ∧
        (t.takes (.readConfig tag') → exec (.readConfig tag') t = .next (t.replied (.readConfig tag') .ok im.payload))) ∧
    ((im.scanDivisor.toNat = 0 ∨ im.tickDivisor.toNat = 0 ∨ im.debounceCount.toNat = 0 ∨ 15 < im.debounceCount.toNat ∨
      im.holdLimit.toNat < 50 ∨ 2000 < im.holdLimit.toNat ∨ im.idleLimit.toNat < 100 ∨ 6000 < im.idleLimit.toNat ∨
      3 < im.nudgeLimit.toNat ∨ im.tryLimit.toNat = 0 ∨ 3 < im.tryLimit.toNat ∨ im.letterMissLimit.toNat = 0 ∨
      5 < im.letterMissLimit.toNat ∨ 5 < im.repeatLimit.toNat ∨ 7 < im.reinsertGap.toNat ∨ 5 < im.refillMark.toNat ∨
      im.refillTarget.toNat = 0 ∨ 8 < im.refillTarget.toNat ∨ im.masteryStreak.toNat = 0 ∨
      15 < im.masteryStreak.toNat ∨ im.logThreshold.toNat = 0 ∨ 31 < im.logThreshold.toNat ∨
      im.refillTarget.toNat ≤ im.refillMark.toNat) →
      exec (.configure tag im) s = .next (s.replied (.configure tag im) .badField []))

/-! ### Reads -/

/-- STATUS is answered OK with the part condition, the generator, the seats, the contexts, the duel, the log count,
the pending causes, the valid banks and the free blocks, in NORMAL, HOLD and LOCKDOWN, and changes no state
(R212). The other reads answer with the contents of what they name and change nothing but the replies:
READ_CONFIG, GET_WORD, READ_QUEUE, READ_ATTEMPT, READ_DUEL, PEEK_RESULTS, READ_SPEECH, CLIP_STATUS, STORE_STATUS
and READ_FAULTS, byte by byte as the reply layouts give them, in the codes of R218 (R217, R218). -/
def Obligations.ReadsAnswerAndChangeNothing : Prop :=
  (∀ (s : State) (tag : Byte), s.takes (.status tag) →
    exec (.status tag) s = .next (s.replied (.status tag) .ok
      ([byte (conditionCode s.fb.condition), byte (match s.tb.generator with | .stopped => 0 | .running _ => 1),
        byte (seatStateCode s.ks.seats.a.state), byte (seatStateCode s.ks.seats.b.state),
        byte (contextStateCode s.ae.a.state), byte (contextStateCode s.ae.b.state), byte (duelStateCode s.dc.state),
        byte s.rl.records.length, byte s.au.raised.toNat, byte (s.au.raised.toNat / 256),
        byte ((if s.fb.link.held.isSome then 1 else 0) + (if s.fb.scan.held.isSome then 2 else 0) +
          (if s.fb.audio.held.isSome then 4 else 0) + (if s.fb.lesson.held.isSome then 8 else 0)),
        byte (s.cs.blocks.count none), byte (s.cs.blocks.count none / 256)]))) ∧
  (∀ (s : State) (tag v : Byte),
    (s.takes (.readConfig tag) →
      exec (.readConfig tag) s = .next (s.replied (.readConfig tag) .ok s.cfg.bytes) ∧ s.cfg.bytes.length = 17) ∧
    (s.takes (.getWord tag v) → v.toNat < 96 → exec (.getWord tag v) s =
      .next (s.replied (.getWord tag v) .ok (match s.slot v.toNat with
        | .empty => [0, byte (s.engagement v.toNat).code]
        | .occupied e _ => [1, byte (s.engagement v.toNat).code] ++ wordBytes v.toNat e
        | .damaged => [2, byte (s.engagement v.toNat).code]))) ∧
    (∀ q, s.takes (.readQueue tag v) → queueOf v = some q → exec (.readQueue tag v) s =
      .next (s.replied (.readQueue tag v) .ok
        (byte (s.wordQueue q).length :: padTo 8 255 ((s.wordQueue q).map byte)))) ∧
    (∀ x, s.takes (.readAttempt tag v) → seatOf v = some x → exec (.readAttempt tag v) s =
      .next (s.replied (.readAttempt tag v) .ok (s.attemptBytes x)) ∧ (s.attemptBytes x).length = 55 ∧
      ∀ c, s.ctx x = c → s.attemptBytes x =
        [byte (modeCode c.mode + 4 * styleCode c.style + 8 * bit c.echo + 16 * bit c.bargeIn + 32 * bit c.sentence +
            64 * bit c.stopMarked + 128 * bit (s.dc.judgements.get x).isSome),
          byte (contextStateCode c.state + 8 * pauseCode c.pauseCause +
            32 * (match s.rl.waiting.idxOf? x with | some i => i + 1 | none => 0) + 128 * bit c.idleRunning),
          byte (match c.target with | some n => n | none => 255),
          byte (match c.copy with | some k => k.wordId | none => 0),
          byte ((match c.copy with | some k => k.wordId | none => 0) / 256),
          byte (c.typed.length + 32 * bit c.startTick.isSome + 64 * bit c.pendingRecord.isSome),
          byte (c.cursor + 32 * c.repeats), byte (c.wrongHere + 8 * c.autofills),
          byte (c.tries + 4 * c.nudges + 16 * c.hints), byte c.wrongTotal, byte c.keys] ++
        mistakeBytes c.lastMistake ++
        [byte (match c.startTick with | some n => n | none => 0),
          byte ((match c.startTick with | some n => n | none => 0) / 256), byte c.elapsed, byte (c.elapsed / 256),
          byte c.idleTimer, byte (c.idleTimer / 256), byte (match c.firm with | some h => h | none => 0)] ++
        ((c.typed.map byte) ++ List.replicate (16 - c.typed.length) 0).take 16 ++
        (match c.pendingRecord with | some r => (recordBytes r).drop 2 | none => List.replicate 17 0)) ∧
    (s.takes (.readDuel tag) →
      exec (.readDuel tag) s = .next (s.replied (.readDuel tag) .ok s.duelBytes) ∧ s.duelBytes.length = 18 ∧
      ∀ d, s.dc = d → s.duelBytes =
        [byte (duelStateCode d.state + 8 * bit d.echo + 16 * bit d.sentence), byte d.total, byte d.round,
          byte d.scores.a, byte d.scores.b, byte (match d.target with | some n => n | none => 255),
          byte (match d.copy with | some k => k.wordId | none => 0),
          byte ((match d.copy with | some k => k.wordId | none => 0) / 256),
          byte (seatStatusCode d.seats.a.status + 8 * seatStatusCode d.seats.b.status +
            64 * bit d.seats.a.lateCorrect + 128 * bit d.seats.b.lateCorrect),
          byte (winnerCode d.winner + 4 * winnerCode d.duelWinner + 16 * finishCode d.finish)] ++
        mistakeBytes d.mistake ++
        [byte (roundResultCode d.result),
          byte (match d.update with | some u => 1 + 2 * u.boxAfter + 16 * bit u.masteredNow | none => 0),
          byte (recordStatusCode d.seats.a.record + 4 * recordStatusCode d.seats.b.record),
          byte (match d.firm with | some h => h | none => 0)]) ∧
    (s.takes (.peekResults tag v) → v.toNat = 1 ∨ v.toNat = 2 → exec (.peekResults tag v) s =
      .next (s.replied (.peekResults tag v) .ok
        ([byte s.rl.records.length, byte s.rl.waiting.length] ++ (s.rl.records.take v.toNat).flatMap recordBytes)) ∧
      ∀ r, (recordBytes r).length = 19 ∧ recordBytes r =
        [byte (match r.number with | some n => n | none => 0), byte ((match r.number with | some n => n | none => 0) / 256),
          byte (seatCode r.seat + 2 * styleCode r.style + 4 * bit r.duel + 8 * bit r.won + 16 * bit r.lateCorrect +
            32 * bit r.masteredNow), byte r.round, byte r.wordId, byte (r.wordId / 256), byte (outcomeCode r.outcome),
          byte r.tries, byte r.wrongTotal, byte r.hints, byte r.keys, byte r.duration, byte (r.duration / 256),
          byte r.boxBefore, byte r.boxAfter] ++ mistakeBytes r.mistake) ∧
    (∀ p, s.takes (.readSpeech tag v) → partOf v = some p → exec (.readSpeech tag v) s =
      .next (s.replied (.readSpeech tag v) .ok (match p with
        | .queue r => s.speechBytes r
        | .cues => s.se.cues.map fun e => byte (match e with | some id => id | none => 0)
        | .letters => s.se.letters.map fun e => byte (match e with | some id => id | none => 0))) ∧
      ∀ r, (s.speechBytes r).length = 46 ∧
        (s.speechBytes r)[0]? = some (byte (s.speechQueue r).length) ∧
        (∀ i u, i < 6 → (s.speechQueue r)[i]? = some u → ((s.speechBytes r).drop (1 + 4 * i)).take 4 =
          [byte u.handle, byte (classCode u.cls), u.route.setWidth 8, byte u.clips.length]) ∧
        (∀ i, i < 6 → (s.speechQueue r)[i]? = none → ((s.speechBytes r).drop (1 + 4 * i)).take 4 = [0, 0, 0, 0]) ∧
        (∀ w at', (w = Voice.v0 ∧ at' = 25 ∨ w = .v1 ∧ at' = 32) → ((s.speechBytes r).drop at').take 7 =
          match s.voice w with
          | none => [0, 0, 0, 0, 0, 0, 0]
          | some p => [1, byte p.utterance.handle, byte (requesterCode p.utterance.requester),
              byte (classCode p.utterance.cls), p.utterance.route.setWidth 8, byte p.index,
              byte p.utterance.clips.length]) ∧
        (∀ x y z, s.se.startOrder = [x, y, z] → (s.speechBytes r).drop 39 =
          [byte (settingCode s.se.routes.a + 2 * settingCode s.se.routes.b), byte s.se.volumeA, byte s.se.volumeB,
            byte s.se.volumeSpeaker, byte (requesterCode x + 4 * (requesterCode y + 4 * requesterCode z)),
            byte (match s.se.lastAnnounce with | some l => l.handle | none => 0),
            byte (match s.se.lastAnnounce with | some l => endStatusCode l.status | none => 0)])) ∧
    (s.takes (.clipStatus tag v) → 1 ≤ v.toNat → v.toNat ≤ 160 → exec (.clipStatus tag v) s =
      .next (s.replied (.clipStatus tag v) .ok (s.clipBytes v.toNat)) ∧ (s.clipBytes v.toNat).length = 16 ∧
      (s.clip v.toNat = none → s.clipBytes v.toNat = List.replicate 16 0) ∧
      ∀ c k, s.clip v.toNat = some c → (k = match s.cs.verify with
          | some u => if u.clip = v.toNat then u.checked else 0
          | none => 0) → s.clipBytes v.toNat =
        [byte (match c.state with | .loading => 1 | .verifying => 2 | .ready => 3 | .bad => 4 | .retiring => 5),
          byte (formatCode c.format + 2 * rateCode c.rate), byte (badCauseCode c.badCause), byte c.length,
          byte (c.length / 256), byte c.firstBlock, byte (c.firstBlock / 256), byte c.blockCount, byte c.crc.toNat,
          byte (c.crc.toNat / 256), byte c.fill, byte (c.fill / 256), byte c.pins, byte (c.pins / 256), byte k,
          byte (k / 256)]) ∧
    (s.takes (.storeStatus tag) → exec (.storeStatus tag) s =
      .next (s.replied (.storeStatus tag) .ok s.storeBytesReply) ∧ s.storeBytesReply.length = 16 ∧
      ∀ start len, (∀ i, i < len → s.cs.blocks[start + i]? = some none) →
        (∀ b k, (∀ i, i < k → s.cs.blocks[b + i]? = some none) → k ≤ len) →
        (0 < len → ∀ b, b < start → ∃ i, i < len ∧ s.cs.blocks[b + i]? ≠ some none) → (len = 0 → start = 65535) →
        s.storeBytesReply =
          [byte (s.cs.blocks.count none), byte (s.cs.blocks.count none / 256), byte len, byte (len / 256), byte start,
            byte (start / 256), byte (s.cs.directory.countP (·.isNone)), byte (s.clipsInState .loading),
            byte (s.clipsInState .verifying), byte (s.clipsInState .ready), byte (s.clipsInState .bad),
            byte (s.clipsInState .retiring)] ++
          (match s.cs.verify with
            | some u => [1, byte u.clip, byte u.checked, byte (u.checked / 256)]
            | none => [0, 0, 0, 0])) ∧
    (∀ bs, s.takes (.readFaults tag v) → readBanksOf v = some bs → exec (.readFaults tag v) s =
      .next (s.replied (.readFaults tag v) .ok (byte (conditionCode s.fb.condition) :: bs.flatMap s.bankBytes)) ∧
      (v.toNat = 0 → bs = [.link]) ∧ (v.toNat = 1 → bs = [.scan]) ∧ (v.toNat = 2 → bs = [.audio]) ∧
      (v.toNat = 3 → bs = [.lesson]) ∧ (v.toNat = 4 → bs = [.link, .scan, .audio, .lesson]) ∧
      ∀ b, (s.bankBytes b).length = 10 ∧ s.bankBytes b = (match (s.fb.bank b).held with
        | none => [byte (bankCode b), 0, 0, 0, 0, 0, 0, 0]
        | some f => [byte (bankCode b), byte (1 + 2 * bit f.overflow), byte f.code.number,
            byte (bit f.code.disruptive + 2 * bit f.enabled + (if f.resumable = some true then 4 else 0)),
            byte (match f.context with | .nothing => 0 | .seat _ => 1 | .clip _ => 2 | .slot _ => 3),
            byte (match f.context with | .nothing => 0 | .seat .a => 0 | .seat .b => 1 | .clip id => id | .slot n => n),
            byte f.detail, byte (f.detail / 256)]) ++
          [byte (s.fb.bank b).mask.toNat, byte ((s.fb.bank b).mask.toNat / 256)])) ∧
  ([Mode.off, .solo, .duel].map modeCode = [0, 1, 2] ∧ [Style.letterwise, .wordwise].map styleCode = [0, 1] ∧
    [none, some PauseCause.host, some .hold].map pauseCode = [0, 1, 2] ∧
    [ContextState.idle, .prompting, .typing, .feedback, .waitingLog, .paused, .done].map contextStateCode =
      [0, 1, 2, 3, 4, 5, 6] ∧
    [SeatState.empty, .identifying, .checking, .ready, .faulted].map seatStateCode = [0, 1, 2, 3, 4] ∧
    [DuelState.off, .presenting, .racing, .settling, .finished].map duelStateCode = [0, 1, 2, 3, 4] ∧
    [none, some SeatStatus.typing, some .out, some .solved, some .beaten, some .gone].map seatStatusCode =
      [0, 1, 2, 3, 4, 5] ∧
    [none, some Seat.a, some .b].map winnerCode = [0, 1, 2] ∧
    [none, some FinishReason.rounds, some .noWords, some .forfeitA, some .forfeitB, some .stopped].map finishCode =
      [0, 1, 2, 3, 4, 5] ∧
    [none, some RoundResult.correct, some .helped, some .miss, some .skipped, some .abandoned].map roundResultCode =
      [0, 1, 2, 3, 4, 5] ∧
    [RecordStatus.notBuilt, .waiting, .inLog].map recordStatusCode = [0, 1, 2] ∧
    [AttemptEnd.correct, .helped, .miss, .timedOut, .skippedHost, .skippedNoAudio, .abandoned, .beaten].map outcomeCode =
      [1, 2, 3, 4, 5, 6, 7, 8] ∧
    [Requester.seat .a, .seat .b, .duel, .announce].map requesterCode = [0, 1, 2, 3] ∧
    [SpeechClass.announce, .feedback, .prompt, .cue, .echo].map classCode = [0, 1, 2, 3, 4] ∧
    [EndStatus.done, .cancelled, .evicted, .failed].map endStatusCode = [0, 1, 2, 3] ∧
    [RouteSetting.phones, .speaker].map settingCode = [0, 1] ∧ [Format.u8, .s16].map formatCode = [0, 1] ∧
    [8000, 11025, 16000].map rateCode = [0, 1, 2] ∧
    [none, some BadCause.verifyMismatch, some .parity].map badCauseCode = [0, 1, 2] ∧
    [Condition.normal, .hold, .lockdown].map conditionCode = [0, 1, 2] ∧
    [Bank.link, .scan, .audio, .lesson].map bankCode = [0, 1, 2, 3] ∧ [Seat.a, .b].map seatCode = [0, 1] ∧
    [FaultCode.frameCrc, .frameGap, .overrun, .keyOverrun, .scanOverrun, .idCheck, .noId, .converterTimeout, .clipParity,
      .verifyMismatch, .noAudio, .tableParity].map FaultCode.number = [1, 2, 3, 4, 5, 6, 7, 8, 9, 10, 11, 12] ∧
    mistakeBytes none = [0, 0, 0, 0] ∧
    ∀ m : MistakeCode, mistakeBytes (some m) =
      [byte ((match m.kind with
          | .substitution => 1 | .transposition => 2 | .omission => 3 | .insertion => 4 | .doubling => 5
          | .general => 6) +
        16 * (match m.expected with
          | none => 0
          | some l => if l = 27 then 3 else if l = 1 ∨ l = 5 ∨ l = 9 ∨ l = 15 ∨ l = 21 then 1 else 2)),
        byte m.position, byte (match m.expected with | some l => l | none => 0),
        byte (match m.typed with | some l => l | none => 0)])

/-! ### The Word Table and the Practice Scheduler -/

/-- The word entry layout carries every lawful entry: a PUT_WORD whose payload is the layout of an entry at a free slot
stores exactly that entry with good parity, answers OK, and changes no other slot or block (R5, R218). -/
def Obligations.PutWordStoresTheEntryOfItsLayout : Prop :=
  ∀ (s : State) (tag : Byte) (n : Nat) (e : WordEntry) (c : Instr), n < 96 → e.lawful →
    parseRequest 0x08 tag (wordBytes n e) = .request c → s.takes c → s.engaged n = false →
    (∀ k f, k ≠ n → s.entry k = some f → f.wordId ≠ e.wordId) →
    exec c s = .next ((s.setSlot n (.occupied e true)).replied c .ok [])

/-- DROP_WORD empties an unengaged slot that is not EMPTY; QUEUE_WORD puts an unengaged word of the queue's owner at the
front or back of a queue with room, not in HOLD; CLEAR_QUEUE empties a queue, the duel queue only when no duel runs; each
changes nothing else (R7, R18, R19). -/
def Obligations.WordRequestsChangeWhatTheyName : Prop :=
  ∀ (s : State) (tag slot queue position : Byte) (q : WordQueue) (e : WordEntry) (front : Bool),
    (s.takes (.dropWord tag slot) → slot.toNat < 96 → s.slot slot.toNat ≠ .empty → s.engaged slot.toNat = false →
      exec (.dropWord tag slot) s = .next ((s.setSlot slot.toNat .empty).replied (.dropWord tag slot) .ok [])) ∧
    (s.takes (.queueWord tag queue slot position) → queueOf queue = some q → frontOf position = some front →
      slot.toNat < 96 → s.fb.condition ≠ .hold → s.entry slot.toNat = some e → e.owner = q.owner →
      s.engaged slot.toNat = false → (s.wordQueue q).length < 8 →
      exec (.queueWord tag queue slot position) s = .next ((s.setWordQueue q
        (if front = true then slot.toNat :: s.wordQueue q else s.wordQueue q ++ [slot.toNat])).replied
          (.queueWord tag queue slot position) .ok [])) ∧
    (s.takes (.clearQueue tag queue) → queueOf queue = some q → (q = .duel → s.duelRuns = false) →
      exec (.clearQueue tag queue) s = .next ((s.setWordQueue q []).replied (.clearQueue tag queue) .ok []))

/-- The progress update of a counted outcome: box, streak, attempts and misses by the outcome, mastered from the new box
and streak, and the last mistake kept when the attempt has none; an uncounted outcome has no update, and a slot that is
not OCCUPIED takes none (R8, R43, R44). Reinsertion: MISS and TIMED_OUT at the reinsert gap or the queue's end, ABANDONED
at the head, the other outcomes not at all; a full queue first loses its tail entry (R17). That a progress update leaves
the slot's parity mark as it is is the model's choice (notes/assumptions/9). -/
def Obligations.OutcomeMovesTheWord : Prop :=
  (∀ (s : State) (n : Nat) (e : WordEntry) (p : Bool) (o : AttemptEnd) (m : Option MistakeCode),
    s.slot n = .occupied e p → e.lawful →
    (o.counted = false ↔ o = .skippedHost ∨ o = .skippedNoAudio ∨ o = .abandoned ∨ o = .beaten) ∧
    (o.counted = false → s.progressFor n o m = none) ∧
    (o.counted = true → ∃ f, s.applyUpdate n (s.progressFor n o m) = s.setSlot n (.occupied f p) ∧
      f.box = (match o with | .correct => min (e.box + 1) 4 | .miss => 0 | _ => e.box) ∧
      f.streak = (match o with | .correct => min (e.streak + 1) 15 | _ => 0) ∧
      f.attempts = min (e.attempts + 1) 255 ∧
      f.misses = (match o with | .miss => min (e.misses + 1) 255 | _ => e.misses) ∧
      (f.mastered = true ↔ f.box = 4 ∧ (s.cfg.masteryStreak ≤ f.streak ∨ e.mastered = true)) ∧
      f.lastMistake = (match m with | some k => some k | none => e.lastMistake) ∧
      { f with box := e.box, streak := e.streak, attempts := e.attempts, misses := e.misses, mastered := e.mastered,
               lastMistake := e.lastMistake } = e) ∧
    ∀ (t : State) (u : ProgressUpdate), t.entry n = none → t.applyProgress n u = t) ∧
  (∀ (s : State) (q : WordQueue) (n : Nat) (e : WordEntry), s.entry n = some e → (s.wordQueue q).length ≤ 8 →
    (∀ o : AttemptEnd, (o = .miss ∨ o = .timedOut → o.reinsert = .gap) ∧ (o = .abandoned → o.reinsert = .front) ∧
      (o = .correct ∨ o = .helped ∨ o = .skippedHost ∨ o = .skippedNoAudio → o.reinsert = .nowhere)) ∧
    s.reinsert q n .nowhere = s ∧
    s.reinsert q n .front = s.setWordQueue q (n :: (s.wordQueue q).take 7) ∧
    s.reinsert q n .gap = s.setWordQueue q
      (((s.wordQueue q).take 7).take s.cfg.reinsertGap ++ n :: ((s.wordQueue q).take 7).drop s.cfg.reinsertGap))

/-! ### Mistakes and keys -/

/-- The classifications: WORDWISE, the five tests of R63 to R67 for a submission `t` unequal to the spelling `w`;
LETTERWISE, the three tests of R68 for a wrong letter at a cursor. -/
def Obligations.MistakesAreClassifiedByTheTests : Prop :=
  (∀ w t : List Nat, w ≠ t →
    (∀ p, t.length = w.length → p < w.length → (∀ q, q < w.length → (t[q]? ≠ w[q]? ↔ q = p)) →
      classifyWord w t = ⟨.substitution, p, w[p]?, t[p]?⟩) ∧
    (∀ i, t.length = w.length → i + 1 < w.length → (∀ q, q < w.length → (t[q]? ≠ w[q]? ↔ q = i ∨ q = i + 1)) →
      t[i]? = w[i + 1]? → t[i + 1]? = w[i]? → classifyWord w t = ⟨.transposition, i, w[i]?, t[i]?⟩) ∧
    (∀ i, t.length + 1 = w.length → i < w.length → w.eraseIdx i = t → (∀ j, j < i → w.eraseIdx j ≠ t) →
      classifyWord w t = ⟨.omission, i, w[i]?, t[i]?⟩) ∧
    (∀ i, t.length = w.length + 1 → i < t.length → t.eraseIdx i = w → (∀ j, j < i → t.eraseIdx j ≠ w) →
      classifyWord w t =
        ⟨if (0 < i ∧ t[i]? = t[i - 1]?) ∨ (i + 1 < t.length ∧ t[i]? = t[i + 1]?) then .doubling else .insertion,
          i, w[i]?, t[i]?⟩) ∧
    (∀ p,
      (t.length = w.length → ∀ i, i < w.length →
        ¬ (∀ q, q < w.length → (t[q]? ≠ w[q]? ↔ q = i)) ∧
        ¬ (i + 1 < w.length ∧ (∀ q, q < w.length → (t[q]? ≠ w[q]? ↔ q = i ∨ q = i + 1)) ∧
          t[i]? = w[i + 1]? ∧ t[i + 1]? = w[i]?)) →
      (t.length + 1 = w.length → ∀ i, i < w.length → w.eraseIdx i ≠ t) →
      (t.length = w.length + 1 → ∀ i, i < t.length → t.eraseIdx i ≠ w) →
      p ≤ min t.length w.length → (∀ q, q < p → t[q]? = w[q]?) → (p < min t.length w.length → t[p]? ≠ w[p]?) →
      classifyWord w t = ⟨.general, p, w[p]?, t[p]?⟩)) ∧
  (∀ (w : List Nat) (c x : Nat), c < w.length → w[c]? ≠ some x →
    (w[c + 1]? = some x → classifyLetter w c x = ⟨.omission, c, w[c]?, some x⟩) ∧
    (w[c + 1]? ≠ some x → 0 < c → w[c - 1]? = some x → classifyLetter w c x = ⟨.doubling, c, w[c]?, some x⟩) ∧
    (w[c + 1]? ≠ some x → (c = 0 ∨ w[c - 1]? ≠ some x) → classifyLetter w c x = ⟨.substitution, c, w[c]?, some x⟩))

/-- A key taken in TYPING is counted and judged by the style: LETTERWISE at the cursor (R35, R36), WORDWISE against the
typed list, the try limit and, in a duel, by DC's judgement (R37 to R39, R80); REPEAT in either style (R40). The idle
timer restarts unless the key ends the attempt or moves the context to PROMPTING; with a submission in flight it
stands stopped at the idle limit, the model's reading (R27, notes/assumptions/16). The tasks given are what is spoken
and what ends, in order; that REPEAT places its prompt before queued keys are taken is the model's choice
(notes/assumptions/36). Which keys a context takes from its queue (R25, R26, R34): IDLE, FEEDBACK and DONE discard the
head, WAITING_LOG and PAUSED keep it, TYPING judges it or, with a submission in flight, keeps it; PROMPTING discards it in
a duel, keeps it without barge-in, discards a REPEAT, and else the key cuts the prompt short: the prompt is cancelled, the
context makes the prompt completion and the key is judged. -/
def Obligations.KeysAreJudgedByStyle : Prop :=
  (∀ (s : State) (x : Seat) (c : Context) (k : KeyCode) (ks : List KeyCode) (taken : State), s.ctx x = c →
    (s.seat x).keys = k :: ks → taken = s.setSeat x { s.seat x with keys := ks } →
    (s.fb.frozen = false → runTask (.takeKeys x) s = s.takeKey x) ∧
    (c.state = .idle ∨ c.state = .feedback ∨ c.state = .done → s.takeKey x = (taken, [.takeKeys x])) ∧
    (c.state = .waitingLog ∨ c.state = .paused → s.takeKey x = (s, [])) ∧
    (c.state = .typing → s.inFlight x = false → s.takeKey x = (taken, [.judge x k, .takeKeys x])) ∧
    (c.state = .typing → s.inFlight x = true → s.takeKey x = (s, [])) ∧
    (c.state = .prompting → c.mode = .duel → s.takeKey x = (taken, [.takeKeys x])) ∧
    (c.state = .prompting → c.mode ≠ .duel → c.bargeIn = false → s.takeKey x = (s, [])) ∧
    (c.state = .prompting → c.mode ≠ .duel → c.bargeIn = true → k = .again → s.takeKey x = (taken, [.takeKeys x])) ∧
    (c.state = .prompting → c.mode ≠ .duel → c.bargeIn = true → k ≠ .again → ∃ t : State,
      s.takeKey x = (t, [.arbitrate, .judge x k, .takeKeys x]) ∧ t.seat x = taken.seat x ∧
      t.ctx x = { c with
        state := .typing, firm := none, idleTimer := s.cfg.idleLimit, idleRunning := !s.inFlight x
        startTick := match c.startTick with
          | some n => some n
          | none => some s.tb.counter } ∧
      (∀ u, u ∈ t.allPlaying ++ t.allWaiting ↔ u ∈ s.allPlaying ++ s.allWaiting ∧ c.firm ≠ some u.handle) ∧
      t.ctx x.other = s.ctx x.other ∧ t.dc = s.dc ∧ t.rl = s.rl ∧ t.ps = s.ps ∧ t.wt = s.wt ∧ t.fb = s.fb ∧
      t.fixed = s.fixed)) ∧
  ∀ (s : State) (x : Seat) (c d : Context) (k : TargetCopy) (l : Nat), s.ctx x = c → c.state = .typing → c.copy = some k →
    d = { c with keys := min (c.keys + 1) 255, idleTimer := s.cfg.idleLimit, idleRunning := !s.inFlight x } →
    (c.firm = none ∧ c.repeats < s.cfg.repeatLimit →
      s.judgeKey x .again = (s.setCtx x { c with
        keys := min (c.keys + 1) 255, repeats := c.repeats + 1, state := .prompting, idleRunning := false },
        [.firm x .prompt [k.wordClip], .takeKeys x])) ∧
    (c.firm ≠ none ∨ s.cfg.repeatLimit ≤ c.repeats →
      s.judgeKey x .again = (s.setCtx x d, [.say x .cue (s.cueClips .bump)])) ∧
    (c.style = .letterwise →
      (k.spelling[c.cursor]? = some l → c.cursor + 1 < k.spelling.length →
        s.judgeKey x (.letter l) = (s.setCtx x { d with cursor := c.cursor + 1, wrongHere := 0 },
          if c.echo then [.say x .echo (s.letterClips (some l))] else [])) ∧
      (k.spelling[c.cursor]? = some l → c.cursor + 1 = k.spelling.length →
        s.judgeKey x (.letter l) = (s.setCtx x { c with
          keys := min (c.keys + 1) 255, cursor := c.cursor + 1, wrongHere := 0 },
          (if c.echo then [.say x .echo (s.letterClips (some l))] else []) ++
          [.endSolo x (if c.autofills ≠ 0 then .miss
            else if c.wrongTotal = 0 ∧ c.hints = 0 then .correct else .helped)])) ∧
      (c.cursor < k.spelling.length → k.spelling[c.cursor]? ≠ some l → c.wrongHere + 1 < s.cfg.letterMissLimit →
        s.judgeKey x (.letter l) = (s.setCtx x { d with
          wrongHere := c.wrongHere + 1, wrongTotal := min (c.wrongTotal + 1) 255,
          lastMistake := some (classifyLetter k.spelling c.cursor l) }, [.say x .cue (s.cueClips .buzz)])) ∧
      (c.cursor < k.spelling.length → k.spelling[c.cursor]? ≠ some l → s.cfg.letterMissLimit ≤ c.wrongHere + 1 →
        (c.cursor + 1 < k.spelling.length → s.judgeKey x (.letter l) = (s.setCtx x { d with
          cursor := c.cursor + 1, wrongHere := 0, wrongTotal := min (c.wrongTotal + 1) 255,
          autofills := c.autofills + 1, lastMistake := some (classifyLetter k.spelling c.cursor l) },
          [.say x .cue (s.cueClips .buzz), .say x .cue (s.letterClips k.spelling[c.cursor]?)])) ∧
        (c.cursor + 1 = k.spelling.length → s.judgeKey x (.letter l) = (s.setCtx x { c with
          keys := min (c.keys + 1) 255,
          cursor := c.cursor + 1, wrongHere := 0, wrongTotal := min (c.wrongTotal + 1) 255,
          autofills := c.autofills + 1, lastMistake := some (classifyLetter k.spelling c.cursor l) },
          [.say x .cue (s.cueClips .buzz), .say x .cue (s.letterClips k.spelling[c.cursor]?), .endSolo x .miss]))) ∧
      s.judgeKey x .hint = (s.setCtx x { d with hints := min (c.hints + 1) 15 },
        [.say x .cue (s.letterClips k.spelling[c.cursor]?)]) ∧
      s.judgeKey x .enter = (s.setCtx x d, [.say x .cue (s.cueClips .bump)]) ∧
      s.judgeKey x .back = (s.setCtx x d, [.say x .cue (s.cueClips .bump)])) ∧
    (c.style = .wordwise →
      (c.typed.length < 16 → s.judgeKey x (.letter l) = (s.setCtx x { d with typed := c.typed ++ [l] },
        if c.echo then [.say x .echo (s.letterClips (some l))] else [])) ∧
      (16 ≤ c.typed.length → s.judgeKey x (.letter l) = (s.setCtx x d, [.say x .cue (s.cueClips .bump)])) ∧
      (c.typed = [] → s.judgeKey x .back = (s.setCtx x d, [.say x .cue (s.cueClips .bump)]) ∧
        s.judgeKey x .enter = (s.setCtx x d, [.say x .cue (s.cueClips .bump)])) ∧
      (c.typed ≠ [] → s.judgeKey x .back = (s.setCtx x { d with typed := c.typed.dropLast }, [])) ∧
      (c.typed ≠ [] → c.mode = .solo → c.typed = k.spelling →
        s.judgeKey x .enter = (s.setCtx x { c with keys := min (c.keys + 1) 255, tries := c.tries + 1 },
          [.endSolo x (if c.tries = 0 ∧ c.hints = 0 then .correct else .helped)])) ∧
      (c.typed ≠ [] → c.mode = .solo → c.typed ≠ k.spelling → c.tries + 1 < s.cfg.tryLimit →
        s.judgeKey x .enter = (s.setCtx x { d with
          tries := c.tries + 1, wrongTotal := min (c.wrongTotal + 1) 255, typed := [],
          lastMistake := some (classifyWord k.spelling c.typed) }, [.say x .cue (s.cueClips .tryAgain)])) ∧
      (c.typed ≠ [] → c.mode = .solo → c.typed ≠ k.spelling → s.cfg.tryLimit ≤ c.tries + 1 →
        s.judgeKey x .enter = (s.setCtx x { c with
          keys := min (c.keys + 1) 255, tries := c.tries + 1, wrongTotal := min (c.wrongTotal + 1) 255,
          lastMistake := some (classifyWord k.spelling c.typed) }, [.endSolo x .miss])) ∧
      (c.typed ≠ [] → c.mode = .duel → ∃ t : State, s.judgeKey x .enter = (t, []) ∧
        t.ctx x = { d with
          idleRunning := false, tries := c.tries + 1,
          wrongTotal := if c.typed = k.spelling then c.wrongTotal else min (c.wrongTotal + 1) 255,
          lastMistake := if c.typed = k.spelling then c.lastMistake
            else some (classifyWord k.spelling c.typed) } ∧
        t.ctx x.other = s.ctx x.other ∧
        { t with ae := s.ae } = { s with dc := { s.dc with judgements := s.dc.judgements.set x (some
          ⟨s.dc.round, decide (c.typed = k.spelling), decide (s.cfg.tryLimit ≤ c.tries + 1),
            if c.typed = k.spelling then c.lastMistake else some (classifyWord k.spelling c.typed), true⟩) } }) ∧
      (∀ h, k.hintClip = some h → s.clipReady h = true →
        s.judgeKey x .hint = (s.setCtx x { d with hints := min (c.hints + 1) 15 }, [.say x .cue [h]])) ∧
      (∀ p, (∀ h, k.hintClip = some h → s.clipReady h = false) →
        (∀ m, c.lastMistake = some m → p = m.position) →
        (c.lastMistake = none → p ≤ c.typed.length ∧ p ≤ k.spelling.length ∧
          (∀ q, q < p → c.typed[q]? = k.spelling[q]?) ∧
          (p < c.typed.length → p < k.spelling.length → c.typed[p]? ≠ k.spelling[p]?)) →
        (p < k.spelling.length → s.judgeKey x .hint = (s.setCtx x { d with hints := min (c.hints + 1) 15 },
          [.say x .cue (s.letterClips k.spelling[p]?)])) ∧
        (k.spelling.length ≤ p → s.judgeKey x .hint = (s.setCtx x d, [.say x .cue (s.cueClips .bump)]))))

/-! ### Solo practice -/

/-- START_SOLO at a READY seat whose context is OFF, with a word queued and no refill due, presents the head of the
queue: it becomes the target with rest 0, the context is PROMPTING, and the prompt plays on voice V0 when nothing
else is spoken; the other seat, the log and the duel are not changed (R31, R32). START_SOLO with an empty practice
queue and no refill practises nothing: the context is DONE and SEAT_DONE is pending; queued keys are taken and
discarded (R25, R32). A presentation adds 1 to the rest of the owner's other words that are not mastered (R12). A
refill appends candidates in the choice order, lower box, higher rest, lower slot, up to the refill target, for a duel
no more than the rounds to come (R13 to R15); it, QUEUE_WORD, a presentation and a reinsertion keep a slot from standing
twice in the queues (R10, R16 to R18), and a slot is engaged while a queue or a target holds it (R4). -/
def Obligations.StartSoloPresentsTheFirstWord : Prop :=
  (∀ (s : State) (tag seat style options : Byte) (x : Seat) (st : Style) (n : Nat) (rest : List Nat) (e : WordEntry),
    s.takes (.startSolo tag seat style options) → seatOf seat = some x → styleOf style = some st →
    s.fb.condition = .normal → (s.seat x).state = .ready → (s.ctx x).mode = .off → s.duelRuns = false →
    s.ps.practice.get x = n :: rest → s.cfg.refillMark ≤ rest.length + 1 → s.slot n = .occupied e true →
    s.clipReady e.wordClip = true → s.speechQuiet → (s.seat x).keys = [] → s.fb.frozen = false →
    ∃ t : State, exec (.startSolo tag seat style options) s = .next (t.replied (.startSolo tag seat style options) .ok []) ∧
      (t.ctx x).mode = .solo ∧ (t.ctx x).style = st ∧ (t.ctx x).state = .prompting ∧
      (t.ctx x).target = some n ∧ (t.ctx x).copy = some e.copy ∧ (t.ctx x).typed = [] ∧ (t.ctx x).cursor = 0 ∧
      (t.ctx x).tries = 0 ∧ (t.ctx x).keys = 0 ∧ (t.ctx x).startTick = none ∧
      (t.ctx x).echo = options.getLsbD 0 ∧ (t.ctx x).bargeIn = options.getLsbD 1 ∧
      (t.ctx x).sentence = options.getLsbD 2 ∧
      t.ps = { s.ps with practice := s.ps.practice.set x rest } ∧ t.entry n = some { e with rest := 0 } ∧
      (∀ m, m ≠ n → t.entry m = (s.entry m).map fun f =>
        if f.owner = e.owner ∧ f.mastered = false then { f with rest := min (f.rest + 1) 255 } else f) ∧
      (∃ p, t.se.v0 = some p ∧ (t.ctx x).firm = some p.utterance.handle ∧ p.utterance.requester = .seat x ∧
        p.utterance.cls = .prompt ∧ p.utterance.route = s.seatRoute x ∧ p.index = 0 ∧
        p.utterance.clips = s.promptClips e.copy (options.getLsbD 2)) ∧ t.se.v1 = none ∧ t.allWaiting = [] ∧
      t.ctx x.other = s.ctx x.other ∧ t.dc = s.dc ∧ t.rl = s.rl ∧ t.au = s.au ∧ t.fb = s.fb ∧ t.fixed = s.fixed) ∧
  (∀ (s : State) (tag seat style options : Byte) (x : Seat) (st : Style),
    s.takes (.startSolo tag seat style options) → seatOf seat = some x → styleOf style = some st →
    s.fb.condition = .normal → (s.seat x).state = .ready → (s.ctx x).mode = .off → s.duelRuns = false →
    s.ps.practice.get x = [] → s.cfg.refillMark = 0 → (s.seat x).keys.length ≤ 16 → s.fb.frozen = false →
    ∃ t : State, exec (.startSolo tag seat style options) s = .next (t.replied (.startSolo tag seat style options) .ok []) ∧
      (t.ctx x).state = .done ∧ (t.ctx x).mode = .solo ∧ (t.ctx x).style = st ∧
      t.isPending (.seatDone x) = true ∧ (t.seat x).keys = [] ∧
      t.ctx x.other = s.ctx x.other ∧ t.ps = s.ps ∧ t.wt = s.wt ∧ t.dc = s.dc ∧ t.rl = s.rl ∧ t.se = s.se ∧
      t.fb = s.fb ∧ t.fixed = s.fixed) ∧
  (∀ (s : State) (x : Seat), s.wt.length = 96 → s.cfg.refillTarget ≤ 8 →
    ((s.ctx x).mode ≠ .solo ∨ s.cfg.refillMark = 0 ∨ s.cfg.refillMark ≤ (s.ps.practice.get x).length →
      s.refillSeat x = s) ∧
    ((s.ctx x).mode = .solo → s.cfg.refillMark ≠ 0 → (s.ps.practice.get x).length < s.cfg.refillMark →
      ∃ drawn, s.refillSeat x = s.setWordQueue (.practice x) (s.ps.practice.get x ++ drawn) ∧
        s.drawsInOrder (.practice x) s.cfg.refillTarget drawn) ∧
    (s.duelRuns = false ∨ s.cfg.refillMark = 0 ∨ s.cfg.refillMark ≤ s.ps.duel.length → s.refillDuel = s) ∧
    (s.duelRuns = true → s.cfg.refillMark ≠ 0 → s.ps.duel.length < s.cfg.refillMark →
      ∃ drawn, s.refillDuel = s.setWordQueue .duel (s.ps.duel ++ drawn) ∧
        s.drawsInOrder .duel (min s.cfg.refillTarget (s.dc.total - s.dc.round)) drawn)) ∧
  (∀ (s : State) (x : Seat) (q : WordQueue) (n : Nat) (r : Reinsert), s.queuedSlots.Nodup →
    (s.engaged n = true ↔ n ∈ s.queuedSlots ∨ s.dc.target = some n ∨ s.ae.a.target = some n ∨ s.ae.b.target = some n) ∧
    (s.refillSeat x).queuedSlots.Nodup ∧ s.refillDuel.queuedSlots.Nodup ∧
    (n ∉ s.queuedSlots → (s.reinsert q n r).queuedSlots.Nodup) ∧
    (∀ rest, s.wordQueue q = n :: rest →
      (s.setWordQueue q rest).queuedSlots.Nodup ∧ n ∉ (s.setWordQueue q rest).queuedSlots) ∧
    ∀ tag queue slot position t, exec (.queueWord tag queue slot position) s = .next t → t.queuedSlots.Nodup)

/-- STOP_SEAT of a context that is PROMPTING or TYPING on a word still in the table, with room in the log and no one
else speaking: the attempt ends ABANDONED, its record is appended with the next number, the word goes to the head
of its queue, and the context is IDLE with mode OFF (R17, R43, R45, R47, R50). STOP_SEAT elsewhere: an IDLE
context is not changed, a DONE one goes to IDLE with mode OFF and its keys are discarded, one in WAITING_LOG has
its stop marked and waits on, and one in mode DUEL is refused WRONG_STATE (R50). -/
def Obligations.StopSeatEndsThePractice : Prop :=
  (∀ (s : State) (tag seat : Byte) (x : Seat) (n : Nat) (k : TargetCopy) (e : WordEntry),
    s.takes (.stopSeat tag seat) → seatOf seat = some x → (s.ctx x).mode = .solo →
    (s.ctx x).state = .prompting ∨ (s.ctx x).state = .typing → (s.ctx x).target = some n →
    (s.ctx x).copy = some k → s.entry n = some e → s.cfg.refillMark = 0 → s.rl.records.length < 32 →
    (s.ps.practice.get x).length < 8 → s.onlySeatSpeaks x → (s.seat x).keys = [] → s.fb.frozen = false →
    ∃ (t : State) (r : ResultRecord), exec (.stopSeat tag seat) s = .next (t.replied (.stopSeat tag seat) .ok []) ∧
      (t.ctx x).state = .idle ∧ (t.ctx x).mode = .off ∧ (t.ctx x).target = none ∧ (t.ctx x).stopMarked = false ∧
      t.rl.records = s.rl.records ++ [r] ∧ r.number = some s.rl.counter ∧ r.outcome = .abandoned ∧ r.seat = x ∧
      r.wordId = k.wordId ∧ r.boxAfter = k.box ∧ r.masteredNow = false ∧ r.tries = (match (s.ctx x).style with
        | .letterwise => 0
        | .wordwise => (s.ctx x).tries) ∧
      t.rl.counter = (s.rl.counter + 1) % 65536 ∧
      t.ps.practice.get x = n :: s.ps.practice.get x ∧
      t.speechQuiet ∧ t.wt = s.wt ∧ t.ctx x.other = s.ctx x.other ∧ t.dc = s.dc ∧ t.fixed = s.fixed) ∧
  (∀ (s : State) (tag seat : Byte) (x : Seat), s.takes (.stopSeat tag seat) → seatOf seat = some x →
    ((s.ctx x).mode = .duel → exec (.stopSeat tag seat) s = .next (s.replied (.stopSeat tag seat) .wrongState [])) ∧
    ((s.ctx x).mode ≠ .duel → (s.ctx x).state = .idle →
      exec (.stopSeat tag seat) s = .next (s.replied (.stopSeat tag seat) .ok [])) ∧
    ((s.ctx x).mode ≠ .duel → (s.ctx x).state = .waitingLog → exec (.stopSeat tag seat) s =
      .next ((s.setCtx x { s.ctx x with stopMarked := true }).replied (.stopSeat tag seat) .ok [])) ∧
    ((s.ctx x).mode ≠ .duel → (s.ctx x).state = .done → (s.seat x).keys.length ≤ 16 → s.fb.frozen = false →
      exec (.stopSeat tag seat) s =
        .next (((s.setCtx x { s.ctx x with
          state := .idle, mode := .off, pauseCause := none, stopMarked := false, target := none, copy := none,
          idleRunning := false, firm := none }).setSeat x { s.seat x with keys := [] }).replied
            (.stopSeat tag seat) .ok [])))

/-- PAUSE_SEAT in PROMPTING, TYPING or FEEDBACK of solo practice: the seat's utterances are cancelled, the handle is
dropped, the idle timer stops and the context is PAUSED with cause HOST, its attempt or record kept (R48, R160).
RESUME_SEAT of a context paused by the host on a readable target: the attempt goes on with a re-prompt of the
word, PROMPTING, nothing else of the attempt changed (R49). -/
def Obligations.PauseAndResumeKeepTheAttempt : Prop :=
  (∀ (s : State) (tag seat : Byte) (x : Seat), s.takes (.pauseSeat tag seat) → seatOf seat = some x →
    (s.ctx x).mode = .solo →
    (s.ctx x).state = .prompting ∨ (s.ctx x).state = .typing ∨ (s.ctx x).state = .feedback →
    s.onlySeatSpeaks x → s.fb.frozen = false →
    ∃ t : State, exec (.pauseSeat tag seat) s = .next (t.replied (.pauseSeat tag seat) .ok []) ∧
      t.ctx x = { s.ctx x with state := .paused, pauseCause := some .host, firm := none, idleRunning := false } ∧
      t.speechQuiet ∧ t.ctx x.other = s.ctx x.other ∧ t.ps = s.ps ∧ t.wt = s.wt ∧ t.dc = s.dc ∧ t.rl = s.rl ∧
      t.fb = s.fb ∧ t.seat x = s.seat x ∧ t.fixed = s.fixed) ∧
  (∀ (s : State) (tag seat : Byte) (x : Seat) (n : Nat) (e : WordEntry) (k : TargetCopy),
    s.takes (.resumeSeat tag seat) → seatOf seat = some x → s.fb.condition = .normal → (s.ctx x).state = .paused →
    (s.ctx x).pauseCause = some .host → (s.ctx x).target = some n → (s.ctx x).copy = some k →
    s.slot n = .occupied e true → s.clipReady k.wordClip = true → s.speechQuiet → (s.seat x).keys = [] →
    s.fb.frozen = false →
    ∃ (t : State) (h : Nat), exec (.resumeSeat tag seat) s = .next (t.replied (.resumeSeat tag seat) .ok []) ∧
      t.ctx x = { s.ctx x with state := .prompting, pauseCause := none, firm := some h, idleRunning := false } ∧
      t.se.v0 = some ⟨⟨h, .seat x, .prompt, s.seatRoute x, [k.wordClip]⟩, 0, 0, 0⟩ ∧ t.se.v1 = none ∧
      t.allWaiting = [] ∧ t.ctx x.other = s.ctx x.other ∧ t.ps = s.ps ∧ t.wt = s.wt ∧ t.dc = s.dc ∧ t.rl = s.rl ∧
      t.fb = s.fb ∧ t.fixed = s.fixed)

/-- SKIP_WORD in PROMPTING or TYPING: the attempt ends SKIPPED by the host, its record is appended, no progress and no
reinsertion, and the context goes on, here to DONE because the queue is empty (R17, R32, R43, R51). -/
def Obligations.SkipWordEndsTheAttempt : Prop :=
  ∀ (s : State) (tag seat : Byte) (x : Seat) (n : Nat) (k : TargetCopy),
    s.takes (.skipWord tag seat) → seatOf seat = some x → s.fb.condition = .normal → (s.ctx x).mode = .solo →
    (s.ctx x).state = .prompting ∨ (s.ctx x).state = .typing → (s.ctx x).target = some n →
    (s.ctx x).copy = some k → (s.ctx x).stopMarked = false → (s.seat x).state = .ready →
    s.ps.practice.get x = [] → s.cfg.refillMark = 0 → s.rl.records.length < 32 →
    s.speechQuiet → (s.seat x).keys = [] → s.fb.frozen = false →
    ∃ (t : State) (r : ResultRecord), exec (.skipWord tag seat) s = .next (t.replied (.skipWord tag seat) .ok []) ∧
      t.rl.records = s.rl.records ++ [r] ∧ r.number = some s.rl.counter ∧ r.outcome = .skippedHost ∧ r.seat = x ∧
      r.wordId = k.wordId ∧ t.rl.counter = (s.rl.counter + 1) % 65536 ∧
      (t.ctx x).state = .done ∧ (t.ctx x).target = none ∧ t.isPending (.seatDone x) = true ∧
      t.wt = s.wt ∧ t.ps = s.ps ∧ t.ctx x.other = s.ctx x.other ∧ t.dc = s.dc ∧ t.se = s.se ∧ t.fb = s.fb ∧
      t.fixed = s.fixed

/-- An idle expiry in solo practice below the nudge limit: nudges counts it and the word is re-prompted (R41). An idle
expiry at the nudge limit ends the attempt TIMED_OUT: the word's progress takes the update, the word is put back
at the reinsert gap, the spell-out is spoken as feedback, and the record waits in the context (R41, R43 to R46). That the
update leaves the slot's parity mark as it is is the model's choice (notes/assumptions/9). -/
def Obligations.IdleExpiryNudgesThenTimesOut : Prop :=
  (∀ (s : State) (x : Seat) (k : TargetCopy), s.resetHeld = false → s.fb.frozen = false → (s.ctx x).mode = .solo →
    (s.ctx x).state = .typing → (s.ctx x).idleRunning = true → (s.ctx x).idleTimer = 0 → (s.ctx x).copy = some k →
    (s.ctx x).nudges < s.cfg.nudgeLimit → s.clipReady k.wordClip = true → s.speechQuiet → (s.seat x).keys = [] →
    ∃ (t : State) (h : Nat), exec (.idleExpiry x) s = .next t ∧
      t.ctx x = { s.ctx x with
        state := .prompting, idleRunning := false, nudges := (s.ctx x).nudges + 1, firm := some h } ∧
      t.se.v0 = some ⟨⟨h, .seat x, .prompt, s.seatRoute x, [k.wordClip]⟩, 0, 0, 0⟩ ∧ t.se.v1 = none ∧
      t.ctx x.other = s.ctx x.other ∧ t.ps = s.ps ∧ t.wt = s.wt ∧ t.dc = s.dc ∧ t.rl = s.rl ∧ t.fb = s.fb ∧
      t.lp = s.lp ∧ t.fixed = s.fixed) ∧
  (∀ (s : State) (x : Seat) (n : Nat) (k : TargetCopy) (e : WordEntry) (p : Bool), s.resetHeld = false →
    s.fb.frozen = false → (s.ctx x).mode = .solo → (s.ctx x).state = .typing → (s.ctx x).idleRunning = true →
    (s.ctx x).idleTimer = 0 → (s.ctx x).target = some n → (s.ctx x).copy = some k →
    s.cfg.nudgeLimit ≤ (s.ctx x).nudges → s.slot n = .occupied e p → s.cfg.refillMark = 0 →
    s.clipReady k.wordClip = true → s.speechQuiet → (s.seat x).keys = [] → (s.ps.practice.get x).length ≤ 8 →
    ∃ (t : State) (r : ResultRecord) (u : Playing), exec (.idleExpiry x) s = .next t ∧
      (t.ctx x).state = .feedback ∧ (t.ctx x).target = none ∧ (t.ctx x).pendingRecord = some r ∧
      r.outcome = .timedOut ∧ r.wordId = k.wordId ∧ r.duration = (match (s.ctx x).startTick with
        | some _ => (s.ctx x).elapsed
        | none => 0) ∧
      t.se.v0 = some u ∧ u.utterance.cls = .feedback ∧ u.utterance.requester = .seat x ∧
      (t.ctx x).firm = some u.utterance.handle ∧
      u.utterance.clips = s.cueClips .theWordIs ++ [k.wordClip] ++
        k.spelling.flatMap (fun l => s.letterClips (some l)) ∧
      (∃ f, t.slot n = .occupied f p ∧ f.attempts = min (e.attempts + 1) 255 ∧ f.streak = 0 ∧ f.misses = e.misses ∧
        f.box = min e.box 4 ∧ f.spelling = e.spelling) ∧
      t.ps.practice.get x = ((s.ps.practice.get x).take 7).take s.cfg.reinsertGap ++
        n :: ((s.ps.practice.get x).take 7).drop s.cfg.reinsertGap ∧
      t.ctx x.other = s.ctx x.other ∧ t.dc = s.dc ∧ t.rl = s.rl ∧ t.fb = s.fb ∧ t.fixed = s.fixed)

/-- The commands that AE, DC, SE and RL carry out leave the rest of the part as it is: the link but for the reply, the
configuration, the Timebase, the seats but for their key queues, the key maps, the scan, the clip bytes, the verify unit,
the routes, volumes and tables, the fault masks and the attention enable set, whatever they lead to. -/
def Obligations.LessonCommandsLeaveTheRest : Prop :=
  ∀ (c : Instr) (s : State), lessonCommand c = true →
    ∃ t : State, exec c s = .next t ∧ t.lp.assembler = s.lp.assembler ∧ t.lp.gapTimer = s.lp.gapTimer ∧
      ({ t with lp := s.lp }).fixed = s.fixed

/-! ### Duels -/

/-- START_DUEL with both seats READY and OFF and a word queued presents round 1 of the duel: the head of the duel
queue is the round target of both contexts, both are PROMPTING, and the prompt plays to both seats when nothing
else is spoken (R75, R77). START_DUEL with an empty duel queue and no refill finishes at once for want of words:
FINISHED with reason NO_WORDS, no winner, DUEL_END pending, and both contexts IDLE with mode OFF (R75, R77, R87). A
presentation adds 1 to the rest of the owner's other words that are not mastered (R12). -/
def Obligations.StartDuelPresentsTheFirstRound : Prop :=
  (∀ (s : State) (tag rounds options : Byte) (n : Nat) (rest : List Nat) (e : WordEntry),
    s.takes (.startDuel tag rounds options) → 1 ≤ rounds.toNat → rounds.toNat ≤ 20 → s.fb.condition = .normal →
    (s.seat .a).state = .ready → (s.seat .b).state = .ready → s.ae.a.mode = .off → s.ae.b.mode = .off →
    s.duelRuns = false → s.ps.duel = n :: rest → s.cfg.refillMark ≤ rest.length + 1 → s.slot n = .occupied e true →
    s.clipReady e.wordClip = true → s.speechQuiet → (s.seat .a).keys = [] → (s.seat .b).keys = [] →
    s.fb.frozen = false →
    ∃ t : State, exec (.startDuel tag rounds options) s =
        .next (t.replied (.startDuel tag rounds options) .ok []) ∧
      t.dc.state = .presenting ∧ t.dc.total = rounds.toNat ∧ t.dc.round = 1 ∧ t.dc.scores = ⟨0, 0⟩ ∧
      t.dc.target = some n ∧ t.dc.copy = some e.copy ∧ t.dc.winner = none ∧ t.dc.finish = none ∧
      t.dc.echo = options.getLsbD 0 ∧ t.dc.sentence = options.getLsbD 2 ∧
      (∀ x, (t.ctx x).mode = .duel ∧ (t.ctx x).style = .wordwise ∧ (t.ctx x).bargeIn = false ∧
        (t.ctx x).state = .prompting ∧ (t.ctx x).target = some n ∧ (t.ctx x).copy = some e.copy ∧
        (t.round x).status = some .typing ∧ (t.round x).record = .notBuilt) ∧
      t.ps = { s.ps with duel := rest } ∧ t.entry n = some { e with rest := 0 } ∧
      (∀ m, m ≠ n → t.entry m = (s.entry m).map fun f =>
        if f.owner = .both ∧ f.mastered = false then { f with rest := min (f.rest + 1) 255 } else f) ∧
      (∃ p, t.se.v0 = some p ∧ t.dc.firm = some p.utterance.handle ∧ p.utterance.requester = .duel ∧
        p.utterance.cls = .prompt ∧ p.utterance.route = s.seatRoute .a ||| s.seatRoute .b ∧
        p.utterance.clips = s.promptClips e.copy (options.getLsbD 2)) ∧
      t.rl = s.rl ∧ t.fb = s.fb ∧ t.fixed = s.fixed) ∧
  (∀ (s : State) (tag rounds options : Byte),
    s.takes (.startDuel tag rounds options) → 1 ≤ rounds.toNat → rounds.toNat ≤ 20 → s.fb.condition = .normal →
    (s.seat .a).state = .ready → (s.seat .b).state = .ready → s.ae.a.mode = .off → s.ae.b.mode = .off →
    s.duelRuns = false → s.ps.duel = [] → s.cfg.refillMark = 0 → (s.seat .a).keys.length ≤ 16 →
    (s.seat .b).keys.length ≤ 16 → (∀ x, (s.ctx x).pendingRecord = none) → s.fb.frozen = false →
    ∃ t : State, exec (.startDuel tag rounds options) s =
        .next (t.replied (.startDuel tag rounds options) .ok []) ∧
      t.dc.state = .finished ∧ t.dc.finish = some .noWords ∧ t.dc.duelWinner = none ∧ t.dc.round = 0 ∧
      t.isPending .duelEnd = true ∧
      (∀ x, (t.ctx x).state = .idle ∧ (t.ctx x).mode = .off ∧ (t.seat x).keys = []) ∧
      t.ps = s.ps ∧ t.wt = s.wt ∧ t.rl = s.rl ∧ t.se = s.se ∧ t.fb = s.fb ∧ t.fixed = s.fixed)

/-- STOP_DUEL of a running duel finishes it: FINISHED with reason STOPPED and no duel winner, the scores kept, DUEL_END
pending, whatever the round and the speech were (R87, R89); refused WRONG_STATE when no duel runs. A round in its race,
or with its prompt still to end, is broken off: both attempts end ABANDONED, seat A's record and then seat B's are in
the log, the round result is ABANDONED with no progress update, the word is at the head of the duel queue, and both
contexts are IDLE with mode OFF (R88); a held presentation leaves no record. However the log stands, a seat still in the race
enters FEEDBACK as its attempt ends, where its queued keys are discarded (R26, R76; from a pause too, the model's reading,
notes/assumptions/38), and with the log full its record then waits in WAITING_LOG (R86 to R88). A seat that leaves READY then forfeits the
duel: the round is broken off, the other seat is the duel winner, and the absent seat's status is GONE (R90). -/
def Obligations.StopDuelFinishesTheDuel : Prop :=
  (∀ (s : State) (tag : Byte), s.takes (.stopDuel tag) → s.fb.frozen = false →
    (s.duelRuns = true → ∃ t : State, exec (.stopDuel tag) s = .next (t.replied (.stopDuel tag) .ok []) ∧
      t.dc.state = .finished ∧ t.dc.finish = some .stopped ∧ t.dc.duelWinner = none ∧ t.dc.scores = s.dc.scores ∧
      t.dc.target = none ∧ t.isPending .duelEnd = true ∧ t.duelRuns = false ∧ t.fixed = s.fixed ∧
      (s.roundOpen → t.brokenOff s) ∧
      (s.dc.state = .presenting → s.dc.target = none → (∀ x, (s.ctx x).pendingRecord = none) →
        t.rl = s.rl ∧ t.ps = s.ps ∧ t.wt = s.wt) ∧
      ∀ x, s.dc.state ≠ .presenting ∨ s.dc.target ≠ none → (∀ y, (s.round y).record = .notBuilt) →
        (s.round x).status = some .typing → (t.seat x).keys = [] ∧
        (32 ≤ s.rl.records.length → (t.ctx x).state = .waitingLog ∧
          ∃ r, (t.ctx x).pendingRecord = some r ∧ r.outcome = .abandoned ∧ r.seat = x)) ∧
    (s.duelRuns = false → exec (.stopDuel tag) s = .next (s.replied (.stopDuel tag) .wrongState []))) ∧
  ∀ (s : State) (x : Seat) (periods : Nat), s.resetHeld = false → s.fb.frozen = false → s.roundOpen →
    (s.ctx x).mode = .duel → (s.seat x).state = .ready → (s.seat x).settleTimer = some periods →
    (s.seat x).senseLine = false →
    ∃ t : State, exec (.senseSettled x) s = .next t ∧ t.brokenOff s ∧ t.dc.state = .finished ∧
      t.dc.finish = some (match x with | .a => .forfeitA | .b => .forfeitB) ∧ t.dc.duelWinner = some x.other ∧
      t.dc.scores = s.dc.scores ∧ (t.round x).status = some .gone ∧ t.isPending .duelEnd = true ∧
      t.isPending (.seatChange x) = true ∧ (t.seat x).state = .empty ∧ (t.seat x).keys = []

/-- An EQUAL judgement of the open round by a seat still in the race adds 1 to that seat's score and nothing to the other's,
whatever follows; nothing else adds to a score: the scores change otherwise only to 0, by START_DUEL, RESTART LESSON, RESTART
FULL, as commands or in the frame that a byte completes, and power-on (R74, R75, R81, R82). -/
def Obligations.OnlyEqualJudgementsScore : Prop :=
  (∀ (s : State) (x : Seat) (j : Judgement), s.resetHeld = false → s.fb.frozen = false →
    s.dc.judgements.get x = some j → j.live = true → j.round = s.dc.round → j.equal = true → s.duelRuns = true →
    (s.round x).status = some .typing → (s.round x).record = .notBuilt →
    ∃ t : State, exec (.judgementTaken x) s = .next t ∧
      t.dc.scores = s.dc.scores.set x (s.dc.scores.get x + 1) ∧ t.fixed = s.fixed) ∧
  ∀ (s t : State) (c : Instr), exec c s = .next t → t.dc.scores ≠ s.dc.scores →
    (∃ x j, c = .judgementTaken x ∧ s.dc.judgements.get x = some j ∧ j.equal = true ∧ j.live = true ∧
      j.round = s.dc.round ∧ s.duelRuns = true ∧ (s.round x).status = some .typing ∧
      (s.round x).record = .notBuilt ∧ t.dc.scores = s.dc.scores.set x (s.dc.scores.get x + 1)) ∨
    t.dc.scores = ⟨0, 0⟩ ∧ (c = .powerOn ∨ ∃ d : Instr,
      (c = d ∨ ∃ v, (c = .frameComplete v ∨ c = .byteReceived ⟨v, .mark⟩) ∧ frameCompletes s.partialFrame = true ∧
        s.requestAt v = .request d) ∧
      ((∃ tag rounds options, d = .startDuel tag rounds options) ∨ (∃ tag, d = .restartLesson tag) ∨
        ∃ tag, d = .restartFull tag))

/-- An EQUAL judgement while both seats race settles the round: the seat has SOLVED it and the other is BEATEN, both
contexts are in FEEDBACK, the round result is CORRECT for a first try without hints and HELPED otherwise, the
word's progress takes one update, and the winner's feedback is spoken (R82, R84, R85). An UNEQUAL judgement of a
seat still in the race: below the try limit its typed list is emptied and the idle timer starts afresh; at the try
limit the seat is OUT with outcome MISS while the other races on. The round mistake is the judgement's (R81, R83).
An EQUAL one of a BEATEN seat marks it late-correct (R81). That the round target is absent once the round has settled is
the model's reading of R84 (notes/assumptions/14), and that the update leaves the slot's parity mark as it is is the
model's choice (notes/assumptions/9). -/
def Obligations.JudgementsDecideTheRound : Prop :=
  (∀ (s : State) (x : Seat) (j : Judgement) (n : Nat) (k : TargetCopy) (e : WordEntry) (p : Bool),
    s.resetHeld = false → s.fb.frozen = false → s.fb.condition = .normal → s.dc.judgements.get x = some j →
    j.live = true → j.round = s.dc.round → j.equal = true → s.dc.state = .racing →
    (∀ y, (s.round y).status = some .typing ∧ (s.round y).record = .notBuilt ∧ (s.ctx y).state = .typing ∧
      (s.ctx y).style = .wordwise ∧ (s.seat y).keys = []) →
    s.dc.target = some n → s.dc.copy = some k → s.slot n = .occupied e p → s.cfg.refillMark = 0 →
    s.clipReady k.wordClip = true → s.speechQuiet →
    ∃ t : State, exec (.judgementTaken x) s = .next t ∧ t.dc.state = .settling ∧ t.dc.winner = some x ∧
      (t.round x).status = some .solved ∧ (t.round x.other).status = some .beaten ∧
      (t.ctx x).state = .feedback ∧ (t.ctx x.other).state = .feedback ∧ (t.ctx x.other).typed = [] ∧
      t.dc.result = some (if (s.ctx x).tries = 1 ∧ (s.ctx x).hints = 0 then .correct else .helped) ∧
      t.dc.target = none ∧ t.dc.scores = s.dc.scores.set x (s.dc.scores.get x + 1) ∧
      (∃ f, t.slot n = .occupied f p ∧ f.attempts = min (e.attempts + 1) 255 ∧ f.misses = e.misses ∧
        f.streak = (if (s.ctx x).tries = 1 ∧ (s.ctx x).hints = 0 then min (e.streak + 1) 15 else 0)) ∧
      (∃ q, t.se.v0 = some q ∧ t.dc.firm = some q.utterance.handle ∧ q.utterance.requester = .duel ∧
        q.utterance.cls = .feedback) ∧
      t.rl = s.rl ∧ t.fb = s.fb ∧ t.fixed = s.fixed) ∧
  (∀ (s : State) (x : Seat) (j : Judgement), s.resetHeld = false → s.fb.frozen = false →
    s.fb.condition = .normal → s.dc.judgements.get x = some j → j.live = true → j.round = s.dc.round →
    s.duelRuns = true → (s.round x).record = .notBuilt → (s.seat x).keys = [] →
    ((s.round x).status = some .typing → j.equal = false → j.atLimit = false → (s.ctx x).state = .typing →
      s.speechQuiet →
      ∃ t : State, exec (.judgementTaken x) s = .next t ∧
        t.ctx x = { s.ctx x with typed := [], idleTimer := s.cfg.idleLimit, idleRunning := true } ∧
        t.dc = { s.dc with judgements := s.dc.judgements.set x none, mistake := j.mistake } ∧
        t.ctx x.other = s.ctx x.other ∧ t.ps = s.ps ∧ t.wt = s.wt ∧ t.rl = s.rl ∧ t.fixed = s.fixed) ∧
    ((s.round x).status = some .typing → j.equal = false → j.atLimit = true → (s.ctx x).state = .typing →
      (s.round x.other).status = some .typing →
      ∃ t : State, exec (.judgementTaken x) s = .next t ∧ (t.ctx x).state = .feedback ∧
        (t.ctx x).idleRunning = false ∧ (t.round x).status = some .out ∧ (t.round x).ended = some .miss ∧
        t.round x.other = s.round x.other ∧ t.dc.state = s.dc.state ∧ t.dc.mistake = j.mistake ∧
        t.dc.scores = s.dc.scores ∧ t.ctx x.other = s.ctx x.other ∧ t.ps = s.ps ∧ t.wt = s.wt ∧ t.rl = s.rl ∧
        t.se = s.se ∧ t.fixed = s.fixed) ∧
    ((s.round x).status = some .beaten → j.equal = true → exec (.judgementTaken x) s =
      .next { s with dc := { s.dc with
        judgements := s.dc.judgements.set x none
        seats := s.dc.seats.set x { s.round x with lateCorrect := true } } }))

/-! ### The Result Log and the Attention Unit -/

/-- RELEASE_RESULTS with no record waiting removes the oldest records and evaluates the threshold flag; READ_ATTENTION
returns both sets and empties the pending one; SET_ATTENTION_ENABLE replaces the enable set by a set of the eleven
causes (R99, R101, R105, R106). RELEASE_RESULTS makes room for the record that waits with stamp 1: it is appended
with the counter's number, and its context, whose stop is marked, goes to IDLE with mode OFF (R98, R99, R47). In a running
duel the context goes to FEEDBACK and the keys it queued in WAITING_LOG stay queued while the other seat's record waits; with
both records in the log the next round is presented, and its prompt discards them as it puts both contexts in PROMPTING
(R86). Out of reset the attention line is asserted exactly while a cause is both pending and enabled (R107). -/
def Obligations.LogAndAttentionRequests : Prop :=
  (∀ (s : State) (tag k : Byte) (causes : Word16),
    (s.takes (.releaseResults tag k) → 1 ≤ k.toNat → k.toNat ≤ s.rl.records.length → s.rl.waiting = [] →
      ∃ t : State, exec (.releaseResults tag k) s = .next (t.replied (.releaseResults tag k) .ok
          [byte (s.rl.records.length - k.toNat), byte s.rl.counter, byte (s.rl.counter / 256)]) ∧
        t = { s with
          rl := { s.rl with
            records := s.rl.records.drop k.toNat
            threshold := decide (s.cfg.logThreshold < s.rl.records.length - k.toNat) }
          au := { s.au with raised :=
            if s.cfg.logThreshold < s.rl.records.length - k.toNat ∧ s.rl.threshold = false
            then s.au.raised ||| 32#16 else s.au.raised } }) ∧
    (s.takes (.readAttention tag) → exec (.readAttention tag) s =
      .next (({ s with au := { s.au with raised := 0 } }).replied (.readAttention tag) .ok
        [byte s.au.raised.toNat, byte (s.au.raised.toNat / 256), byte s.au.enabled.toNat,
          byte (s.au.enabled.toNat / 256)])) ∧
    (s.takes (.setAttentionEnable tag causes) → causes.toNat < 2048 → exec (.setAttentionEnable tag causes) s =
      .next (({ s with au := { s.au with enabled := causes } }).replied (.setAttentionEnable tag causes) .ok [])) ∧
    (s.takes (.setAttentionEnable tag causes) → 2048 ≤ causes.toNat → exec (.setAttentionEnable tag causes) s =
      .next (s.replied (.setAttentionEnable tag causes) .badField []))) ∧
  (∀ (s : State) (tag k : Byte) (x : Seat) (r : ResultRecord), s.takes (.releaseResults tag k) → 1 ≤ k.toNat →
    k.toNat ≤ s.rl.records.length → s.rl.records.length ≤ 32 → s.rl.waiting = [x] →
    (s.ctx x).pendingRecord = some r → (s.ctx x).mode = .solo → (s.ctx x).stopMarked = true →
    (s.seat x).keys.length ≤ 16 → s.fb.frozen = false →
    ∃ t : State, exec (.releaseResults tag k) s = .next (t.replied (.releaseResults tag k) .ok
        [byte (s.rl.records.length - k.toNat + 1), byte ((s.rl.counter + 1) % 65536),
          byte ((s.rl.counter + 1) % 65536 / 256)]) ∧
      t.rl.records = s.rl.records.drop k.toNat ++ [{ r with number := some s.rl.counter }] ∧
      t.rl.waiting = [] ∧ t.rl.counter = (s.rl.counter + 1) % 65536 ∧
      t.rl.threshold = decide (s.cfg.logThreshold < s.rl.records.length - k.toNat + 1) ∧
      (t.ctx x).state = .idle ∧ (t.ctx x).mode = .off ∧ (t.ctx x).pendingRecord = none ∧
      t.ctx x.other = s.ctx x.other ∧ t.ps = s.ps ∧ t.wt = s.wt ∧ t.dc = s.dc ∧ t.se = s.se ∧ t.fb = s.fb ∧
      t.fixed = s.fixed) ∧
  (∀ (s : State) (tag : Byte) (x : Seat) (r : ResultRecord), s.takes (.releaseResults tag 1) →
    s.rl.records.length = 32 → s.rl.waiting = [x, x.other] → (s.ctx x).pendingRecord = some r →
    (s.ctx x).mode = .duel → s.duelRuns = true → (s.round x.other).record = .waiting → s.fb.frozen = false →
    ∃ t : State, exec (.releaseResults tag 1) s = .next (t.replied (.releaseResults tag 1) .ok
        [32, byte ((s.rl.counter + 1) % 65536), byte ((s.rl.counter + 1) % 65536 / 256)]) ∧
      t.rl.records = s.rl.records.drop 1 ++ [{ r with number := some s.rl.counter }] ∧ t.rl.waiting = [x.other] ∧
      (t.ctx x).state = .feedback ∧ (t.ctx x).mode = .duel ∧ (t.ctx x).pendingRecord = none ∧ t.ks = s.ks ∧
      t.ctx x.other = s.ctx x.other ∧ t.dc = { s.dc with seats := s.dc.seats.set x { s.round x with record := .inLog } } ∧
      t.ps = s.ps ∧ t.wt = s.wt ∧ t.se = s.se ∧ t.fb = s.fb ∧ t.fixed = s.fixed) ∧
  (∀ (s : State) (tag k : Byte) (x : Seat) (r : ResultRecord) (m : Nat) (rest : List Nat) (e : WordEntry),
    s.takes (.releaseResults tag k) → 1 ≤ k.toNat → k.toNat ≤ s.rl.records.length → s.rl.records.length ≤ 32 →
    s.rl.waiting = [x] → (s.ctx x).pendingRecord = some r → (∀ y, (s.ctx y).mode = .duel) → s.duelRuns = true →
    (s.round x.other).record = .inLog → s.dc.round ≠ s.dc.total → s.fb.condition = .normal → s.cfg.refillMark = 0 →
    s.ps.duel = m :: rest → s.slot m = .occupied e true → s.clipReady e.wordClip = true → s.speechQuiet →
    (∀ y, (s.seat y).keys.length ≤ 16) → s.fb.frozen = false →
    ∃ t : State, exec (.releaseResults tag k) s = .next (t.replied (.releaseResults tag k) .ok
        [byte (s.rl.records.length - k.toNat + 1), byte ((s.rl.counter + 1) % 65536),
          byte ((s.rl.counter + 1) % 65536 / 256)]) ∧
      t.rl.records = s.rl.records.drop k.toNat ++ [{ r with number := some s.rl.counter }] ∧ t.rl.waiting = [] ∧
      t.presents s m rest e ∧ (∀ y, (t.ctx y).mode = .duel ∧ t.seat y = { s.seat y with keys := [] }) ∧
      t.fb = s.fb ∧ t.fixed = s.fixed) ∧
  (∀ s : State, s.resetHeld = false →
    (s.attentionAsserted = true ↔ ∃ i, s.au.raised.getLsbD i = true ∧ s.au.enabled.getLsbD i = true) ∧
    ∀ k : Cause, s.isPending k = true → s.au.enabled.getLsbD k.number = true → s.attentionAsserted = true) ∧
  [Cause.seatChange .a, .seatChange .b, .seatDone .a, .seatDone .b, .duelEnd, .logThreshold, .logFull, .clipDone,
    .clipFreed, .fault, .alert].map Cause.number = [0, 1, 2, 3, 4, 5, 6, 7, 8, 9, 10]

/-! ### Seats, key maps and key scanning -/

/-- FLUSH_KEYS empties a READY seat's key queue and ends its debounces; LOAD_KEY_MAP writes a free map slot's tag and
the entries of the rows given; READ_SEATS reports both seats and clears the sticky alerts (R118, R121 to R123,
R132). CHECK_SEAT of a FAULTED seat, or of a READY one whose context is IDLE, sends it to IDENTIFYING with its
identity, map slot, fault, check progress, keys and row records gone; the context stays IDLE (R131). -/
def Obligations.SeatRequestsActOnTheSeat : Prop :=
  (∀ (s : State) (tag seat slot kind first rows : Byte) (x : Seat) (keys : List Byte) (ks : List KeyCode),
    (s.takes (.flushKeys tag seat) → seatOf seat = some x → (s.seat x).state = .ready →
      exec (.flushKeys tag seat) s = .next ((s.setSeat x { s.seat x with
        keys := [], rows := (s.seat x).rows.map (fun r => { r with candidate := r.stable, streak := 0 }) }).replied
          (.flushKeys tag seat) .ok [])) ∧
    (s.takes (.loadKeyMap tag slot kind first rows keys) → slot.toNat = 0 → keyCodes keys = some ks →
      1 ≤ rows.toNat → first.toNat + rows.toNat ≤ 8 →
      (∀ y, (s.seat y).mapSlot = some 0 → (s.seat y).state ≠ .checking ∧ (s.seat y).state ≠ .ready) →
      (kind.toNat = 0 ∨ s.ks.map1.tag ≠ kind.toNat) →
      exec (.loadKeyMap tag slot kind first rows keys) s = .next (({ s with ks := { s.ks with map0 :=
        ⟨kind.toNat, s.ks.map0.entries.take (7 * first.toNat) ++ ks ++
          s.ks.map0.entries.drop (7 * first.toNat + 7 * rows.toNat)⟩ } }).replied
            (.loadKeyMap tag slot kind first rows keys) .ok [])) ∧
    (s.takes (.loadKeyMap tag slot kind first rows keys) → slot.toNat = 1 → keyCodes keys = some ks →
      1 ≤ rows.toNat → first.toNat + rows.toNat ≤ 8 →
      (∀ y, (s.seat y).mapSlot = some 1 → (s.seat y).state ≠ .checking ∧ (s.seat y).state ≠ .ready) →
      (kind.toNat = 0 ∨ s.ks.map0.tag ≠ kind.toNat) →
      exec (.loadKeyMap tag slot kind first rows keys) s = .next (({ s with ks := { s.ks with map1 :=
        ⟨kind.toNat, s.ks.map1.entries.take (7 * first.toNat) ++ ks ++
          s.ks.map1.entries.drop (7 * first.toNat + 7 * rows.toNat)⟩ } }).replied
            (.loadKeyMap tag slot kind first rows keys) .ok [])) ∧
    (s.takes (.readSeats tag) → exec (.readSeats tag) s =
      .next (((s.setSeat .a { s.seat .a with holdRows := 0, chordRows := 0 }).setSeat .b
        { s.seat .b with holdRows := 0, chordRows := 0 }).replied (.readSeats tag) .ok
          ((s.seat .a).bytes ++ (s.seat .b).bytes))) ∧
    (s.seat x).bytes.length = 14 ∧
    ∀ r, s.seat x = r → r.bytes =
      [byte (seatStateCode r.state),
        byte (match r.faultCause with
          | none => 0 | some .idCheck => 1 | some .noId => 2 | some .unknownKind => 3 | some .ladder => 4),
        byte (match r.faultRow with | some n => n | none => 255),
        byte (bit r.identity.isSome + 2 * (match r.mapSlot with | some n => n + 1 | none => 0) + 8 * r.readFailures)] ++
      (match r.identity with
        | none => [0, 0, 0, 0, 0]
        | some i => [i.kind, byte i.serial.toNat, byte (i.serial.toNat / 256), byte (i.serial.toNat / 65536), i.check]) ++
      [byte (if r.state = .checking then r.idleRun else 0), byte (if r.state = .checking then r.scansCounted else 0),
        byte r.keys.length, r.holdRows, r.chordRows]) ∧
  (∀ (s : State) (tag seat : Byte) (x : Seat), s.takes (.checkSeat tag seat) → seatOf seat = some x →
    (s.seat x).state = .faulted ∨ (s.seat x).state = .ready ∧ (s.ctx x).state = .idle ∧ (s.ctx x).mode = .off →
    (∀ r ∈ (s.seat x).rows, r.due = false) → (s.seat x).rows.length = 8 →
    ∃ t : State, exec (.checkSeat tag seat) s = .next (t.replied (.checkSeat tag seat) .ok []) ∧
      t.seat x = { s.seat x with
        state := .identifying, faultCause := none, faultRow := none, identity := none, mapSlot := none,
        readFailures := 0, idleRun := 0, scansCounted := 0, lastBusyRow := none, keys := [],
        rows := List.replicate 8 RowRecord.fresh } ∧
      t.seat x.other = s.seat x.other ∧ t.ks.map0 = s.ks.map0 ∧ t.ks.map1 = s.ks.map1 ∧
      (∀ sc, s.ks.scan = some sc → rowSeat sc.row = x → t.ks.scan = some { sc with discard := true }) ∧
      t.ae = s.ae ∧ t.dc = s.dc ∧ t.ps = s.ps ∧ t.wt = s.wt ∧ t.rl = s.rl ∧ t.se = s.se ∧ t.au = s.au ∧ t.fb = s.fb)

/-- A row level decodes to STEP k in the window from 128k + 24 to 128k + 104 for k from 0 to 6, to IDLE from 920 on, and
to AMBIGUOUS at every other level (R110). -/
def Obligations.RowLevelsDecode : Prop :=
  ∀ level : Nat, level < 1024 →
    (∀ k, k ≤ 6 → 128 * k + 24 ≤ level → level ≤ 128 * k + 104 → decodeLevel level = .step k) ∧
    (920 ≤ level → decodeLevel level = .idle) ∧
    ((∀ k, k ≤ 6 → level < 128 * k + 24 ∨ 128 * k + 104 < level) → level < 920 → decodeLevel level = .ambiguous)

/-- A row conversion that is not discarded updates its row record: the candidate and its streak follow the decode, and
a candidate seen for the debounce count becomes the stable reading with its hold count back at 0; the scan goes on
to the next row of a seat in CHECKING or READY, or ends (R111, R115). A discarded one changes the scan alone. A
key-down at a READY seat appends its key code to the seat's key queue while the context keeps its keys; with 16
keys queued it is discarded with KEY_OVERRUN (R116, R119). A duel context in FEEDBACK keeps the keys it queued in
WAITING_LOG (R86), and that a key-down behind them waits with them is the model's reading (notes/assumptions/33). The ladder check of a CHECKING seat: the conversion of its row 7
counts the scan in which all 8 of its rows were converted; the 16th scan in a row with every row IDLE makes it READY, the
64th scan otherwise FAULTED with cause LADDER and the last busy row, each with SEAT_CHANGE; any other conversion counts
none (R128). -/
def Obligations.RowConversionsGiveKeyEvents : Prop :=
  (∀ (s : State) (level : BitVec 10) (sc : Scan) (x : Seat) (n : Nat) (r : RowRecord), s.resetHeld = false →
    s.ks.scan = some sc → rowSeat sc.row = x → n = sc.row % 8 → (s.seat x).rows[n]? = some r →
    (sc.discard = true → ∃ t : State, exec (.rowConversionComplete level) s = .next t ∧
      t.ks.scan = (s.nextRow (sc.row + 1)).map (fun i => { sc with row := i, discard := false }) ∧
      { t with ks := { t.ks with scan := s.ks.scan } } = s) ∧
    (sc.discard = false → ∃ (t : State) (q : RowRecord), exec (.rowConversionComplete level) s = .next t ∧
      (t.seat x).rows[n]? = some q ∧
      q.candidate = decodeLevel level.toNat ∧
      q.streak = (if decodeLevel level.toNat = r.candidate then min (r.streak + 1) 15 else 1) ∧
      q.stable = (if s.cfg.debounceCount ≤ q.streak then q.candidate else r.stable) ∧
      (q.stable ≠ r.stable → q.holdCount = 0 ∧ q.alerted = false) ∧
      (q.stable = r.stable → q.holdCount = r.holdCount ∧ q.alerted = r.alerted) ∧
      (∀ m, m ≠ n → (t.seat x).rows[m]? = (s.seat x).rows[m]?) ∧
      (t.seat x.other).rows = (s.seat x.other).rows ∧
      t.ks.scan.map (·.row) = t.nextRow (sc.row + 1) ∧
      (∀ sc', t.ks.scan = some sc' → sc'.discard = false ∧ sc'.tally.get x.other = sc.tally.get x.other ∧
        (sc'.tally.get x).rows = (sc.tally.get x).rows + 1 ∧
        (sc'.tally.get x).busy = (if decodeLevel level.toNat = .idle then (sc.tally.get x).busy else some n)) ∧
      t.tb = s.tb ∧ t.lp = s.lp ∧ t.cfg = s.cfg ∧ t.cs.bytes = s.cs.bytes)) ∧
  (∀ (s : State) (level : BitVec 10) (sc : Scan) (x : Seat) (n k slot : Nat) (key : KeyCode) (r : RowRecord),
    s.resetHeld = false → s.ks.scan = some sc → sc.discard = false → rowSeat sc.row = x → n = sc.row % 8 →
    (s.seat x).rows[n]? = some r → r.stable = .idle → r.due = false → decodeLevel level.toNat = .step k →
    s.cfg.debounceCount ≤ (if r.candidate = .step k then min (r.streak + 1) 15 else 1) →
    (s.seat x).state = .ready → (s.seat x).mapSlot = some slot → (s.keyMap slot).entries[7 * n + k]? = some key →
    key ≠ .unused → (s.ctx x).state = .waitingLog ∨ (s.ctx x).state = .paused ∨
      (s.ctx x).mode = .duel ∧ (s.ctx x).state = .feedback ∧ (s.seat x).keys ≠ [] → s.fb.frozen = false →
    ∃ t : State, exec (.rowConversionComplete level) s = .next t ∧
      ((s.seat x).keys.length < 16 → (t.seat x).keys = (s.seat x).keys ++ [key] ∧ t.fb = s.fb) ∧
      ((s.seat x).keys.length = 16 → (t.seat x).keys = (s.seat x).keys ∧
        t.fb = (s.recordFault .keyOverrun (.seat x) 0 none).fb) ∧
      t.ae = s.ae ∧ t.dc = s.dc ∧ t.se = s.se ∧ t.rl = s.rl) ∧
  (∀ (s : State) (i k : Nat),
    (s.nextRow i = some k ↔ i ≤ k ∧ k < 16 ∧ s.converts (rowSeat k) = true ∧
      ∀ j, i ≤ j → j < k → s.converts (rowSeat j) = false) ∧
    ∀ x, s.converts x = true ↔ (s.seat x).state = .checking ∨ (s.seat x).state = .ready) ∧
  (∀ (s : State) (level : BitVec 10) (sc : Scan) (x : Seat) (r : RowRecord) (busy last : Option Nat) (run : Nat),
    s.resetHeld = false → s.ks.scan = some sc → sc.discard = false → rowSeat sc.row = x →
    (s.seat x).rows[sc.row % 8]? = some r → (s.seat x).state = .checking →
    busy = (if decodeLevel level.toNat = .idle then (sc.tally.get x).busy else some 7) →
    last = (match busy with | some n => some n | none => (s.seat x).lastBusyRow) →
    run = (if busy = none then (s.seat x).idleRun + 1 else 0) →
    ∃ t : State, exec (.rowConversionComplete level) s = .next t ∧ (t.seat x).keys = (s.seat x).keys ∧
      t.ae = s.ae ∧ t.fb = s.fb ∧
      (sc.row % 8 ≠ 7 ∨ (sc.tally.get x).rows ≠ 7 → (t.seat x).state = .checking ∧
        (t.seat x).idleRun = (s.seat x).idleRun ∧ (t.seat x).scansCounted = (s.seat x).scansCounted ∧
        (t.seat x).lastBusyRow = (s.seat x).lastBusyRow) ∧
      (sc.row % 8 = 7 → (sc.tally.get x).rows = 7 →
        (run = 16 → (t.seat x).state = .ready ∧ t.isPending (.seatChange x) = true) ∧
        (run ≠ 16 → (s.seat x).scansCounted + 1 = 64 → (t.seat x).state = .faulted ∧
          (t.seat x).faultCause = some .ladder ∧ (t.seat x).faultRow = last ∧ t.isPending (.seatChange x) = true) ∧
        (run ≠ 16 → (s.seat x).scansCounted + 1 ≠ 64 → (t.seat x).state = .checking ∧ (t.seat x).idleRun = run ∧
          (t.seat x).scansCounted = (s.seat x).scansCounted + 1 ∧ (t.seat x).lastBusyRow = last)))

/-- The events of a sense line: a change of level starts the settle timer; settled "present" in EMPTY begins the
identity read and acts in no other state; settled "absent" sends a seat in any other state to EMPTY with its
identity, map slot and fault gone, a FAULTED one with SEAT_CHANGE pending and nothing else changed (R125, R130).
The end of an identity read: no answer or a wrong check byte is recorded and the read begins again, a second
failure makes the seat FAULTED; a good identity whose kind a map slot carries enters CHECKING with fresh rows, and
one whose kind no slot carries is FAULTED with UNKNOWN_KIND (R126, R127); one that enters CHECKING while a scan is under way
joins that scan with its tally afresh, no row converted yet (R128). That SENSE_SETTLED with no settle
timer running changes nothing is the model's choice (notes/assumptions/5). -/
def Obligations.SenseAndIdentityMoveTheSeat : Prop :=
  (∀ (s : State) (x : Seat) (level : Bool) (periods : Nat), s.resetHeld = false →
    ((s.seat x).senseLine ≠ level → exec (.senseChange x level) s =
      .next (s.setSeat x { s.seat x with senseLine := level, settleTimer := some 60000 })) ∧
    ((s.seat x).senseLine = level → exec (.senseChange x level) s = .next s) ∧
    ((s.seat x).settleTimer = none → exec (.senseSettled x) s = .next s) ∧
    ((s.seat x).settleTimer = some periods → (s.seat x).senseLine = true → (s.seat x).state = .empty →
      exec (.senseSettled x) s = .next (s.setSeat x { s.seat x with
        settled := true, settleTimer := none, state := .identifying, readFailures := 0 })) ∧
    ((s.seat x).settleTimer = some periods → (s.seat x).senseLine = true → (s.seat x).state ≠ .empty →
      exec (.senseSettled x) s = .next (s.setSeat x { s.seat x with settled := true, settleTimer := none })) ∧
    ((s.seat x).settleTimer = some periods → (s.seat x).senseLine = false → (s.seat x).state ≠ .empty →
      ∃ t : State, exec (.senseSettled x) s = .next t ∧ (t.seat x).state = .empty ∧ (t.seat x).settled = false ∧
        (t.seat x).settleTimer = none ∧ (t.seat x).identity = none ∧ (t.seat x).mapSlot = none ∧
        (t.seat x).faultCause = none ∧ (t.seat x).rows = List.replicate 8 RowRecord.fresh ∧
        (t.seat x.other).state = (s.seat x.other).state ∧ t.lp = s.lp ∧ t.tb = s.tb ∧ t.cfg = s.cfg) ∧
    ((s.seat x).settleTimer = some periods → (s.seat x).senseLine = false → (s.seat x).state = .faulted →
      (∀ r ∈ (s.seat x).rows, r.due = false) → (s.seat x).rows.length = 8 → s.ks.scan = none →
      exec (.senseSettled x) s = .next ((s.setSeat x { s.seat x with
        settled := false, settleTimer := none, state := .empty, faultCause := none, faultRow := none,
        identity := none, mapSlot := none, readFailures := 0, idleRun := 0, scansCounted := 0, lastBusyRow := none,
        keys := [], rows := List.replicate 8 RowRecord.fresh }).raise (.seatChange x)))) ∧
  (∀ (s : State) (x : Seat) (i : Identity), s.resetHeld = false → (s.seat x).state = .identifying →
    ((s.seat x).readFailures = 0 → exec (.identityReadComplete x none) s =
      .next ((s.recordFault .noId (.seat x) 0 none).setSeat x { s.seat x with readFailures := 1 })) ∧
    ((s.seat x).readFailures = 1 → exec (.identityReadComplete x none) s =
      .next (((s.recordFault .noId (.seat x) 0 none).setSeat x { s.seat x with
        state := .faulted, faultCause := some .noId, faultRow := none, identity := none }).raise (.seatChange x))) ∧
    (identityCheck i.kind i.serial ≠ i.check → (s.seat x).readFailures = 0 →
      exec (.identityReadComplete x (some i)) s =
        .next ((s.recordFault .idCheck (.seat x) i.check.toNat none).setSeat x { s.seat x with readFailures := 1 })) ∧
    (identityCheck i.kind i.serial ≠ i.check → (s.seat x).readFailures = 1 →
      exec (.identityReadComplete x (some i)) s =
        .next (((s.recordFault .idCheck (.seat x) i.check.toNat none).setSeat x { s.seat x with
          state := .faulted, faultCause := some .idCheck, faultRow := none, identity := none }).raise
            (.seatChange x))) ∧
    (identityCheck i.kind i.serial = i.check → i.kind.toNat ≠ 0 → s.ks.map0.tag = i.kind.toNat → s.ks.scan = none →
      exec (.identityReadComplete x (some i)) s = .next (s.setSeat x { s.seat x with
        state := .checking, identity := some i, mapSlot := some 0, rows := List.replicate 8 RowRecord.fresh,
        idleRun := 0, scansCounted := 0, lastBusyRow := none })) ∧
    (identityCheck i.kind i.serial = i.check → i.kind.toNat ≠ 0 → s.ks.map0.tag ≠ i.kind.toNat →
      s.ks.map1.tag = i.kind.toNat → s.ks.scan = none →
      exec (.identityReadComplete x (some i)) s = .next (s.setSeat x { s.seat x with
        state := .checking, identity := some i, mapSlot := some 1, rows := List.replicate 8 RowRecord.fresh,
        idleRun := 0, scansCounted := 0, lastBusyRow := none })) ∧
    (∀ sc slot, identityCheck i.kind i.serial = i.check → i.kind.toNat ≠ 0 → s.ks.scan = some sc →
      (slot = 0 ∧ s.ks.map0.tag = i.kind.toNat ∨
        slot = 1 ∧ s.ks.map0.tag ≠ i.kind.toNat ∧ s.ks.map1.tag = i.kind.toNat) →
      ∃ t : State, exec (.identityReadComplete x (some i)) s = .next t ∧
        t.seat x = { s.seat x with
          state := .checking, identity := some i, mapSlot := some slot, rows := List.replicate 8 RowRecord.fresh,
          idleRun := 0, scansCounted := 0, lastBusyRow := none } ∧
        t.ks.scan = some { sc with tally := sc.tally.set x ⟨0, none⟩ } ∧ t.seat x.other = s.seat x.other ∧
        { t with ks := s.ks } = s) ∧
    (identityCheck i.kind i.serial = i.check →
      i.kind.toNat = 0 ∨ (s.ks.map0.tag ≠ i.kind.toNat ∧ s.ks.map1.tag ≠ i.kind.toNat) →
      exec (.identityReadComplete x (some i)) s = .next ((s.setSeat x { s.seat x with
        state := .faulted, faultCause := some .unknownKind, faultRow := none, identity := some i,
        mapSlot := none }).raise (.seatChange x))))

/-- HOLD_ALERT gives an alert that a lesson tick has found: the row is alerted, its sticky hold or chord row is set and
ALERT is pending; CONVERTER_TIMEOUT abandons the scan, records the disruptive fault with the row index and stops the scan
generator (R113, R117). Which alerts are outstanding is the model's mark (notes/assumptions/13), and that HOLD_ALERT with
none outstanding and CONVERTER_TIMEOUT with no conversion change nothing is its choice (notes/assumptions/5). -/
def Obligations.AlertsAndConverterTimeouts : Prop :=
  ∀ (s : State) (x : Seat) (row : Fin 8) (r : RowRecord) (sc : Scan), s.resetHeld = false →
    ((s.seat x).rows[row.val]? = some r → r.due = false → exec (.holdAlert x row) s = .next s) ∧
    ((s.seat x).rows[row.val]? = some r → r.due = true → ∃ t : State, exec (.holdAlert x row) s = .next t ∧
      (t.seat x).rows[row.val]? = some { r with alerted := true, due := false } ∧
      t.isPending .alert = true ∧
      (∀ k, r.stable = .step k → (t.seat x).holdRows = (s.seat x).holdRows ||| (1#8 <<< row.val) ∧
        (t.seat x).chordRows = (s.seat x).chordRows) ∧
      (r.stable = .ambiguous → (t.seat x).chordRows = (s.seat x).chordRows ||| (1#8 <<< row.val) ∧
        (t.seat x).holdRows = (s.seat x).holdRows) ∧
      (t.seat x).keys = (s.seat x).keys ∧ t.seat x.other = s.seat x.other ∧ t.ae = s.ae ∧ t.fb = s.fb) ∧
    (s.ks.scan = some sc → exec .converterTimeout s =
      .next { ({ s with ks := { s.ks with scan := none } }).recordFault
          .converterTimeout .nothing sc.row (some true) with tb := { s.tb with generator := .stopped } }) ∧
    (s.ks.scan = none → exec .converterTimeout s = .next s)

/-! ### The Timebase -/

/-- The scan generator: SCAN_START from STOPPED loads the down-count with the scan divisor and changes nothing while it
runs, SCAN_STOP stops it, and both report its state and the lesson tick counter (R137 to R139). A scan start reloads the
down-count, begins a scan or is dropped with SCAN_OVERRUN, and counts in the tick divider (R111, R112, R137, R141): below
the divisor in use the count alone goes up; when it reaches the divisor a lesson tick is issued at once: the count is 0,
the counter goes on modulo 65536, the stored divisor comes into use, READY seats' held rows count, and the contexts'
elapsed and running idle timers move (R28, R117, R141, R142). In STOPPED no scan start and no tick is issued, and the
count stays below the divisor in use. LESSON_TICK names the scan start that brings a tick, and does nothing when the next
one brings none (notes/assumptions/35 and 5); that a tick leaves alerts to HOLD_ALERT is the model's choice
(notes/assumptions/13). -/
def Obligations.ScanStartsAndLessonTicks : Prop :=
  (∀ (s : State) (tag : Byte),
    (s.takes (.scanStart tag) → s.tb.generator = .stopped → exec (.scanStart tag) s =
      .next (({ s with tb := { s.tb with generator := .running s.cfg.scanDivisor } }).replied (.scanStart tag) .ok
        [1, byte s.tb.counter, byte (s.tb.counter / 256)])) ∧
    (∀ n, s.takes (.scanStart tag) → s.tb.generator = .running n → exec (.scanStart tag) s =
      .next (s.replied (.scanStart tag) .ok [1, byte s.tb.counter, byte (s.tb.counter / 256)])) ∧
    (s.takes (.scanStop tag) → exec (.scanStop tag) s =
      .next (({ s with tb := { s.tb with generator := .stopped } }).replied (.scanStop tag) .ok
        [0, byte s.tb.counter, byte (s.tb.counter / 256)]))) ∧
  (∀ s : State, s.resetHeld = false →
    (s.tb.generator = .stopped → exec .scanStartIssued s = .next s ∧ exec .lessonTick s = .next s) ∧
    (s.tb.count + 1 < s.tb.divisorInUse → exec .lessonTick s = .next s) ∧
    (s.tb.divisorInUse ≤ s.tb.count + 1 → exec .lessonTick s = exec .scanStartIssued s) ∧
    (∀ n sc, s.tb.generator = .running n → s.tb.count + 1 < s.tb.divisorInUse → s.ks.scan = some sc →
      exec .scanStartIssued s = .next (({ s with tb := { s.tb with
        generator := .running s.cfg.scanDivisor, count := s.tb.count + 1 } }).recordFault
          .scanOverrun .nothing 0 none)) ∧
    (∀ n, s.tb.generator = .running n → s.tb.count + 1 < s.tb.divisorInUse → s.ks.scan = none →
      ∃ t : State, exec .scanStartIssued s = .next t ∧
        t.tb = { s.tb with generator := .running s.cfg.scanDivisor, count := s.tb.count + 1 } ∧
        { t with tb := s.tb, ks := { t.ks with scan := none } } = s ∧
        ((∃ y, s.converts y = true) ↔ t.ks.scan.isSome = true) ∧
        ∀ sc, t.ks.scan = some sc → s.converts (rowSeat sc.row) = true ∧ sc.row % 8 = 0 ∧ sc.discard = false ∧
          (∀ y, sc.tally.get y = ⟨0, none⟩) ∧ (sc.row = 8 → s.converts .a = false)) ∧
    (∀ n, s.tb.generator = .running n → s.tb.divisorInUse ≤ s.tb.count + 1 → s.fb.frozen = false →
      ∃ t : State, exec .scanStartIssued s = .next t ∧
      t.tb = { generator := .running s.cfg.scanDivisor, count := 0, counter := (s.tb.counter + 1) % 65536
               divisorInUse := s.cfg.tickDivisor } ∧
      (∀ x, t.ctx x = { s.ctx x with
        elapsed := if (s.ctx x).target.isSome ∧ (s.ctx x).startTick.isSome ∧
          ((s.ctx x).mode ≠ .duel ∨ (s.round x).ended = none) then min ((s.ctx x).elapsed + 1) 65535
          else (s.ctx x).elapsed
        idleTimer := if (s.ctx x).state = .typing ∧ (s.ctx x).idleRunning = true then (s.ctx x).idleTimer - 1
          else (s.ctx x).idleTimer }) ∧
      (∀ x, (s.seat x).state ≠ .ready → t.seat x = s.seat x) ∧
      (∀ (x : Seat) (r : RowRecord) (n : Nat), (s.seat x).state = .ready → (s.seat x).rows[n]? = some r →
        ∃ q : RowRecord, (t.seat x).rows[n]? = some q ∧
        q.stable = r.stable ∧ q.candidate = r.candidate ∧ q.streak = r.streak ∧ q.alerted = r.alerted ∧
        q.holdCount = (if r.stable = .idle then r.holdCount else min (r.holdCount + 1) 2000) ∧
        (q.due = true ↔ r.due = true ∨
          r.stable ≠ .idle ∧ s.cfg.holdLimit ≤ q.holdCount ∧ r.alerted = false)) ∧
      (∀ x, { t.seat x with rows := (s.seat x).rows } = s.seat x) ∧
      (∀ sc, s.ks.scan = some sc → t.ks.scan = some sc ∧ t.fb = (s.recordFault .scanOverrun .nothing 0 none).fb ∧
        t.au = (s.recordFault .scanOverrun .nothing 0 none).au) ∧
      (s.ks.scan = none → t.fb = s.fb ∧ t.au = s.au ∧ ((∃ y, s.converts y = true) ↔ t.ks.scan.isSome = true)) ∧
      t.cfg = s.cfg ∧ t.dc = s.dc ∧ t.rl = s.rl ∧ t.ps = s.ps ∧ t.wt = s.wt ∧ t.se = s.se ∧ t.cs = s.cs ∧
      t.lp = s.lp)) ∧
  ∀ s t : State, s.tb.count < s.tb.divisorInUse → 0 < s.cfg.tickDivisor → step s = .next t →
    t.tb.count < t.tb.divisorInUse ∧ 0 < t.cfg.tickDivisor

/-! ### Speech -/

/-- SET_ROUTE, SET_CUES, SET_LETTERS and SET_VOLUME replace a setting, a table or one channel's volume, and turn an
argument out of range away with BAD_FIELD (R151, R164 to R166). A clip table argument of bytes from 0 to 160 is a
table, 0 for absent, and one with a byte above 160 is none; a clip list of ids from 1 to 160 is one (R162, R164,
R165). -/
def Obligations.SpeechSettingsAreReplaced : Prop :=
  (∀ (s : State) (tag v w : Byte) (x : Seat) (r : RouteSetting) (c : Channel) (clips : List Byte)
    (es : List (Option Nat)),
    (s.takes (.setRoute tag v w) → seatOf v = some x → settingOf w = some r → exec (.setRoute tag v w) s =
      .next (({ s with se := { s.se with routes := s.se.routes.set x r } }).replied (.setRoute tag v w) .ok [])) ∧
    (s.takes (.setCues tag clips) → tableEntries clips = some es → exec (.setCues tag clips) s =
      .next (({ s with se := { s.se with cues := es } }).replied (.setCues tag clips) .ok []) ∧ es.length = 8) ∧
    (s.takes (.setLetters tag clips) → tableEntries clips = some es → exec (.setLetters tag clips) s =
      .next (({ s with se := { s.se with letters := es } }).replied (.setLetters tag clips) .ok []) ∧
        es.length = 27) ∧
    (s.takes (.setVolume tag v w) → channelOf v = some c → w.toNat ≤ 15 → ∃ t : State, exec (.setVolume tag v w) s =
      .next (t.replied (.setVolume tag v w) .ok []) ∧ t.volume c = w.toNat ∧
        (∀ d, d ≠ c → t.volume d = s.volume d) ∧
        { t with se := { t.se with volumeA := s.se.volumeA, volumeB := s.se.volumeB,
                                   volumeSpeaker := s.se.volumeSpeaker } } = s) ∧
    (s.takes (.setVolume tag v w) → 15 < w.toNat ∨ 2 < v.toNat →
      exec (.setVolume tag v w) s = .next (s.replied (.setVolume tag v w) .badField [])) ∧
    (s.takes (.setRoute tag v w) → 1 < v.toNat ∨ 1 < w.toNat →
      exec (.setRoute tag v w) s = .next (s.replied (.setRoute tag v w) .badField [])) ∧
    (s.takes (.setCues tag clips) → (∃ b ∈ clips, 160 < b.toNat) →
      exec (.setCues tag clips) s = .next (s.replied (.setCues tag clips) .badField [])) ∧
    (s.takes (.setLetters tag clips) → (∃ b ∈ clips, 160 < b.toNat) →
      exec (.setLetters tag clips) s = .next (s.replied (.setLetters tag clips) .badField []))) ∧
  (∀ bytes : List Byte,
    ((∀ b ∈ bytes, b.toNat ≤ 160) → tableEntries bytes =
      some (bytes.map fun b => if b.toNat = 0 then none else some b.toNat)) ∧
    ((∃ b ∈ bytes, 160 < b.toNat) → tableEntries bytes = none ∧ clipIds bytes = none) ∧
    ((∀ b ∈ bytes, 1 ≤ b.toNat ∧ b.toNat ≤ 160) → clipIds bytes = some (bytes.map (·.toNat))))

/-- ANNOUNCE with READY clips: the announcement is accepted with the next handle in the cycle and, when nothing else
is spoken, plays on voice V0 from its first clip; its clips are pinned, one pin for each place (R146, R148, R150,
R153, R162). CANCEL_ANNOUNCE of the one announcement that plays: its voice is FREE, its pins are released, and the
last announcement record holds its handle with status CANCELLED; ALL does the same, leaves no announcement whatever else
is spoken, and with none changes nothing; a handle that no announcement holds is refused NOT_FOUND (R158, R159, R163).
The arbiter fills V0 first, then V1, with the head whose class stands first, ANNOUNCE, FEEDBACK, PROMPT, CUE, ECHO, and of
heads of one class the one whose requester stands first in the start order, among those whose channels the other voice
does not use; a seat's or the duel's utterance that starts sends its requester to the tail of that order (R153, R154). An
utterance that DC places leaves at most one in the duel speech queue, itself (R147): an older one still outstanding is
cancelled first, the model's choice (notes/assumptions/18). -/
def Obligations.AnnouncementsAreSpokenAndCancelled : Prop :=
  (∀ (s : State) (tag route count : Byte) (clips : List Byte) (r : BitVec 3) (ids : List Nat),
    s.takes (.announce tag route count clips) → routeOf route = some r → clipIds clips = some ids →
    1 ≤ count.toNat → count.toNat ≤ 20 → ids.all s.clipReady = true → s.speechQuiet →
    ∃ t : State, exec (.announce tag route count clips) s =
        .next (t.replied (.announce tag route count clips) .ok [byte (if s.se.lastHandle < 255 then s.se.lastHandle + 1 else 1)]) ∧
      t.se.v0 = some ⟨⟨if s.se.lastHandle < 255 then s.se.lastHandle + 1 else 1, .announce, .announce, r, ids⟩, 0, 0, 0⟩ ∧
      t.se.v1 = none ∧ t.allWaiting = [] ∧
      t.se.lastHandle = (if s.se.lastHandle < 255 then s.se.lastHandle + 1 else 1) ∧
      (∀ id c, s.clip id = some c → t.clip id = some { c with pins := c.pins + ids.count id }) ∧
      t.se.startOrder = s.se.startOrder ∧ t.ae = s.ae ∧ t.dc = s.dc ∧ t.rl = s.rl ∧ t.fb = s.fb ∧ t.au = s.au ∧
      t.fixed = s.fixed) ∧
  (∀ (s : State) (tag handle : Byte) (p : Playing) (id : Nat) (c : Clip),
    (s.takes (.cancelAnnounce tag 0 handle) → handle.toNat ≠ 0 → s.se.v0 = some p → s.se.v1 = none →
      s.allWaiting = [] → p.utterance.requester = .announce → p.utterance.handle = handle.toNat →
      p.utterance.clips = [id] → s.clip id = some c → c.state = .ready →
      exec (.cancelAnnounce tag 0 handle) s = .next (({ (s.setClip id (some { c with pins := c.pins - 1 })) with
        se := { s.se with v0 := none, lastAnnounce := some ⟨handle.toNat, .cancelled⟩ } }).replied
          (.cancelAnnounce tag 0 handle) .ok [])) ∧
    (s.takes (.cancelAnnounce tag 1 handle) → s.se.v0 = some p → s.se.v1 = none → s.allWaiting = [] →
      p.utterance.requester = .announce → p.utterance.clips = [id] → s.clip id = some c → c.state = .ready →
      exec (.cancelAnnounce tag 1 handle) s = .next (({ (s.setClip id (some { c with pins := c.pins - 1 })) with
        se := { s.se with v0 := none, lastAnnounce := some ⟨p.utterance.handle, .cancelled⟩ } }).replied
          (.cancelAnnounce tag 1 handle) .ok [])) ∧
    (s.takes (.cancelAnnounce tag 1 handle) → ∃ t : State, exec (.cancelAnnounce tag 1 handle) s =
        .next (t.replied (.cancelAnnounce tag 1 handle) .ok []) ∧
      ∀ u ∈ t.allPlaying ++ t.allWaiting, u.requester ≠ .announce) ∧
    (s.takes (.cancelAnnounce tag 1 handle) → s.speechQuiet →
      exec (.cancelAnnounce tag 1 handle) s = .next (s.replied (.cancelAnnounce tag 1 handle) .ok [])) ∧
    (s.takes (.cancelAnnounce tag 0 handle) → handle.toNat ≠ 0 →
      (∀ u ∈ s.allPlaying ++ s.allWaiting, u.requester = .announce → u.handle ≠ handle.toNat) →
      exec (.cancelAnnounce tag 0 handle) s = .next (s.replied (.cancelAnnounce tag 0 handle) .notFound []))) ∧
  (∀ (s : State) (v : Voice) (u : Utterance),
    (s.voiceToFill = none ↔ s.se.v0.isSome = true ∧ s.se.v1.isSome = true) ∧
    (s.voiceToFill = some .v0 ↔ s.se.v0 = none) ∧ (s.voiceToFill = some .v1 ↔ s.se.v0.isSome = true ∧ s.se.v1 = none) ∧
    (s.bestHead v = none ↔ ∀ r w, (s.speechQueue r).head? = some w → s.eligible v w = false) ∧
    (s.bestHead v = some u → s.eligible v u = true ∧ (∃ r, (s.speechQueue r).head? = some u) ∧
      ∀ r w, (s.speechQueue r).head? = some w → s.eligible v w = true →
        u.cls.priority < w.cls.priority ∨
        u.cls.priority = w.cls.priority ∧ s.startPlace u.requester ≤ s.startPlace w.requester) ∧
    (s.eligible v u = true ↔ ∀ p, s.voice (otherVoice v) = some p → u.route &&& p.utterance.route = 0) ∧
    [SpeechClass.announce, .feedback, .prompt, .cue, .echo].map SpeechClass.priority = [0, 1, 2, 3, 4] ∧
    (∀ x y z, s.se.startOrder = [x, y, z] → x ≠ y → y ≠ z → x ≠ z →
      s.startPlace x = 0 ∧ s.startPlace y = 1 ∧ s.startPlace z = 2) ∧
    (∀ c cs, s.voiceToFill = some v → s.bestHead v = some u → u.clips = c :: cs → s.clipBad c = false →
      ∃ t : State, s.arbitrate = (t, [.arbitrate]) ∧ t.voice v = some ⟨u, 0, 0, 0⟩ ∧
        t.voice (otherVoice v) = s.voice (otherVoice v) ∧
        (∀ r, t.speechQueue r = if r = u.requester then (s.speechQueue r).drop 1 else s.speechQueue r) ∧
        t.se.startOrder = (if u.requester = .announce then s.se.startOrder
          else s.se.startOrder.erase u.requester ++ [u.requester]) ∧ { t with se := s.se } = s)) ∧
  ∀ (s t : State) (cls : SpeechClass) (clips : List Nat) (ts : List Task),
    (∀ u ∈ s.se.duelQueue, s.dc.firm = some u.handle) → s.placeDuelFirm cls clips = (t, ts) →
    t.se.duelQueue.length ≤ 1 ∧ ∀ u ∈ t.se.duelQueue, t.dc.firm = some u.handle

/-- An utterance's last clip ends while nothing else is spoken: the voice is FREE and the pins are released; an
announcement's end is in the last announcement record; a seat's prompt takes its context from PROMPTING to TYPING
with the start tick and a fresh idle timer (R33, R156, R158). A voice that comes to the next clip of its utterance
goes on with it from its first sample, whatever the clip's state short of BAD (R155); that a free voice has nothing to
advance is the model's choice (notes/assumptions/5). The end of the round prompt starts the race for both seats (R79).
The end of the round feedback closes the round: the last round's close finishes the duel with reason ROUNDS and the
higher score as winner; with room for one record alone seat B's waits and holds the next round back; else the next round
is presented (R86, R87). -/
def Obligations.VoicesAdvanceAndEnd : Prop :=
  (∀ (s : State) (v : Voice) (p : Playing) (id : Nat) (c : Clip) (x : Seat), s.resetHeld = false →
    s.voice v = some p → s.voice (otherVoice v) = none → s.allWaiting = [] → p.index = 0 → p.utterance.clips = [id] →
    s.clip id = some c → c.state = .ready →
    (p.utterance.requester = .announce → exec (.utteranceDone v) s =
      .next { (s.setClip id (some { c with pins := c.pins - 1 })) with
        se := { (s.setVoice v none).se with lastAnnounce := some ⟨p.utterance.handle, .done⟩ } }) ∧
    (p.utterance.requester = .seat x → p.utterance.cls = .prompt → (s.ctx x).firm = some p.utterance.handle →
      (s.ctx x).state = .prompting → s.inFlight x = false → (s.seat x).keys = [] → s.fb.frozen = false →
      ∃ t : State, exec (.utteranceDone v) s = .next t ∧
        t.ctx x = { s.ctx x with
          state := .typing, firm := none, idleTimer := s.cfg.idleLimit, idleRunning := true
          startTick := match (s.ctx x).startTick with
            | some k => some k
            | none => some s.tb.counter } ∧
        t.voice v = none ∧ t.speechQuiet ∧ t.clip id = some { c with pins := c.pins - 1 } ∧
        t.ctx x.other = s.ctx x.other ∧ t.dc = s.dc ∧ t.rl = s.rl ∧ t.fb = s.fb ∧ t.fixed = s.fixed)) ∧
  (∀ (s : State) (v : Voice) (p : Playing) (id : Nat), s.resetHeld = false →
    (s.voice v = none → exec (.clipAdvance v) s = .next s) ∧
    (s.voice v = some p → p.utterance.clips[p.index + 1]? = some id → s.clipBad id = false →
      exec (.clipAdvance v) s = .next (s.setVoice v (some ⟨p.utterance, p.index + 1, 0, 0⟩)))) ∧
  (∀ (s : State) (v : Voice) (p : Playing) (id : Nat) (c : Clip), s.resetHeld = false → s.fb.frozen = false →
    s.voice v = some p → s.voice (otherVoice v) = none → s.allWaiting = [] → p.index = 0 → p.utterance.clips = [id] →
    s.clip id = some c → c.state = .ready → p.utterance.requester = .duel → s.dc.firm = some p.utterance.handle →
    (∀ x, (s.seat x).keys = []) →
    (p.utterance.cls = .prompt → s.dc.state = .presenting →
      (∀ x, (s.round x).status = some .typing ∧ (s.ctx x).state = .prompting ∧ s.inFlight x = false) →
      ∃ t : State, exec (.utteranceDone v) s = .next t ∧ t.dc = { s.dc with state := .racing, firm := none } ∧
        (∀ x, t.ctx x = { s.ctx x with
          state := .typing, idleTimer := s.cfg.idleLimit, idleRunning := true
          startTick := match (s.ctx x).startTick with
            | some k => some k
            | none => some s.tb.counter }) ∧
        t.speechQuiet ∧ t.rl = s.rl ∧ t.ps = s.ps ∧ t.wt = s.wt ∧ t.fb = s.fb ∧ t.fixed = s.fixed) ∧
    (p.utterance.cls = .feedback → s.dc.state = .settling → (∀ x, (s.round x).record = .notBuilt) →
      (s.rl.records.length ≤ 30 → s.dc.round = s.dc.total → ∃ t : State, exec (.utteranceDone v) s = .next t ∧
        t.hasRecordsOf s ∧ t.dc.state = .finished ∧ t.dc.finish = some .rounds ∧ t.dc.scores = s.dc.scores ∧
        t.dc.duelWinner = (if s.dc.scores.b < s.dc.scores.a then some .a
          else if s.dc.scores.a < s.dc.scores.b then some .b else none) ∧
        t.isPending .duelEnd = true ∧
        (∀ x, (t.ctx x).state = .idle ∧ (t.ctx x).mode = .off ∧ (t.round x).record = .inLog) ∧
        t.speechQuiet ∧ t.ps = s.ps ∧ t.wt = s.wt ∧ t.fb = s.fb ∧ t.fixed = s.fixed) ∧
      (s.rl.records.length = 31 → ∃ (t : State) (ra rb : ResultRecord), exec (.utteranceDone v) s = .next t ∧
        t.rl.records = s.rl.records ++ [ra] ∧ ra.ofRound s .a ∧ ra.number = some s.rl.counter ∧
        t.rl.waiting = s.rl.waiting ++ [.b] ∧ t.ctx .a = { s.ctx .a with pendingRecord := none } ∧
        (t.ctx .b).state = .waitingLog ∧ (t.ctx .b).mode = (s.ctx .b).mode ∧ (t.ctx .b).pendingRecord = some rb ∧
        rb.ofRound s .b ∧ (t.round .a).record = .inLog ∧ (t.round .b).record = .waiting ∧ t.dc.state = .settling ∧
        t.dc.round = s.dc.round ∧ t.speechQuiet ∧ t.ps = s.ps ∧ t.wt = s.wt ∧ t.fb = s.fb ∧ t.fixed = s.fixed) ∧
      (∀ m rest e, s.rl.records.length ≤ 30 → s.dc.round ≠ s.dc.total → s.fb.condition = .normal →
        s.cfg.refillMark = 0 → s.ps.duel = m :: rest → s.slot m = .occupied e true → s.clipReady e.wordClip = true →
        ∃ t : State, exec (.utteranceDone v) s = .next t ∧ t.hasRecordsOf s ∧
          t.presents s m rest e ∧ t.fb = s.fb ∧ t.fixed = s.fixed)))

/-- A parity error in a sample while nothing else is spoken: the voice is FREE, a READY clip is BAD with cause PARITY and
CLIP_PARITY is recorded with the clip. An announcement ended FAILED, with no order left open. A seat's prompt in NORMAL: with
the FAILED report taken first the context goes to TYPING with the hold entry outstanding, and with HOLD taken first the
context is PAUSED with its attempt held and the report is ignored (R157, R158, R180); that the operand of the command says
which is the model's choice (notes/assumptions/11). -/
def Obligations.ParityErrorFailsTheUtterance : Prop :=
  ∀ (s : State) (v : Voice) (holdFirst : Bool) (p : Playing) (id : Nat) (c : Clip), s.resetHeld = false →
    s.voice v = some p → s.voice (otherVoice v) = none → s.allWaiting = [] → p.index = 0 → p.utterance.clips = [id] →
    s.clip id = some c → c.state = .ready →
    (p.utterance.requester = .announce →
      ∃ t : State, exec (.clipParity v holdFirst) s = .next t ∧ t.speechQuiet ∧
        t.clip id = some { c with state := .bad, badCause := some .parity, pins := c.pins - 1 } ∧
        t.se.lastAnnounce = some ⟨p.utterance.handle, .failed⟩ ∧
        t.fb.audio.held = some (holdFault s.fb.audio.held
          ⟨false, .clipParity, s.fb.audio.mask.getLsbD 9, .clip id, 0, some true⟩) ∧
        (s.fb.audio.mask.getLsbD 9 = true → s.fb.condition = .normal → t.fb.condition = .hold ∧ t.fb.holdDue = true) ∧
        (s.fb.audio.mask.getLsbD 9 = true → s.fb.condition = .hold → t.fb.condition = .lockdown) ∧
        (s.fb.audio.mask.getLsbD 9 = false → t.fb.condition = s.fb.condition) ∧
        t.ae = s.ae ∧ t.dc = s.dc ∧ t.fixed = s.fixed) ∧
    (∀ x, p.utterance.requester = .seat x → p.utterance.cls = .prompt → (s.ctx x).firm = some p.utterance.handle →
      (s.ctx x).mode = .solo → (s.ctx x).state = .prompting → s.inFlight x = false → (s.seat x).keys = [] →
      s.fb.frozen = false → s.fb.condition = .normal → s.fb.audio.mask.getLsbD 9 = true →
      ∃ t : State, exec (.clipParity v holdFirst) s = .next t ∧ t.speechQuiet ∧
        t.clip id = some { c with state := .bad, badCause := some .parity, pins := c.pins - 1 } ∧
        t.fb.condition = .hold ∧
        (holdFirst = true → t.fb.holdDue = false ∧
          t.ctx x = { s.ctx x with state := .paused, pauseCause := some .hold, firm := none, idleRunning := false }) ∧
        (holdFirst = false → t.fb.holdDue = true ∧ t.ctx x.other = s.ctx x.other ∧
          t.ctx x = { s.ctx x with
            state := .typing, firm := none, idleTimer := s.cfg.idleLimit, idleRunning := true
            startTick := match (s.ctx x).startTick with
              | some n => some n
              | none => some s.tb.counter }) ∧
        t.rl = s.rl ∧ t.ps = s.ps ∧ t.wt = s.wt ∧ t.se.lastAnnounce = s.se.lastAnnounce ∧ t.fixed = s.fixed)

/-- Each output channel carries the saturating sum of the scaled samples of the voices whose routes include it: a U8 sample
u is (u - 128) times 256 and an S16 sample its two's complement value, scaled by the channel's volume, divided by 15 and
rounded toward zero; volume 15 passes the sample, volume 0 gives 0, and no voice gives 0 (R167). -/
def Obligations.ChannelsCarryScaledSamples : Prop :=
  (∀ (s : State) (ch : Channel) (x y : Int),
    (∀ v z, (v = .v0 ∧ z = x ∨ v = .v1 ∧ z = y) →
      (s.voice v = none → z = 0) ∧
      ∀ p, s.voice v = some p →
        (p.utterance.route &&& ch.route = 0 → z = 0) ∧
        (p.utterance.route &&& ch.route ≠ 0 → ∃ id c, p.utterance.clips[p.index]? = some id ∧ s.clip id = some c ∧
          (c.format = .u8 → z = ((((s.clipByte c p.sample).toNat : Int) - 128) * 2 ^ 8 * s.volume ch).tdiv 15) ∧
          (c.format = .s16 →
            z = ((s.clipByte c (2 * p.sample + 1) ++ s.clipByte c (2 * p.sample)).toInt * s.volume ch).tdiv 15))) →
    s.channelSample ch = max (-32768) (min 32767 (x + y))) ∧
  ∀ z : Int, (z * 15).tdiv 15 = z ∧ (z * 0).tdiv 15 = 0

/-! ### The Clip Store -/

/-- OPEN_CLIP of an ABSENT id places the clip at the lowest run of free blocks that is long enough, LOADING with fill
0 and no pin, and answers the first block and the block count; with no such run it is refused NO_SPACE (R172,
R173). CLIP_DATA at the fill of a LOADING clip stores its bytes at the next addresses of the clip's run, each
readable there, changes no byte at any other address, and answers the new fill (R174). -/
def Obligations.ClipsAreOpenedAndWritten : Prop :=
  (∀ (s : State) (tag id format rate : Byte) (length crc : Word16) (f : Format) (r b : Nat),
    s.takes (.openClip tag id format rate length crc) → 1 ≤ id.toNat → id.toNat ≤ 160 →
    formatOf format = some f → rateOf rate = some r → length.toNat ≠ 0 → (f = .s16 → length.toNat % 2 = 0) →
    s.clip id.toNat = none → s.cs.blocks.length = 384 → s.cs.directory.length = 160 →
    ((∀ i, i < (length.toNat + 1023) / 1024 → s.cs.blocks[b + i]? = some none) →
      (∀ d, d < b → ∃ i, i < (length.toNat + 1023) / 1024 ∧ s.cs.blocks[d + i]? ≠ some none) →
      ∃ t : State, exec (.openClip tag id format rate length crc) s =
          .next (t.replied (.openClip tag id format rate length crc) .ok
            [byte b, byte (b / 256), byte ((length.toNat + 1023) / 1024)]) ∧
        t.clip id.toNat = some ⟨.loading, f, r, length.toNat, b, (length.toNat + 1023) / 1024, crc, 0, 0, none⟩ ∧
        (∀ k, k ≠ id.toNat → t.clip k = s.clip k) ∧
        (∀ i, i < 384 → t.cs.blocks[i]? = if b ≤ i ∧ i < b + (length.toNat + 1023) / 1024
          then some (some id.toNat) else s.cs.blocks[i]?) ∧
        t.cs.bytes = s.cs.bytes ∧ t.cs.verify = s.cs.verify ∧
        { t with cs := s.cs } = s) ∧
    ((∀ d, ∃ i, i < (length.toNat + 1023) / 1024 ∧ s.cs.blocks[d + i]? ≠ some none) →
      exec (.openClip tag id format rate length crc) s =
        .next (s.replied (.openClip tag id format rate length crc) .noSpace []))) ∧
  (∀ (s : State) (tag id : Byte) (offset : Word16) (count : Byte) (bytes : List Byte) (c : Clip),
    s.takes (.clipData tag id offset count bytes) → 1 ≤ id.toNat → id.toNat ≤ 160 → 1 ≤ count.toNat →
    count.toNat ≤ 48 → s.clip id.toNat = some c → c.state = .loading → offset.toNat = c.fill →
    c.fill + count.toNat ≤ c.length → Memory.wf s.cs.bytes = true → s.cs.directory.length = 160 →
    ∃ t : State, exec (.clipData tag id offset count bytes) s =
        .next (t.replied (.clipData tag id offset count bytes) .ok
          [byte (c.fill + count.toNat), byte ((c.fill + count.toNat) / 256)]) ∧
      t.clip id.toNat = some { c with fill := c.fill + count.toNat } ∧
      (∀ k, k ≠ id.toNat → t.clip k = s.clip k) ∧
      (∀ i, i < count.toNat →
        Memory.read t.cs.bytes (c.firstBlock * 1024 + c.fill + i) = bytes.getD i 0) ∧
      (∀ a, a < c.firstBlock * 1024 + c.fill ∨ c.firstBlock * 1024 + c.fill + count.toNat ≤ a →
        Memory.read t.cs.bytes a = Memory.read s.cs.bytes a ∧
        Memory.read t.cs.parity a = Memory.read s.cs.parity a) ∧
      t.cs.blocks = s.cs.blocks ∧ t.cs.verify = s.cs.verify ∧ { t with cs := s.cs } = s)

/-- COMMIT_CLIP of a filled LOADING clip while the verify unit is FREE begins its verify and is answered ACCEPTED; it is
refused BUSY while the unit verifies (R175). DELETE_CLIP frees an unpinned clip's blocks and abandons its verify, and makes
a pinned one RETIRING (R178). -/
def Obligations.CommitAndDeleteClips : Prop :=
  ∀ (s : State) (tag id : Byte) (c : Clip), 1 ≤ id.toNat → id.toNat ≤ 160 → s.clip id.toNat = some c →
    (s.takes (.commitClip tag id) → c.state = .loading → c.fill = c.length → s.cs.verify = none →
      ∃ t : State, exec (.commitClip tag id) s = .next (t.replied (.commitClip tag id) .accepted []) ∧
        t.clip id.toNat = some { c with state := .verifying } ∧ (∀ k, k ≠ id.toNat → t.clip k = s.clip k) ∧
        t.cs.verify = some ⟨id.toNat, 0, 0xFFFF, 0⟩ ∧ t.cs.blocks = s.cs.blocks ∧ { t with cs := s.cs } = s) ∧
    (∀ v, s.takes (.commitClip tag id) → c.state = .loading → c.fill = c.length → s.cs.verify = some v →
      exec (.commitClip tag id) s = .next (s.replied (.commitClip tag id) .busy [])) ∧
    (s.takes (.deleteClip tag id) → c.state = .loading ∨ c.state = .verifying ∨ c.pins = 0 → c.state ≠ .retiring →
      ∃ t : State, exec (.deleteClip tag id) s = .next (t.replied (.deleteClip tag id) .ok [0]) ∧
        t.clip id.toNat = none ∧ (∀ k, k ≠ id.toNat → t.clip k = s.clip k) ∧
        (∀ i, i < s.cs.blocks.length → t.cs.blocks[i]? = if s.cs.blocks[i]? = some (some id.toNat) then some none
          else s.cs.blocks[i]?) ∧
        (∀ v, s.cs.verify = some v → t.cs.verify = if v.clip = id.toNat then none else some v) ∧
        t.cs.bytes = s.cs.bytes ∧ { t with cs := s.cs } = s) ∧
    (s.takes (.deleteClip tag id) → c.state = .ready ∨ c.state = .bad → 0 < c.pins →
      exec (.deleteClip tag id) s =
        .next ((s.setClip id.toNat (some { c with state := .retiring })).replied (.deleteClip tag id) .ok [5]))

/-- The verify's completion: the CRC of the clip's bytes against the declared one makes the clip READY, or BAD with cause
VERIFY_MISMATCH and the fault recorded with the computed CRC; either way the unit is FREE and CLIP_DONE is pending (R176,
R177). -/
def Obligations.VerifyCompletes : Prop :=
  ∀ (s : State) (v : Verify) (c : Clip) (crc : BitVec 16), s.resetHeld = false → s.cs.verify = some v →
    s.clip v.clip = some c → v.checked ≤ c.length →
    v.register = ((List.range v.checked).map (s.clipByte c)).foldl crcByte 0xFFFF#16 →
    crc = crc16 ((List.range c.length).map (s.clipByte c)) →
    (crc = c.crc → ∃ t : State, exec .verifyComplete s = .next t ∧ t.clip v.clip = some { c with state := .ready } ∧
      (∀ k, k ≠ v.clip → t.clip k = s.clip k) ∧ t.cs.verify = none ∧ t.fb = s.fb ∧
      t.au = { s.au with raised := s.au.raised ||| 128#16 } ∧ t.cs.blocks = s.cs.blocks ∧ t.se = s.se ∧ t.ae = s.ae) ∧
    (crc ≠ c.crc → ∃ t : State, exec .verifyComplete s = .next t ∧
      t.clip v.clip = some { c with state := .bad, badCause := some .verifyMismatch } ∧
      (∀ k, k ≠ v.clip → t.clip k = s.clip k) ∧ t.cs.verify = none ∧
      t.fb = (s.recordFault .verifyMismatch (.clip v.clip) crc.toNat none).fb ∧ t.isPending .clipDone = true ∧
      t.cs.blocks = s.cs.blocks ∧ t.se = s.se ∧ t.ae = s.ae)

/-! ### Fault banks, HOLD and LOCKDOWN -/

/-- What a bank holds after a fault: an empty bank takes it without overflow; a recoverable record gives way to a fault of
higher rank and else stays; a disruptive record stays; overflow is set whenever a record was held. The rank is 2 for a
DISRUPTIVE fault plus 1 for an enabled one, and the fault is enabled by its bank's mask as it arrives (R188). -/
def Obligations.BanksHoldFaultsByRank : Prop :=
  ∀ (s : State) (code : FaultCode) (context : FaultContext) (detail : Nat) (resumable : Option Bool)
    (enabled : Bool) (t : State), enabled = (s.fb.bank code.bank).mask.getLsbD code.number →
    t = s.recordFault code context detail resumable →
    ((s.fb.bank code.bank).held = none →
      (t.fb.bank code.bank).held = some ⟨false, code, enabled, context, detail, resumable⟩) ∧
    (∀ old, (s.fb.bank code.bank).held = some old → old.code.disruptive = false →
      2 * bit old.code.disruptive + bit old.enabled < 2 * bit code.disruptive + bit enabled →
      (t.fb.bank code.bank).held = some ⟨true, code, enabled, context, detail, resumable⟩) ∧
    (∀ old, (s.fb.bank code.bank).held = some old → old.code.disruptive = false →
      2 * bit code.disruptive + bit enabled ≤ 2 * bit old.code.disruptive + bit old.enabled →
      (t.fb.bank code.bank).held = some { old with overflow := true }) ∧
    (∀ old, (s.fb.bank code.bank).held = some old → old.code.disruptive = true →
      (t.fb.bank code.bank).held = some { old with overflow := true }) ∧
    ∀ b, b ≠ code.bank → t.fb.bank b = s.fb.bank b

/-- An arriving fault changes the part condition only if it is DISRUPTIVE and enabled: from NORMAL to HOLD and from HOLD to
LOCKDOWN, with the entry outstanding; an enabled fault raises cause FAULT (R190, R194, R195, R197). -/
def Obligations.DisruptiveFaultsEscalate : Prop :=
  ∀ (s : State) (code : FaultCode) (context : FaultContext) (detail : Nat) (resumable : Option Bool) (t : State),
    t = s.recordFault code context detail resumable →
    (code.disruptive = true ↔ code = .converterTimeout ∨ code = .clipParity ∨ code = .tableParity) ∧
    (code.disruptive = true → s.faultEnabled code = true →
      (s.fb.condition = .normal → t.fb.condition = .hold ∧ t.fb.holdDue = true ∧ t.fb.lockdownDue = s.fb.lockdownDue) ∧
      (s.fb.condition = .hold → t.fb.condition = .lockdown ∧ t.fb.lockdownDue = true ∧ t.fb.holdDue = s.fb.holdDue) ∧
      (s.fb.condition = .lockdown → t.fb.condition = .lockdown)) ∧
    (code.disruptive = false ∨ s.faultEnabled code = false → t.fb.condition = s.fb.condition ∧
      t.fb.holdDue = s.fb.holdDue ∧ t.fb.lockdownDue = s.fb.lockdownDue) ∧
    (s.faultEnabled code = true → t.au = { s.au with raised := s.au.raised ||| 512#16 }) ∧
    (s.faultEnabled code = false → t.au = s.au) ∧ { t with fb := s.fb, au := s.au } = s

/-- CLEAR_FAULT empties a bank and SET_FAULT_ENABLE replaces its mask by a set of its own codes; both leave the other banks,
the part condition and everything else (R189, R193). A bank's own codes are those the table of R187 gives it. -/
def Obligations.FaultRequestsChangeOneBank : Prop :=
  ∀ (s : State) (tag bank : Byte) (b : Bank) (codes : Word16), bankOf bank = some b →
    (s.takes (.clearFault tag bank) → exec (.clearFault tag bank) s =
      .next (({ s with fb := s.fb.setBank b { s.fb.bank b with held := none } }).replied
        (.clearFault tag bank) .ok [])) ∧
    (s.takes (.setFaultEnable tag bank codes) → codes &&& bankCodes b = codes →
      exec (.setFaultEnable tag bank codes) s =
        .next (({ s with fb := s.fb.setBank b { s.fb.bank b with mask := codes } }).replied
          (.setFaultEnable tag bank codes) .ok [])) ∧
    (s.takes (.setFaultEnable tag bank codes) → codes &&& bankCodes b ≠ codes →
      exec (.setFaultEnable tag bank codes) s = .next (s.replied (.setFaultEnable tag bank codes) .badField [])) ∧
    (∀ k v, (s.fb.setBank b v).bank b = v ∧ (k ≠ b → (s.fb.setBank b v).bank k = s.fb.bank k)) ∧
    (∀ n, (bankCodes b).getLsbD n = true ↔ n ∈ (match b with
      | .link => [1, 2, 3]
      | .scan => [4, 5, 6, 7, 8]
      | .audio => [9, 10]
      | .lesson => [11, 12])) ∧
    ∀ n, (bankCodes b).getLsbD n = true ↔ ∃ code : FaultCode, code.bank = b ∧ code.number = n

/-- The hold entry, when one is outstanding: solo contexts at work or in FEEDBACK are PAUSED with cause HOLD, and so are the
contexts of a running duel, in FEEDBACK if their record is not built, with DC's handle dropped; every utterance but
announcements is cancelled, and an announcement plays on or waits on (R54, R91, R161, R195). Without one nothing happens,
the model's choice (notes/assumptions/5). The lockdown entry: the scan generator stops, every utterance is cancelled and
the lessons are frozen as they stand (R197). CLEAR_HOLD in HOLD with nothing paused by it returns the part to NORMAL and
withdraws an outstanding hold entry; with a solo context paused on a readable target it prompts the word again; outside
HOLD it is refused WRONG_STATE (R55, R196). A running duel resumes: an open round is prompted again, a held presentation
presents, a settled round goes to its close (with no context paused by HOLD, the model's reading, notes/assumptions/21),
and a round target that fails its parity check ends both attempts ABANDONED and its fault holds the next presentation back
(R92). -/
def Obligations.HoldIsEnteredAndCleared : Prop :=
  (∀ s : State, s.resetHeld = false →
    (s.fb.holdDue = false → exec .holdEntry s = .next s) ∧
    (s.fb.holdDue = true → s.fb.frozen = false →
      ∃ t : State, exec .holdEntry s = .next t ∧ t.fb = { s.fb with holdDue := false } ∧
        (∀ x, t.ctx x =
          if ((s.ctx x).mode = .solo ∧
              ((s.ctx x).state = .prompting ∨ (s.ctx x).state = .typing ∨ (s.ctx x).state = .feedback)) ∨
            (s.duelRuns = true ∧ ((s.ctx x).state = .prompting ∨ (s.ctx x).state = .typing ∨
              (s.ctx x).state = .feedback ∧ (s.round x).record = .notBuilt))
          then { s.ctx x with state := .paused, pauseCause := some .hold, firm := none, idleRunning := false }
          else s.ctx x) ∧
        t.dc = (if s.duelRuns = true then { s.dc with firm := none } else s.dc) ∧
        (∀ u ∈ t.allPlaying ++ t.allWaiting, u.requester = .announce) ∧
        (∀ v p, s.voice v = some p → p.utterance.requester = .announce → t.voice v = some p) ∧
        ((∀ u ∈ s.allPlaying ++ s.allWaiting, u.requester ≠ .announce) → t.speechQuiet) ∧
        (s.pinLaw → (∀ u ∈ s.allWaiting, u.requester = .announce → ∀ id ∈ u.clips, s.clipBad id = false) →
          ∀ u ∈ s.allWaiting, u.requester = .announce → u ∈ t.allPlaying ++ t.allWaiting) ∧
        t.rl = s.rl ∧ t.ps = s.ps ∧ t.wt = s.wt ∧ t.ks = s.ks ∧ t.fixed = s.fixed) ∧
    (s.fb.lockdownDue = false → exec .lockdownEntry s = .next s) ∧
    (s.fb.lockdownDue = true → ∃ t : State, exec .lockdownEntry s = .next t ∧
      t.tb = { s.tb with generator := .stopped } ∧ t.speechQuiet ∧
      t.fb = { s.fb with holdDue := false, lockdownDue := false, frozen := true } ∧
      t.ae = s.ae ∧ t.dc = s.dc ∧ t.rl = s.rl ∧ t.ps = s.ps ∧ t.wt = s.wt ∧ t.ks = s.ks ∧ t.lp = s.lp)) ∧
  (∀ (s : State) (tag : Byte), s.takes (.clearHold tag) → s.fb.frozen = false → s.duelRuns = false →
    (s.fb.condition ≠ .hold → exec (.clearHold tag) s = .next (s.replied (.clearHold tag) .wrongState [])) ∧
    (s.fb.condition = .hold → (∀ x, (s.ctx x).state ≠ .paused ∨ (s.ctx x).pauseCause ≠ some .hold) →
      exec (.clearHold tag) s = .next (({ s with fb := { s.fb with condition := .normal, holdDue := false } }).replied
        (.clearHold tag) .ok [0])) ∧
    (∀ x n e k, s.fb.condition = .hold → (s.ctx x).mode = .solo → (s.ctx x).state = .paused →
      (s.ctx x).pauseCause = some .hold →
      (s.ctx x.other).state ≠ .paused ∨ (s.ctx x.other).pauseCause ≠ some .hold →
      (s.ctx x).target = some n → (s.ctx x).copy = some k → s.slot n = .occupied e true →
      s.clipReady k.wordClip = true → s.speechQuiet → (s.seat x).keys = [] →
      ∃ (t : State) (h : Nat), exec (.clearHold tag) s = .next (t.replied (.clearHold tag) .ok [0]) ∧
        t.ctx x = { s.ctx x with state := .prompting, pauseCause := none, firm := some h, idleRunning := false } ∧
        t.fb = { s.fb with condition := .normal, holdDue := false } ∧
        t.se.v0 = some ⟨⟨h, .seat x, .prompt, s.seatRoute x, [k.wordClip]⟩, 0, 0, 0⟩ ∧
        t.ctx x.other = s.ctx x.other ∧ t.ps = s.ps ∧ t.wt = s.wt ∧ t.dc = s.dc ∧ t.rl = s.rl)) ∧
  ∀ (s : State) (tag : Byte), s.takes (.clearHold tag) → s.fb.frozen = false → s.fb.condition = .hold →
    (∀ x, (s.ctx x).mode = .duel ∧ (s.seat x).keys = []) → s.speechQuiet → s.cfg.refillMark = 0 →
    (∀ n e k, s.dc.state = .presenting ∨ s.dc.state = .racing → s.dc.target = some n → s.dc.copy = some k →
      s.slot n = .occupied e true → s.clipReady k.wordClip = true →
      (∃ y, (s.ctx y).state = .paused ∧ (s.ctx y).pauseCause = some .hold) →
      ∃ (t : State) (h : Nat), exec (.clearHold tag) s = .next (t.replied (.clearHold tag) .ok [0]) ∧
        t.fb = { s.fb with condition := .normal, holdDue := false } ∧
        t.dc = { s.dc with state := .presenting, firm := some h } ∧
        (∀ x, t.ctx x = if (s.round x).status = some .typing
          then { s.ctx x with state := .prompting, pauseCause := none, idleRunning := false }
          else { s.ctx x with state := .feedback, pauseCause := none, idleRunning := false, firm := none }) ∧
        t.se.v0 = some ⟨⟨h, .duel, .prompt, s.seatRoute .a ||| s.seatRoute .b, [k.wordClip]⟩, 0, 0, 0⟩ ∧
        t.se.v1 = none ∧ t.allWaiting = [] ∧ t.ps = s.ps ∧ t.wt = s.wt ∧ t.rl = s.rl ∧ t.fixed = s.fixed) ∧
    (∀ n rest e, s.dc.state = .presenting → s.dc.target = none →
      (∃ y, (s.ctx y).state = .paused ∧ (s.ctx y).pauseCause = some .hold) → s.ps.duel = n :: rest →
      s.slot n = .occupied e true → s.clipReady e.wordClip = true →
      ∃ t : State, exec (.clearHold tag) s = .next (t.replied (.clearHold tag) .ok [0]) ∧
        t.presents s n rest e ∧ t.rl = s.rl ∧ t.fb = { s.fb with condition := .normal, holdDue := false } ∧
        t.fixed = s.fixed) ∧
    (s.dc.state = .settling → (∀ x, (s.round x).record = .notBuilt) → s.dc.firm = none → s.rl.records.length ≤ 30 →
      s.dc.round = s.dc.total →
      ∃ t : State, exec (.clearHold tag) s = .next (t.replied (.clearHold tag) .ok [0]) ∧ t.hasRecordsOf s ∧
        t.dc.state = .finished ∧ t.dc.finish = some .rounds ∧ (∀ x, (t.ctx x).state = .idle ∧ (t.ctx x).mode = .off) ∧
        t.fb = { s.fb with condition := .normal, holdDue := false } ∧ t.speechQuiet ∧ t.fixed = s.fixed) ∧
    (∀ n e, s.roundOpen → s.dc.target = some n → s.slot n = .occupied e false →
      (∃ y, (s.ctx y).state = .paused ∧ (s.ctx y).pauseCause = some .hold) → s.dc.round ≠ s.dc.total →
      s.faultEnabled .tableParity = true →
      ∃ (t : State) (ra rb : ResultRecord), exec (.clearHold tag) s = .next (t.replied (.clearHold tag) .ok [1]) ∧
        t.slot n = .damaged ∧ t.fb.condition = .hold ∧ t.rl.records = s.rl.records ++ [ra, rb] ∧
        ra.outcome = .abandoned ∧ rb.outcome = .abandoned ∧ t.dc.state = .presenting ∧ t.dc.target = none ∧
        t.dc.round = s.dc.round ∧ t.dc.result = some .abandoned ∧ t.ps = s.ps ∧
        (∀ x, (t.ctx x).state = .paused ∧ (t.ctx x).pauseCause = some .hold ∧ (t.ctx x).target = none) ∧
        t.speechQuiet ∧ t.fixed = s.fixed)

/-- LOCKDOWN is left by nothing but RESTART FULL and power-on: a command that leaves it is one of these, or a byte that
completes the frame of RESTART FULL (R194, R198). -/
def Obligations.LockdownIsLeftByResetsOnly : Prop :=
  ∀ (c : Instr) (s t : State), s.fb.condition = .lockdown → exec c s = .next t → ¬ s.resets c →
    t.fb.condition = .lockdown

/-- After the lockdown entry the contexts, the duel record, the log, the words and the word queues stand as they are, but
for RESTART FULL and power-on (R56, R93, R197). -/
def Obligations.FrozenLessonsStand : Prop :=
  ∀ (c : Instr) (s t : State), s.fb.condition = .lockdown → s.fb.frozen = true → exec c s = .next t → ¬ s.resets c →
    t.fb.frozen = true ∧ t.ae = s.ae ∧ t.dc = s.dc ∧ t.rl = s.rl ∧ t.wt = s.wt ∧ t.ps = s.ps

/-! ### Laws that every step keeps -/

/-- Every step keeps the law of the link. -/
def Obligations.StepKeepsLinkLaw : Prop :=
  ∀ s t : State, s.linkLaw → step s = .next t → t.linkLaw

/-- Every step keeps the law of the clip bytes. -/
def Obligations.StepKeepsMemoryLaw : Prop :=
  ∀ s t : State, s.memoryLaw → step s = .next t → t.memoryLaw

/-- Every step keeps the law of the block map. -/
def Obligations.StepKeepsBlockLaw : Prop :=
  ∀ s t : State, s.blockLaw → step s = .next t → t.blockLaw

/-- Every step keeps the law of the pins. -/
def Obligations.StepKeepsPinLaw : Prop :=
  ∀ s t : State, s.pinLaw → step s = .next t → t.pinLaw

/-- Every step keeps the law of speech. -/
def Obligations.StepKeepsSpeechLaw : Prop :=
  ∀ s t : State, s.speechLaw → step s = .next t → t.speechLaw

/-- Every step keeps the law of the Word Table. -/
def Obligations.StepKeepsWordLaw : Prop :=
  ∀ s t : State, s.wordLaw → step s = .next t → t.wordLaw

/-- Every step keeps the law of the Result Log. -/
def Obligations.StepKeepsLogLaw : Prop :=
  ∀ s t : State, s.logLaw → step s = .next t → t.logLaw

/-- Every step keeps the law of the seats. -/
def Obligations.StepKeepsSeatLaw : Prop :=
  ∀ s t : State, s.seatLaw → step s = .next t → t.seatLaw

/-- Every step keeps the law of the part condition. -/
def Obligations.StepKeepsConditionLaw : Prop :=
  ∀ s t : State, s.conditionLaw → step s = .next t → t.conditionLaw

/-- The part right after reset is under all nine laws. -/
def Obligations.LawsHoldAtReset : Prop :=
  State.reset.linkLaw ∧ State.reset.memoryLaw ∧ State.reset.blockLaw ∧ State.reset.pinLaw ∧ State.reset.speechLaw ∧
  State.reset.wordLaw ∧ State.reset.logLaw ∧ State.reset.seatLaw ∧ State.reset.conditionLaw
end

