-- ==== Sys2Proof/Laws/State.lean ====
section
/-! SUPPORT. What reading a piece of State gives after an update of it or of another piece: the accessors by seat, by
slot and by clip id, and the fields that each accessor's update leaves as they are. -/

namespace Sys2Proof.Machine

/-! ### Pairs -/

@[simp] theorem Pair.get_set_self (p : Pair α) (x : Seat) (v : α) : (p.set x v).get x = v := by
  cases x <;> rfl

@[simp] theorem Pair.get_set_other (p : Pair α) (x : Seat) (v : α) : (p.set x v).get x.other = p.get x.other := by
  cases x <;> rfl

theorem Pair.get_set (p : Pair α) (x y : Seat) (v : α) : (p.set x v).get y = if y = x then v else p.get y := by
  cases x <;> cases y <;> rfl

@[simp] theorem Pair.get_a (p : Pair α) : p.get .a = p.a := rfl
@[simp] theorem Pair.get_b (p : Pair α) : p.get .b = p.b := rfl
@[simp] theorem Pair.set_a (p : Pair α) (v : α) : p.set .a v = ⟨v, p.b⟩ := rfl
@[simp] theorem Pair.set_b (p : Pair α) (v : α) : p.set .b v = ⟨p.a, v⟩ := rfl

@[simp] theorem Pair.set_get (p : Pair α) (x : Seat) : p.set x (p.get x) = p := by
  cases x <;> rfl

/-! ### Attempt contexts -/

@[simp] theorem State.ctx_setCtx_self (s : State) (x : Seat) (c : Context) : (s.setCtx x c).ctx x = c := by
  cases x <;> rfl

@[simp] theorem State.ctx_setCtx_other (s : State) (x : Seat) (c : Context) :
    (s.setCtx x c).ctx x.other = s.ctx x.other := by
  cases x <;> rfl

theorem State.ctx_setCtx (s : State) (x y : Seat) (c : Context) :
    (s.setCtx x c).ctx y = if y = x then c else s.ctx y := by
  cases x <;> cases y <;> rfl

@[simp] theorem State.setCtx_resetHeld (s : State) (x : Seat) (c : Context) :
    (s.setCtx x c).resetHeld = s.resetHeld := rfl
@[simp] theorem State.setCtx_lp (s : State) (x : Seat) (c : Context) : (s.setCtx x c).lp = s.lp := rfl
@[simp] theorem State.setCtx_cfg (s : State) (x : Seat) (c : Context) : (s.setCtx x c).cfg = s.cfg := rfl
@[simp] theorem State.setCtx_tb (s : State) (x : Seat) (c : Context) : (s.setCtx x c).tb = s.tb := rfl
@[simp] theorem State.setCtx_ks (s : State) (x : Seat) (c : Context) : (s.setCtx x c).ks = s.ks := rfl
@[simp] theorem State.setCtx_wt (s : State) (x : Seat) (c : Context) : (s.setCtx x c).wt = s.wt := rfl
@[simp] theorem State.setCtx_ps (s : State) (x : Seat) (c : Context) : (s.setCtx x c).ps = s.ps := rfl
@[simp] theorem State.setCtx_dc (s : State) (x : Seat) (c : Context) : (s.setCtx x c).dc = s.dc := rfl
@[simp] theorem State.setCtx_rl (s : State) (x : Seat) (c : Context) : (s.setCtx x c).rl = s.rl := rfl
@[simp] theorem State.setCtx_au (s : State) (x : Seat) (c : Context) : (s.setCtx x c).au = s.au := rfl
@[simp] theorem State.setCtx_se (s : State) (x : Seat) (c : Context) : (s.setCtx x c).se = s.se := rfl
@[simp] theorem State.setCtx_cs (s : State) (x : Seat) (c : Context) : (s.setCtx x c).cs = s.cs := rfl
@[simp] theorem State.setCtx_fb (s : State) (x : Seat) (c : Context) : (s.setCtx x c).fb = s.fb := rfl
@[simp] theorem State.setCtx_pending (s : State) (x : Seat) (c : Context) : (s.setCtx x c).pending = s.pending := rfl

/-! ### Seat records -/

@[simp] theorem State.seat_setSeat_self (s : State) (x : Seat) (r : SeatRecord) : (s.setSeat x r).seat x = r := by
  cases x <;> rfl

@[simp] theorem State.seat_setSeat_other (s : State) (x : Seat) (r : SeatRecord) :
    (s.setSeat x r).seat x.other = s.seat x.other := by
  cases x <;> rfl

theorem State.seat_setSeat (s : State) (x y : Seat) (r : SeatRecord) :
    (s.setSeat x r).seat y = if y = x then r else s.seat y := by
  cases x <;> cases y <;> rfl

@[simp] theorem State.setSeat_resetHeld (s : State) (x : Seat) (r : SeatRecord) :
    (s.setSeat x r).resetHeld = s.resetHeld := rfl
@[simp] theorem State.setSeat_lp (s : State) (x : Seat) (r : SeatRecord) : (s.setSeat x r).lp = s.lp := rfl
@[simp] theorem State.setSeat_cfg (s : State) (x : Seat) (r : SeatRecord) : (s.setSeat x r).cfg = s.cfg := rfl
@[simp] theorem State.setSeat_tb (s : State) (x : Seat) (r : SeatRecord) : (s.setSeat x r).tb = s.tb := rfl
@[simp] theorem State.setSeat_wt (s : State) (x : Seat) (r : SeatRecord) : (s.setSeat x r).wt = s.wt := rfl
@[simp] theorem State.setSeat_ps (s : State) (x : Seat) (r : SeatRecord) : (s.setSeat x r).ps = s.ps := rfl
@[simp] theorem State.setSeat_ae (s : State) (x : Seat) (r : SeatRecord) : (s.setSeat x r).ae = s.ae := rfl
@[simp] theorem State.setSeat_dc (s : State) (x : Seat) (r : SeatRecord) : (s.setSeat x r).dc = s.dc := rfl
@[simp] theorem State.setSeat_rl (s : State) (x : Seat) (r : SeatRecord) : (s.setSeat x r).rl = s.rl := rfl
@[simp] theorem State.setSeat_au (s : State) (x : Seat) (r : SeatRecord) : (s.setSeat x r).au = s.au := rfl
@[simp] theorem State.setSeat_se (s : State) (x : Seat) (r : SeatRecord) : (s.setSeat x r).se = s.se := rfl
@[simp] theorem State.setSeat_cs (s : State) (x : Seat) (r : SeatRecord) : (s.setSeat x r).cs = s.cs := rfl
@[simp] theorem State.setSeat_fb (s : State) (x : Seat) (r : SeatRecord) : (s.setSeat x r).fb = s.fb := rfl
@[simp] theorem State.setSeat_map0 (s : State) (x : Seat) (r : SeatRecord) :
    (s.setSeat x r).ks.map0 = s.ks.map0 := rfl
@[simp] theorem State.setSeat_map1 (s : State) (x : Seat) (r : SeatRecord) :
    (s.setSeat x r).ks.map1 = s.ks.map1 := rfl
@[simp] theorem State.setSeat_scan (s : State) (x : Seat) (r : SeatRecord) :
    (s.setSeat x r).ks.scan = s.ks.scan := rfl
@[simp] theorem State.setSeat_pending (s : State) (x : Seat) (r : SeatRecord) :
    (s.setSeat x r).pending = s.pending := rfl

/-! ### The duel record's seats -/

@[simp] theorem State.round_setRound_self (s : State) (x : Seat) (r : SeatRound) : (s.setRound x r).round x = r := by
  cases x <;> rfl

@[simp] theorem State.round_setRound_other (s : State) (x : Seat) (r : SeatRound) :
    (s.setRound x r).round x.other = s.round x.other := by
  cases x <;> rfl

@[simp] theorem State.ctx_setRound (s : State) (x y : Seat) (r : SeatRound) : (s.setRound x r).ctx y = s.ctx y := rfl
@[simp] theorem State.round_setCtx (s : State) (x y : Seat) (c : Context) : (s.setCtx x c).round y = s.round y := rfl
@[simp] theorem State.ctx_setSeat (s : State) (x y : Seat) (r : SeatRecord) : (s.setSeat x r).ctx y = s.ctx y := rfl
@[simp] theorem State.seat_setCtx (s : State) (x y : Seat) (c : Context) : (s.setCtx x c).seat y = s.seat y := rfl
@[simp] theorem State.seat_setRound (s : State) (x y : Seat) (r : SeatRound) :
    (s.setRound x r).seat y = s.seat y := rfl

/-! ### Word slots -/

theorem State.slot_setSlot_self (s : State) (n : Nat) (v : Slot) (h : n < s.wt.length) :
    (s.setSlot n v).slot n = v := by
  simp [State.slot, State.setSlot, h]

theorem State.slot_setSlot_ne (s : State) (n m : Nat) (v : Slot) (h : m ≠ n) :
    (s.setSlot n v).slot m = s.slot m := by
  simp [State.slot, State.setSlot, Ne.symm h]

@[simp] theorem State.ctx_setSlot (s : State) (x : Seat) (n : Nat) (v : Slot) : (s.setSlot n v).ctx x = s.ctx x := rfl

@[simp] theorem State.wt_length_setSlot (s : State) (n : Nat) (v : Slot) :
    (s.setSlot n v).wt.length = s.wt.length := by
  simp [State.setSlot]

/-! ### Clips -/

theorem State.clip_setClip_self (s : State) (id : Nat) (c : Option Clip) (h0 : id ≠ 0)
    (h : id ≤ s.cs.directory.length) : (s.setClip id c).clip id = c := by
  cases id with
  | zero => exact absurd rfl h0
  | succ k => simp [State.clip, State.setClip, Nat.lt_of_succ_le h]

theorem State.clip_setClip_ne (s : State) (id k : Nat) (c : Option Clip) (h : k ≠ id) :
    (s.setClip id c).clip k = s.clip k := by
  cases id with
  | zero => rfl
  | succ j =>
    cases k with
    | zero => rfl
    | succ i =>
      have : j ≠ i := fun e => h (by rw [e])
      simp [State.clip, State.setClip, this]

@[simp] theorem State.ctx_setClip (s : State) (x : Seat) (id : Nat) (c : Option Clip) :
    (s.setClip id c).ctx x = s.ctx x := by
  cases id <;> rfl

end Sys2Proof.Machine
end

