-- ==== Sys2Proof/Laws/Frame.lean ====
section
/-! SUPPORT. What a cascade of AE, DC, RL and SE never changes, whatever it leads to: the link, the configuration, the
Timebase, the seats but for their key queues, the key maps and the scan, the clip bytes, parity marks and verify unit,
the attention enable set, the fault masks, the routes, volumes and tables, and the commands that wait. One lemma for
each operation, so that a proof about a cascade cites the last one. -/

namespace Sys2Proof.Machine

/-! ### Updates of single pieces -/

@[simp] theorem State.fixed_setCtx (s : State) (x : Seat) (c : Context) : (s.setCtx x c).fixed = s.fixed := rfl
@[simp] theorem State.fixed_setRound (s : State) (x : Seat) (r : SeatRound) : (s.setRound x r).fixed = s.fixed := rfl
@[simp] theorem State.fixed_ae (s : State) (v : Pair Context) : ({ s with ae := v }).fixed = s.fixed := rfl
@[simp] theorem State.fixed_dc (s : State) (v : DuelRecord) : ({ s with dc := v }).fixed = s.fixed := rfl
@[simp] theorem State.fixed_ae_dc (s : State) (v : Pair Context) (w : DuelRecord) :
    ({ s with ae := v, dc := w }).fixed = s.fixed := rfl
@[simp] theorem State.fixed_rl (s : State) (v : ResultLog) : ({ s with rl := v }).fixed = s.fixed := rfl
@[simp] theorem State.fixed_ps (s : State) (v : WordQueues) : ({ s with ps := v }).fixed = s.fixed := rfl
@[simp] theorem State.fixed_raise (s : State) (c : Cause) : (s.raise c).fixed = s.fixed := rfl

@[simp] theorem State.fixed_setSlot (s : State) (n : Nat) (v : Slot) : (s.setSlot n v).fixed = s.fixed := by
  simp [State.fixed, State.setSlot]

@[simp] theorem State.fixed_setClip (s : State) (id : Nat) (c : Option Clip) : (s.setClip id c).fixed = s.fixed := by
  cases id <;> simp [State.fixed, State.setClip]

@[simp] theorem State.fixed_setVoice (s : State) (v : Voice) (p : Option Playing) :
    (s.setVoice v p).fixed = s.fixed := by
  cases v <;> rfl

@[simp] theorem State.fixed_setSpeechQueue (s : State) (r : Requester) (q : List Utterance) :
    (s.setSpeechQueue r q).fixed = s.fixed := by
  cases r <;> rfl

@[simp] theorem State.fixed_setWordQueue (s : State) (q : WordQueue) (l : List Nat) :
    (s.setWordQueue q l).fixed = s.fixed := by
  cases q <;> rfl

@[simp] theorem State.fixed_noteAnnouncement (s : State) (h : Nat) (st : EndStatus) :
    (s.noteAnnouncement h st).fixed = s.fixed := rfl

/-! ### Faults -/

@[simp] theorem State.fixed_recordFault (s : State) (c : FaultCode) (k : FaultContext) (d : Nat) (r : Option Bool) :
    (s.recordFault c k d r).fixed = s.fixed := by
  unfold State.recordFault FaultBanks.escalate
  cases c <;> (simp only []; repeat' split) <;> rfl

/-! ### Words -/

@[simp] theorem State.fixed_readTarget (s : State) (n : Nat) (r : Bool) : (s.readTarget n r).1.fixed = s.fixed := by
  unfold State.readTarget
  split <;> simp

@[simp] theorem State.fixed_updateRests (s : State) (n : Nat) (o : Owner) : (s.updateRests n o).fixed = s.fixed := by
  simp [State.fixed, State.updateRests]

@[simp] theorem State.fixed_applyProgress (s : State) (n : Nat) (u : ProgressUpdate) :
    (s.applyProgress n u).fixed = s.fixed := by
  unfold State.applyProgress
  split <;> simp

@[simp] theorem State.fixed_applyUpdate (s : State) (n : Nat) (u : Option ProgressUpdate) :
    (s.applyUpdate n u).fixed = s.fixed := by
  cases u <;> simp [State.applyUpdate]

@[simp] theorem State.fixed_draw (q : WordQueue) (limit : Nat) : ∀ (k : Nat) (s : State),
    (State.draw q limit k s).fixed = s.fixed
  | 0, _ => rfl
  | k + 1, s => by
    unfold State.draw
    split
    · split
      · rw [State.fixed_draw q limit k]; simp
      · rfl
    · rfl

@[simp] theorem State.fixed_refillSeat (s : State) (x : Seat) : (s.refillSeat x).fixed = s.fixed := by
  unfold State.refillSeat
  split <;> simp

@[simp] theorem State.fixed_refillDuel (s : State) : s.refillDuel.fixed = s.fixed := by
  unfold State.refillDuel
  split <;> simp

@[simp] theorem State.fixed_reinsert (s : State) (q : WordQueue) (n : Nat) (r : Reinsert) :
    (s.reinsert q n r).fixed = s.fixed := by
  unfold State.reinsert
  split <;> simp

/-! ### The log -/

@[simp] theorem State.fixed_evaluateThreshold (s : State) : s.evaluateThreshold.fixed = s.fixed := by
  unfold State.evaluateThreshold
  simp only []
  split <;> simp

@[simp] theorem State.fixed_appendRecord (s : State) (r : ResultRecord) : (s.appendRecord r).fixed = s.fixed := by
  unfold State.appendRecord
  simp only []
  split <;> simp

@[simp] theorem State.fixed_waitForLog (s : State) (x : Seat) (r : ResultRecord) :
    (s.waitForLog x r).fixed = s.fixed := rfl

@[simp] theorem State.fixed_appendWaiting (s : State) : s.appendWaiting.1.fixed = s.fixed := by
  unfold State.appendWaiting
  repeat' split
  all_goals simp

@[simp] theorem State.fixed_appendAllWaiting (s : State) : s.appendAllWaiting.1.fixed = s.fixed := by
  unfold State.appendAllWaiting
  split
  · rename_i s1 h
    have := State.fixed_appendWaiting s
    rw [h] at this
    exact this
  · rename_i s1 x h
    have h1 := State.fixed_appendWaiting s
    rw [h] at h1
    split
    · rename_i s2 h'
      have h2 := State.fixed_appendWaiting s1
      rw [h'] at h2
      exact h2.trans h1
    · rename_i s2 y h'
      have h2 := State.fixed_appendWaiting s1
      rw [h'] at h2
      exact h2.trans h1

/-! ### Clips and speech -/

@[simp] theorem State.fixed_dropClip (s : State) (id : Nat) : (s.dropClip id).fixed = s.fixed := by
  cases id <;> simp [State.dropClip, State.fixed, State.setClip, freeBlocks]

@[simp] theorem State.fixed_pin (s : State) (id : Nat) : (s.pin id).fixed = s.fixed := by
  unfold State.pin
  split <;> simp

@[simp] theorem State.fixed_unpin (s : State) (id : Nat) : (s.unpin id).fixed = s.fixed := by
  unfold State.unpin
  repeat' split
  all_goals simp

@[simp] theorem State.fixed_pinAll : ∀ (cs : List Nat) (s : State), (s.pinAll cs).fixed = s.fixed
  | [], _ => rfl
  | c :: cs, s => (State.fixed_pinAll cs (s.pin c)).trans (State.fixed_pin s c)

@[simp] theorem State.fixed_unpinAll : ∀ (cs : List Nat) (s : State), (s.unpinAll cs).fixed = s.fixed
  | [], _ => rfl
  | c :: cs, s => (State.fixed_unpinAll cs (s.unpin c)).trans (State.fixed_unpin s c)

@[simp] theorem State.fixed_enqueue (s : State) (r : Requester) (cls : SpeechClass) (route : BitVec 3)
    (clips : List Nat) : (s.enqueue r cls route clips).2.fixed = s.fixed := by
  have h : (s.enqueue r cls route clips).2.fixed =
      ((s.pinAll clips).setSpeechQueue r ((s.pinAll clips).speechQueue r ++
        [{ handle := s.freeHandle, requester := r, cls := cls, route := route, clips := clips }])).fixed := rfl
  rw [h]; simp

theorem State.fixed_makeRoom (s s' : State) (x : Seat) (cls : SpeechClass) (h : s.makeRoom x cls = some s') :
    s'.fixed = s.fixed := by
  unfold State.makeRoom at h
  simp only [] at h
  split at h
  · cases h
  · split at h
    · cases h; simp
    · cases h; rfl

theorem State.fixed_acceptSeat (s s' : State) (x : Seat) (cls : SpeechClass) (clips : List Nat) (k : Nat)
    (h : s.acceptSeat x cls clips = some (k, s')) : s'.fixed = s.fixed := by
  unfold State.acceptSeat at h
  split at h
  · split at h
    · rename_i s1 hr
      cases h
      exact (State.fixed_enqueue s1 _ _ _ _).trans (State.fixed_makeRoom s s1 x cls hr)
    · cases h
  · cases h

theorem State.fixed_acceptDuel (s s' : State) (cls : SpeechClass) (clips : List Nat) (k : Nat)
    (h : s.acceptDuel cls clips = some (k, s')) : s'.fixed = s.fixed := by
  unfold State.acceptDuel at h
  split at h
  · cases h; exact State.fixed_enqueue s _ _ _ _
  · cases h

@[simp] theorem State.fixed_startUtterance (s : State) (v : Voice) (u : Utterance) :
    (s.startUtterance v u).fixed = s.fixed := by
  have h1 := State.fixed_setSpeechQueue s u.requester ((s.speechQueue u.requester).drop 1)
  have h2 := State.fixed_setVoice (s.setSpeechQueue u.requester ((s.speechQueue u.requester).drop 1)) v
    (some { utterance := u, index := 0, sample := 0, phase := 0 })
  unfold State.startUtterance
  simp only []
  split
  · exact h2.trans h1
  · exact h2.trans h1

@[simp] theorem State.fixed_freeVoice (s : State) (v : Voice) : (s.freeVoice v).fixed = s.fixed := by
  unfold State.freeVoice
  split <;> simp

@[simp] theorem State.fixed_cancel (s : State) (p : Utterance → Bool) : (s.cancel p).fixed = s.fixed := by
  unfold State.cancel
  simp only []
  split
  · rw [State.fixed_noteAnnouncement, State.fixed_unpinAll]; rfl
  · rw [State.fixed_unpinAll]; rfl

@[simp] theorem State.fixed_cancelSeat (s : State) (x : Seat) : (s.cancelSeat x).fixed = s.fixed :=
  State.fixed_cancel s _

@[simp] theorem State.fixed_cancelHandle (s : State) (h : Option Nat) : (s.cancelHandle h).fixed = s.fixed := by
  cases h <;> simp [State.cancelHandle]

@[simp] theorem State.fixed_cancelLessons (s : State) : s.cancelLessons.fixed = s.fixed := State.fixed_cancel s _
@[simp] theorem State.fixed_cancelAll (s : State) : s.cancelAll.fixed = s.fixed := State.fixed_cancel s _

/-! ### The Attempt Engine -/

@[simp] theorem State.fixed_completePrompt (s : State) (x : Seat) : (s.completePrompt x).fixed = s.fixed := by
  unfold State.completePrompt
  simp only []
  split <;> simp

@[simp] theorem State.fixed_bargeIn (s : State) (x : Seat) : (s.bargeIn x).fixed = s.fixed := by
  simp [State.bargeIn]

@[simp] theorem State.fixed_startRePrompt (s : State) (x : Seat) : (s.startRePrompt x).1.fixed = s.fixed := rfl

@[simp] theorem State.fixed_dropKey (s : State) (x : Seat) : (s.dropKey x).fixed = s.fixed := by
  cases x <;> rfl

@[simp] theorem State.fixed_clearKeys (s : State) (x : Seat) : (s.clearKeys x).fixed = s.fixed := by
  cases x <;> rfl

@[simp] theorem State.fixed_takeKey (s : State) (x : Seat) : (s.takeKey x).1.fixed = s.fixed := by
  unfold State.takeKey
  repeat' split
  all_goals simp

@[simp] theorem State.fixed_consumeKey (s : State) (x : Seat) : (s.consumeKey x).fixed = s.fixed := rfl

@[simp] theorem State.fixed_handJudgement (s : State) (x : Seat) (c : Context) (e : Bool) :
    (s.handJudgement x c e).fixed = s.fixed := rfl

@[simp] theorem State.fixed_advanceCursor (s : State) (x : Seat) (c : Context) (l : List Task) :
    (s.advanceCursor x c l).1.fixed = s.fixed := rfl

@[simp] theorem State.fixed_letterwiseLetter (s : State) (x : Seat) (l : Nat) :
    (s.letterwiseLetter x l).1.fixed = s.fixed := by
  unfold State.letterwiseLetter
  simp only []
  repeat' split
  all_goals simp

@[simp] theorem State.fixed_repeatKey (s : State) (x : Seat) : (s.repeatKey x).1.fixed = s.fixed := by
  unfold State.repeatKey
  simp only []
  split <;> simp

@[simp] theorem State.fixed_letterwiseHint (s : State) (x : Seat) : (s.letterwiseHint x).1.fixed = s.fixed := rfl

@[simp] theorem State.fixed_wordwiseLetter (s : State) (x : Seat) (l : Nat) :
    (s.wordwiseLetter x l).1.fixed = s.fixed := by
  unfold State.wordwiseLetter
  simp only []
  split <;> simp

@[simp] theorem State.fixed_wordwiseBack (s : State) (x : Seat) : (s.wordwiseBack x).1.fixed = s.fixed := by
  unfold State.wordwiseBack
  simp only []
  split <;> simp

@[simp] theorem State.fixed_wordwiseHint (s : State) (x : Seat) : (s.wordwiseHint x).1.fixed = s.fixed := by
  unfold State.wordwiseHint
  simp only []
  repeat' split
  all_goals simp

@[simp] theorem State.fixed_wordwiseEnter (s : State) (x : Seat) : (s.wordwiseEnter x).1.fixed = s.fixed := by
  unfold State.wordwiseEnter
  simp only []
  repeat' split
  all_goals simp

@[simp] theorem State.fixed_restartIdle (s : State) (x : Seat) : (s.restartIdle x).fixed = s.fixed := rfl

@[simp] theorem State.fixed_handleKey (s : State) (x : Seat) (k : KeyCode) : (s.handleKey x k).1.fixed = s.fixed := by
  unfold State.handleKey
  split <;> simp

@[simp] theorem State.fixed_judgeKey (s : State) (x : Seat) (k : KeyCode) : (s.judgeKey x k).1.fixed = s.fixed := by
  unfold State.judgeKey afterKey
  split <;> simp

@[simp] theorem State.fixed_releaseTarget (s : State) (x : Seat) (n : Nat) (r : Reinsert) :
    (s.releaseTarget x n r).fixed = s.fixed := by
  simp [State.releaseTarget]

@[simp] theorem State.fixed_endSolo (s : State) (x : Seat) (o : AttemptEnd) : (s.endSolo x o).1.fixed = s.fixed := by
  unfold State.endSolo
  simp only []
  repeat' split
  all_goals simp

@[simp] theorem State.fixed_idleSeat (s : State) (x : Seat) : (s.idleSeat x).1.fixed = s.fixed := rfl

@[simp] theorem State.fixed_appendSolo (s : State) (x : Seat) : (s.appendSolo x).1.fixed = s.fixed := by
  unfold State.appendSolo
  repeat' split
  all_goals simp

@[simp] theorem State.fixed_goOnSolo (s : State) (x : Seat) : (s.goOnSolo x).1.fixed = s.fixed := by
  unfold State.goOnSolo
  split <;> simp

@[simp] theorem State.fixed_startAttempt (s : State) (x : Seat) (n : Nat) (e : WordEntry) :
    (s.startAttempt x n e).1.fixed = s.fixed := by
  unfold State.startAttempt
  simp only []
  split <;> simp

@[simp] theorem State.fixed_presentSolo (s : State) (x : Seat) : (s.presentSolo x).1.fixed = s.fixed := by
  unfold State.presentSolo
  simp only []
  split
  · simp
  · split
    · simp
    · rename_i n rest _
      have hr := State.fixed_readTarget ((s.refillSeat x).setWordQueue (.practice x) rest) n true
      split
      · rename_i s2 h
        rw [h] at hr
        simpa using hr
      · rename_i s2 e h
        rw [h] at hr
        simpa using hr

@[simp] theorem State.fixed_pauseSolo (s : State) (x : Seat) (c : PauseCause) : (s.pauseSolo x c).fixed = s.fixed := rfl

@[simp] theorem State.fixed_resumeSolo (s : State) (x : Seat) : (s.resumeSolo x).1.fixed = s.fixed := by
  unfold State.resumeSolo
  simp only []
  split
  · rename_i n _
    have hr := State.fixed_readTarget (s.setCtx x { s.ctx x with pauseCause := none }) n false
    split <;> (rename_i s2 h; rw [h] at hr; simpa using hr)
  · split <;> simp

@[simp] theorem State.fixed_resumeHeld (s : State) (x : Seat) : (s.resumeHeld x).1.fixed = s.fixed := by
  unfold State.resumeHeld
  simp only []
  split <;> rfl

@[simp] theorem State.fixed_expireSolo (s : State) (x : Seat) : (s.expireSolo x).1.fixed = s.fixed := by
  unfold State.expireSolo
  simp only []
  split <;> simp

@[simp] theorem State.fixed_leaveSolo (s : State) (x : Seat) (m : Bool) : (s.leaveSolo x m).1.fixed = s.fixed := by
  unfold State.leaveSolo
  simp only []
  repeat' split
  all_goals simp

end Sys2Proof.Machine
end

