-- ==== Sys2Proof/Laws/Cascade.lean ====
section
/-! SUPPORT. What the Duel Controller and a whole cascade leave as they are, and the induction principle for what a
cascade keeps. -/

namespace Sys2Proof.Machine

/-! ### The Duel Controller -/

@[simp] theorem State.fixed_endDuelAttempt (s : State) (x : Seat) (o : AttemptEnd) :
    (s.endDuelAttempt x o).fixed = s.fixed := rfl

@[simp] theorem State.fixed_staleJudgements (s : State) : s.staleJudgements.fixed = s.fixed := rfl
@[simp] theorem State.fixed_finishDuel (s : State) (r : FinishReason) : (s.finishDuel r).1.fixed = s.fixed := rfl
@[simp] theorem State.fixed_holdPresentation (s : State) : s.holdPresentation.fixed = s.fixed := rfl

@[simp] theorem State.fixed_beginRound (s : State) (n : Nat) (e : WordEntry) : (s.beginRound n e).fixed = s.fixed := by
  unfold State.beginRound
  simp only []
  rw [State.fixed_updateRests]
  rfl

@[simp] theorem State.fixed_openRound (s : State) : s.openRound.fixed = s.fixed := rfl

@[simp] theorem State.fixed_silentRound (s : State) (n : Nat) : (s.silentRound n).1.fixed = s.fixed := by
  simp [State.silentRound]

@[simp] theorem State.fixed_presentRound (s : State) : s.presentRound.1.fixed = s.fixed := by
  unfold State.presentRound
  simp only []
  split
  · simp
  · split
    · simp
    · rename_i n rest _
      have hr := State.fixed_readTarget (s.refillDuel.setWordQueue .duel rest) n true
      split
      · rename_i s2 h
        rw [h] at hr
        simpa using hr
      · rename_i s2 e h
        rw [h] at hr
        split <;> simpa using hr

@[simp] theorem State.fixed_dropDuelFirm (s : State) : s.dropDuelFirm.fixed = s.fixed := by
  unfold State.dropDuelFirm
  exact (State.fixed_cancelHandle s s.dc.firm)

@[simp] theorem State.fixed_placeDuelFirm (s : State) (cls : SpeechClass) (clips : List Nat) :
    (s.placeDuelFirm cls clips).1.fixed = s.fixed := by
  unfold State.placeDuelFirm
  simp only []
  split
  · simp
  · split
    · rename_i k s3 h
      have := State.fixed_acceptDuel _ s3 cls clips k h
      simpa using this
    · simp

@[simp] theorem State.fixed_startRace (s : State) (x : Seat) : (s.startRace x).fixed = s.fixed := by
  unfold State.startRace
  split <;> simp

@[simp] theorem State.fixed_completeDuelFirm (s : State) (cls : SpeechClass) :
    (s.completeDuelFirm cls).1.fixed = s.fixed := by
  unfold State.completeDuelFirm
  repeat' split
  all_goals simp

@[simp] theorem State.fixed_beat (s : State) (x : Seat) : (s.beat x).fixed = s.fixed := by
  simp [State.beat]

@[simp] theorem State.fixed_winRound (s : State) (x : Seat) : (s.winRound x).1.fixed = s.fixed := by
  unfold State.winRound
  simp only []
  split <;> simp

@[simp] theorem State.fixed_tryAgain (s : State) (x : Seat) : (s.tryAgain x).1.fixed = s.fixed := rfl
@[simp] theorem State.fixed_seatOut (s : State) (x : Seat) (o : AttemptEnd) : (s.seatOut x o).1.fixed = s.fixed := rfl

@[simp] theorem State.fixed_disregard (s : State) (x : Seat) : (s.disregard x).1.fixed = s.fixed := by
  unfold State.disregard
  simp only []
  split <;> simp

@[simp] theorem State.fixed_takeJudgement (s : State) (x : Seat) (j : Judgement) :
    (s.takeJudgement x j).1.fixed = s.fixed := by
  unfold State.takeJudgement
  simp only []
  repeat' split
  all_goals simp

@[simp] theorem State.fixed_expireDuel (s : State) (x : Seat) : (s.expireDuel x).1.fixed = s.fixed := by
  unfold State.expireDuel
  split <;> simp

@[simp] theorem State.fixed_checkSettled (s : State) : s.checkSettled.1.fixed = s.fixed := by
  unfold State.checkSettled
  simp only []
  split <;> (split <;> rfl)

@[simp] theorem State.fixed_releaseRound (s : State) (n : Nat) (r : RoundResult) :
    (s.releaseRound n r).fixed = s.fixed := by
  simp [State.releaseRound, State.clearRoundTarget]

@[simp] theorem State.fixed_settleRound (s : State) (silent : Bool) : (s.settleRound silent).1.fixed = s.fixed := by
  unfold State.settleRound
  simp only []
  repeat' split
  all_goals simp only [State.fixed_dropDuelFirm, State.fixed_releaseRound, State.fixed_applyUpdate]
  all_goals rfl

@[simp] theorem State.fixed_handRecord (s : State) (x : Seat) (r : ResultRecord) :
    (s.handRecord x r).fixed = s.fixed := by
  unfold State.handRecord State.setRecordStatus
  split <;> simp

@[simp] theorem State.fixed_handBoth (s : State) : s.handBoth.fixed = s.fixed := by
  simp [State.handBoth]

@[simp] theorem State.fixed_closeRound (s : State) : s.closeRound.1.fixed = s.fixed := by
  unfold State.closeRound
  split <;> simp

@[simp] theorem State.fixed_afterRecords (s : State) : s.afterRecords.1.fixed = s.fixed := by
  unfold State.afterRecords
  simp only []
  repeat' split
  all_goals simp

@[simp] theorem State.fixed_duelAppended (s : State) (x : Seat) : (s.duelAppended x).1.fixed = s.fixed := by
  unfold State.duelAppended State.setRecordStatus
  simp only []
  split <;> simp

@[simp] theorem State.fixed_abandonSeat (s : State) (x : Seat) : (s.abandonSeat x).fixed = s.fixed := by
  unfold State.abandonSeat
  split <;> simp

@[simp] theorem State.fixed_emptyTyped (s : State) (x : Seat) : (s.emptyTyped x).fixed = s.fixed := by
  unfold State.emptyTyped
  split <;> simp

@[simp] theorem State.fixed_breakAttempt (s : State) (x : Seat) : (s.breakAttempt x).fixed = s.fixed := by
  unfold State.breakAttempt
  simp only []
  split <;> simp

@[simp] theorem State.fixed_abandonRound (s : State) : s.abandonRound.fixed = s.fixed := by
  unfold State.abandonRound
  simp only []
  repeat' split
  all_goals simp

@[simp] theorem State.fixed_cancelRound (s : State) : s.cancelRound.fixed = s.fixed := by
  simp [State.cancelRound]

@[simp] theorem State.fixed_breakOff (s : State) : s.breakOff.fixed = s.fixed := by
  unfold State.breakOff
  split <;> simp

@[simp] theorem State.fixed_stopDuelNow (s : State) : s.stopDuelNow.1.fixed = s.fixed := by
  simp [State.stopDuelNow]

@[simp] theorem State.fixed_forfeit (s : State) (x : Seat) : (s.forfeit x).1.fixed = s.fixed := by
  simp [State.forfeit]

@[simp] theorem State.fixed_holdDuelContexts (s : State) : s.holdDuelContexts.fixed = s.fixed := by
  unfold State.holdDuelContexts
  split <;> rfl

@[simp] theorem State.fixed_rePromptRound (s : State) : s.rePromptRound.1.fixed = s.fixed := rfl
@[simp] theorem State.fixed_closeAfterHold (s : State) : s.closeAfterHold.1.fixed = s.fixed := rfl

@[simp] theorem State.fixed_loseRound (s : State) : s.loseRound.1.fixed = s.fixed := by
  simp [State.loseRound]

@[simp] theorem State.fixed_resumeDuel (s : State) : s.resumeDuel.1.fixed = s.fixed := by
  have hr : ∀ n, (s.readTarget n false).1.fixed = s.fixed := fun n => State.fixed_readTarget s n false
  unfold State.resumeDuel
  split
  · split
    · rfl
    all_goals first
      | (rename_i n _ _; have h := hr n; split <;> (rename_i h'; rw [h'] at h; simpa using h))
      | (split <;> simp)
      | rfl
  · rfl

/-! ### Tasks -/

@[simp] theorem State.fixed_arbitrate (s : State) : s.arbitrate.1.fixed = s.fixed := by
  unfold State.arbitrate State.failStart
  repeat' split
  all_goals (try simp only [])
  all_goals (repeat' split)
  all_goals simp

@[simp] theorem State.fixed_placeDisposable (s : State) (x : Seat) (cls : SpeechClass) (clips : List Nat) :
    (s.placeDisposable x cls clips).1.fixed = s.fixed := by
  unfold State.placeDisposable
  split
  · rfl
  · split
    · rename_i k s1 h
      exact State.fixed_acceptSeat s s1 x cls clips k h
    · rfl

@[simp] theorem State.fixed_placeFirm (s : State) (x : Seat) (cls : SpeechClass) (clips : List Nat) :
    (s.placeFirm x cls clips).1.fixed = s.fixed := by
  unfold State.placeFirm
  split
  · rfl
  · split
    · rename_i k s1 h
      simpa using State.fixed_acceptSeat s s1 x cls clips k h
    · rfl

@[simp] theorem State.fixed_completeFirm (s : State) (x : Seat) (cls : SpeechClass) :
    (s.completeFirm x cls).1.fixed = s.fixed := by
  unfold State.completeFirm
  repeat' split
  all_goals simp

@[simp] theorem State.fixed_reportToSeat (s : State) (x : Seat) (cls : SpeechClass) (h : Nat) :
    (s.reportToSeat x cls h).1.fixed = s.fixed := by
  unfold State.reportToSeat
  split <;> simp

@[simp] theorem State.fixed_reportToDuel (s : State) (cls : SpeechClass) (h : Nat) :
    (s.reportToDuel cls h).1.fixed = s.fixed := by
  unfold State.reportToDuel
  split <;> simp

@[simp] theorem State.fixed_loseSeat (s : State) (x : Seat) : (s.loseSeat x).1.fixed = s.fixed := by
  unfold State.loseSeat
  repeat' split
  all_goals simp

@[simp] theorem State.fixed_recordAppended (s : State) (x : Seat) : (s.recordAppended x).1.fixed = s.fixed := by
  unfold State.recordAppended
  split <;> simp

@[simp] theorem State.fixed_holdSolo (s : State) (x : Seat) : (s.holdSolo x).fixed = s.fixed := by
  unfold State.holdSolo
  repeat' split
  all_goals simp

@[simp] theorem State.fixed_enterHold (s : State) : s.enterHold.1.fixed = s.fixed := by
  unfold State.enterHold
  simp only []
  split
  · simp only [State.fixed_cancelLessons, State.fixed_holdDuelContexts, State.fixed_holdSolo]
    rfl
  · rfl

/-- A task leaves the fixed parts as they are. -/
@[simp] theorem fixed_runTask (t : Task) (s : State) : (runTask t s).1.fixed = s.fixed := by
  unfold runTask
  split
  · rfl
  · unfold runLessonTask
    split <;> simp

/-! ### Cascades -/

/-- What every task keeps, a cascade keeps. -/
theorem drain_keeps {P : State → Prop} (task : ∀ t s, P s → P (runTask t s).1) :
    ∀ (k : Nat) (ts : List Task) (s : State), P s → P (drain k ts s)
  | 0, _, _, h => h
  | k + 1, [], _, h => h
  | k + 1, t :: ts, s, h => by
    unfold drain
    exact drain_keeps task k _ _ (task t s h)

/-- What every task keeps, carrying an act out keeps. -/
theorem State.carryOut_keeps {P : State → Prop} (task : ∀ t s, P s → P (runTask t s).1) (s : State) (ts : List Task)
    (h : P s) : P (s.carryOut ts) := drain_keeps task Config.cascade ts s h

/-- A cascade leaves the fixed parts as they are. -/
@[simp] theorem State.fixed_carryOut (s : State) (ts : List Task) : (s.carryOut ts).fixed = s.fixed :=
  State.carryOut_keeps (P := fun t => t.fixed = s.fixed) (fun t u h => (fixed_runTask t u).trans h) s ts rfl

/-- An act carried out leaves what its first state leaves. -/
@[simp] theorem Act.fixed_done (a : Act) : a.done.fixed = a.1.fixed := State.fixed_carryOut a.1 a.2

/-- Nothing follows from an empty list of tasks. -/
@[simp] theorem drain_nil (k : Nat) (s : State) : drain k [] s = s := by
  cases k <;> rfl

/-- A cascade takes its first task, and what that leads to before the others. -/
theorem drain_cons (k : Nat) (t : Task) (ts : List Task) (s : State) :
    drain (k + 1) (t :: ts) s = drain k ((runTask t s).2 ++ ts) (runTask t s).1 := rfl

/-- After the lockdown entry only tasks of SE act. -/
theorem runTask_frozen (t : Task) (s : State) (h : s.fb.frozen = true) (ht : t.ofSpeech = false) :
    runTask t s = (s, []) := by
  simp [runTask, h, ht]

end Sys2Proof.Machine
end

