-- ==== Sys2Proof/Laws/Link.lean ====
section
/-! SUPPORT. What the checks around a request and around an event give: one lemma for a request that is taken, one for each
way it is not, and the two forms of an event. -/

namespace Sys2Proof.Machine

/-! ### The receive line -/

@[simp] theorem ReceiveLine.taken_mark (v : Byte) : ReceiveLine.mark.taken v = v := rfl
@[simp] theorem ReceiveLine.taken_space (v : Byte) : ReceiveLine.space.taken v = v := rfl
@[simp] theorem ReceiveLine.taken_heldBack (h v : Byte) : (ReceiveLine.heldBack h).taken v = h := rfl

@[simp] theorem State.setLine_assembler (s : State) (l : ReceiveLine) : (s.setLine l).lp.assembler = s.lp.assembler := rfl
@[simp] theorem State.setLine_gapTimer (s : State) (l : ReceiveLine) : (s.setLine l).lp.gapTimer = s.lp.gapTimer := rfl
@[simp] theorem State.setLine_replies (s : State) (l : ReceiveLine) : (s.setLine l).lp.replies = s.lp.replies := rfl
@[simp] theorem State.setLine_line (s : State) (l : ReceiveLine) : (s.setLine l).lp.line = l := rfl
@[simp] theorem State.setLine_resetHeld (s : State) (l : ReceiveLine) : (s.setLine l).resetHeld = s.resetHeld := rfl

/-- What the receiver takes is what the statements say it takes. -/
theorem State.takesByte_iff (s : State) (w v : Byte) : s.takesByte w v ↔ s.lp.line.taken w = v := by
  unfold State.takesByte
  cases h : s.lp.line <;> simp

/-! ### Requests and events -/

/-- The model's answer is the reply statements speak of. -/
theorem State.answer_eq_replied (s : State) (c : Instr) (st : Status) (contents : List Byte) :
    s.answer c st contents = s.replied c st contents := rfl

/-- A request that is taken answers what its owner gives. -/
theorem serve_taken {c : Instr} {s : State} (owner : State → Answer) (h : s.takes c) :
    serve c owner s = .next ((owner s).1.replied c (owner s).2.1 (owner s).2.2) := by
  obtain ⟨h1, h2, h3, h4⟩ := h
  unfold serve
  rw [if_neg (by simp [h1]), if_neg (by simp [h2]), if_neg (by simp [h3])]
  rw [if_neg (fun h => by simp [h4 h.1] at h)]
  rfl

/-- While the reset pin is held no request is taken. -/
theorem serve_held {c : Instr} {s : State} (owner : State → Answer) (h : s.resetHeld = true) :
    serve c owner s = .next s := by
  simp [serve, h]

/-- A request answers a next state in every state. -/
theorem serve_next (c : Instr) (owner : State → Answer) (s : State) : ∃ t, serve c owner s = .next t := by
  unfold serve
  split
  · exact ⟨_, rfl⟩
  · split
    · exact ⟨_, rfl⟩
    · split
      · exact ⟨_, rfl⟩
      · split
        · exact ⟨_, rfl⟩
        · exact ⟨_, rfl⟩

/-- What the OVERRUN record, a reply and the owner keep, a request keeps. -/
theorem serve_keeps {P : State → Prop} {c : Instr} {owner : State → Answer} {s t : State}
    (h : serve c owner s = .next t) (hs : P s) (full : P (s.recordFault .overrun .nothing 0 none))
    (reply : ∀ u st contents, P u → s.repliesFull = false → u.lp.replies = s.lp.replies → P (u.replied c st contents))
    (same : (owner s).1.lp.replies = s.lp.replies) (own : s.takes c → P (owner s).1) : P t := by
  unfold serve at h
  split at h
  · cases h; exact hs
  · split at h
    · cases h; exact full
    · rename_i h1 h2
      simp only [Bool.not_eq_true] at h1 h2
      split at h
      · cases h; exact reply s _ _ hs h2 rfl
      · rename_i h3
        split at h
        · cases h; exact reply s _ _ hs h2 rfl
        · rename_i h4
          cases h
          refine reply _ _ _ (own ⟨h1, h2, by simpa using h3, fun hl => ?_⟩) h2 same
          simp only [not_and, Bool.not_eq_false] at h4
          exact h4 hl

/-- An event acts when the reset pin is not held. -/
theorem event_taken {act : State → State} {s : State} (h : s.resetHeld = false) : event act s = .next (act s) := by
  simp [event, h]

/-- What the act keeps, an event keeps. -/
theorem event_keeps {P : State → Prop} {act : State → State} {s t : State} (h : event act s = .next t) (hs : P s)
    (own : s.resetHeld = false → P (act s)) : P t := by
  unfold event at h
  cases h
  split
  · exact hs
  · rename_i hr; exact own (by simpa using hr)

end Sys2Proof.Machine
end

