-- ==== Sys2Proof/Laws/Exec.lean ====
section
/-! SUPPORT. What every command of one kind has in common: a request is its owner behind the checks of `serve`, and every
command answers a next state. -/

namespace Sys2Proof.Machine

/-- The owner of a request, behind the checks of `serve`; an event has none, and changes nothing here. -/
def requestOwner : Instr → State → Answer
  | .restartLesson _ => restartLessonOwner
  | .restartFull _ => restartFullOwner
  | .status _ => statusOwner
  | .readConfig _ => readConfigOwner
  | .configure _ image => configureOwner image
  | .putWord _ slot image => putWordOwner slot image
  | .getWord _ slot => getWordOwner slot
  | .dropWord _ slot => dropWordOwner slot
  | .queueWord _ queue slot position => queueWordOwner queue slot position
  | .clearQueue _ queue => clearQueueOwner queue
  | .readQueue _ queue => readQueueOwner queue
  | .startSolo _ seat style options => startSoloOwner seat style options
  | .stopSeat _ seat => forSeat seat stopSeatOwner
  | .pauseSeat _ seat => forSeat seat pauseSeatOwner
  | .resumeSeat _ seat => forSeat seat resumeSeatOwner
  | .skipWord _ seat => forSeat seat skipWordOwner
  | .readAttempt _ seat => forSeat seat readAttemptOwner
  | .startDuel _ rounds options => startDuelOwner rounds options
  | .stopDuel _ => stopDuelOwner
  | .readDuel _ => readDuelOwner
  | .peekResults _ n => peekResultsOwner n
  | .releaseResults _ k => releaseResultsOwner k
  | .readAttention _ => readAttentionOwner
  | .setAttentionEnable _ causes => setAttentionEnableOwner causes
  | .flushKeys _ seat => forSeat seat flushKeysOwner
  | .loadKeyMap _ slot kind firstRow rows keys => loadKeyMapOwner slot kind firstRow rows keys
  | .checkSeat _ seat => forSeat seat checkSeatOwner
  | .readSeats _ => readSeatsOwner
  | .scanStart _ => scanStartOwner
  | .scanStop _ => scanStopOwner
  | .setRoute _ seat setting => setRouteOwner seat setting
  | .setCues _ clips => setCuesOwner clips
  | .setLetters _ clips => setLettersOwner clips
  | .setVolume _ channel level => setVolumeOwner channel level
  | .announce _ route count clips => announceOwner route count clips
  | .cancelAnnounce _ selector handle => cancelAnnounceOwner selector handle
  | .readSpeech _ part => readSpeechOwner part
  | .openClip _ id format rate length crc => openClipOwner id format rate length crc
  | .clipData _ id offset count bytes => clipDataOwner id offset count bytes
  | .commitClip _ id => forClip id fun n s => s.commitClipAt n
  | .deleteClip _ id => forClip id deleteClipOwner
  | .clipStatus _ id => forClip id clipStatusOwner
  | .storeStatus _ => storeStatusOwner
  | .readFaults _ bank => readFaultsOwner bank
  | .clearFault _ bank => clearFaultOwner bank
  | .setFaultEnable _ bank codes => setFaultEnableOwner bank codes
  | .clearHold _ => clearHoldOwner
  | _ => fun s => s.ok []

/-- A request is its owner behind the checks. -/
theorem exec_request (c : Instr) (h : c.isRequest = true) (s : State) : exec c s = serve c (requestOwner c) s := by
  cases c
  case powerOn | frameComplete | gapTimerExpiry | linkBreak | replySent | scanStartIssued | lessonTick
    | rowConversionComplete | converterTimeout | senseChange | senseSettled | identityReadComplete | holdAlert
    | idleExpiry | utteranceDone | clipAdvance | clipParity | verifyComplete | judgementTaken | holdEntry
    | lockdownEntry | byteReceived | resetPinAsserted => simp [Instr.isRequest, Instr.kind] at h
  all_goals rfl

/-- A request that is taken answers what its owner gives. -/
theorem exec_taken (c : Instr) (h : c.isRequest = true) {s : State} (ht : s.takes c) :
    exec c s = .next ((requestOwner c s).1.replied c (requestOwner c s).2.1 (requestOwner c s).2.2) :=
  (exec_request c h s).trans (serve_taken _ ht)

/-- What an event of a block does once the reset pin is not held; every other command does nothing here. -/
def eventAct : Instr → State → State
  | .gapTimerExpiry => State.gapExpired
  | .linkBreak => State.breakLink
  | .replySent => State.replyOut
  | .scanStartIssued => State.scanStart
  | .lessonTick => State.tickStart
  | .rowConversionComplete level => fun s => s.rowDone level.toNat
  | .converterTimeout => State.rowTimedOut
  | .senseSettled x => fun s => s.senseDone x
  | .identityReadComplete x answer => fun s => s.readDone x answer
  | .holdAlert x row => fun s => s.giveDue x row.val
  | .idleExpiry x => fun s => if s.idleExpired x then (s.expireIdle x).done else s
  | .utteranceDone v => fun s => s.voiceDone v
  | .clipAdvance v => fun s => s.advanceVoice v
  | .clipParity v holdFirst => fun s => s.parityError v holdFirst
  | .verifyComplete => State.completeVerify
  | .judgementTaken x => fun s => s.takeInFlight x
  | .holdEntry => fun s => s.carryOut [.holdEntry]
  | .lockdownEntry => fun s => if s.fb.lockdownDue then s.enterLockdown else s
  | _ => id

/-- Every command is a request, an event of a block, a byte of a frame, or an event of the reset pin or a sense line. -/
theorem command_sort (c : Instr) : c.isRequest = true ∨ (∀ s, exec c s = event (eventAct c) s) ∨
    (∃ v, c = .frameComplete v) ∨ (∃ v, c = .byteReceived v) ∨ c = .powerOn ∨ c = .resetPinAsserted ∨
    ∃ x k, c = .senseChange x k := by
  cases c
  case frameComplete v => exact .inr (.inr (.inl ⟨v, rfl⟩))
  case byteReceived v => exact .inr (.inr (.inr (.inl ⟨v, rfl⟩)))
  case powerOn => exact .inr (.inr (.inr (.inr (.inl rfl))))
  case resetPinAsserted => exact .inr (.inr (.inr (.inr (.inr (.inl rfl)))))
  case senseChange x k => exact .inr (.inr (.inr (.inr (.inr (.inr ⟨x, k, rfl⟩)))))
  case gapTimerExpiry | linkBreak | replySent | scanStartIssued | lessonTick | rowConversionComplete
    | converterTimeout | senseSettled | identityReadComplete | holdAlert | idleExpiry | utteranceDone | clipAdvance
    | clipParity | verifyComplete | judgementTaken | holdEntry | lockdownEntry => exact .inr (.inl fun _ => rfl)
  all_goals exact .inl rfl

/-- What the frame of a request runs is the request's own command. -/
theorem runRequest_eq (c : Instr) (h : c.isRequest = true) (s : State) : runRequest c s = exec c s := by
  cases c
  case powerOn | frameComplete | gapTimerExpiry | linkBreak | replySent | scanStartIssued | lessonTick
    | rowConversionComplete | converterTimeout | senseChange | senseSettled | identityReadComplete | holdAlert
    | idleExpiry | utteranceDone | clipAdvance | clipParity | verifyComplete | judgementTaken | holdEntry
    | lockdownEntry | byteReceived | resetPinAsserted => simp [Instr.isRequest, Instr.kind] at h
  all_goals rfl

/-- A request of a frame answers a next state. -/
theorem runRequest_next (c : Instr) (s : State) : ∃ t, runRequest c s = .next t := by
  cases h : c.isRequest
  · cases c
    case powerOn | frameComplete | gapTimerExpiry | linkBreak | replySent | scanStartIssued | lessonTick
      | rowConversionComplete | converterTimeout | senseChange | senseSettled | identityReadComplete | holdAlert
      | idleExpiry | utteranceDone | clipAdvance | clipParity | verifyComplete | judgementTaken | holdEntry
      | lockdownEntry | byteReceived | resetPinAsserted => exact ⟨s, rfl⟩
    all_goals simp [Instr.isRequest, Instr.kind] at h
  · rw [runRequest_eq c h s, exec_request c h s]
    exact serve_next _ _ _

/-- A complete frame answers a next state. -/
theorem completeFrame_next (s : State) (bytes : List Byte) : ∃ t, s.completeFrame runRequest bytes = .next t := by
  unfold State.completeFrame
  simp only []
  split
  · exact ⟨_, rfl⟩
  · split
    · exact ⟨_, rfl⟩
    · split
      · exact ⟨_, rfl⟩
      · exact ⟨_, rfl⟩
      · exact ⟨_, rfl⟩
      · exact runRequest_next _ _

/-- FRAME_COMPLETE answers a next state. -/
theorem execFrameComplete_next (v : Byte) (s : State) : ∃ t, execFrameComplete v s = .next t := by
  unfold execFrameComplete
  split
  · exact ⟨_, rfl⟩
  · exact completeFrame_next _ _

/-- BYTE_RECEIVED answers a next state. -/
theorem execByteReceived_next (v : Character) (s : State) : ∃ t, execByteReceived v s = .next t := by
  unfold execByteReceived
  split
  · exact ⟨_, rfl⟩
  · split
    · unfold State.receiveByte
      split
      · exact ⟨_, rfl⟩
      · split
        · exact completeFrame_next _ _
        · exact ⟨_, rfl⟩
    · exact ⟨_, rfl⟩

/-- Every command answers a next state. -/
theorem exec_next (c : Instr) (s : State) : ∃ t, exec c s = .next t := by
  cases h : c.isRequest
  · cases c
    case frameComplete v => exact execFrameComplete_next v s
    case byteReceived v => exact execByteReceived_next v s
    case powerOn | gapTimerExpiry | linkBreak | replySent | scanStartIssued | lessonTick
      | rowConversionComplete | converterTimeout | senseChange | senseSettled | identityReadComplete | holdAlert
      | idleExpiry | utteranceDone | clipAdvance | clipParity | verifyComplete | judgementTaken | holdEntry
      | lockdownEntry | resetPinAsserted => exact ⟨_, rfl⟩
    all_goals simp [Instr.isRequest, Instr.kind] at h
  · rw [exec_request c h s]
    exact serve_next _ _ _

end Sys2Proof.Machine
end

