-- ==== Sys2Proof/Laws/Memory.lean ====
section
/-! SUPPORT. The clip bytes as memory: writing keeps the canonical form, and what a read gives after a write. -/

namespace Sys2Proof.Machine.Memory

/-- A canonical list stays canonical for any lower bound. -/
theorem wfFrom_mono {low high : Nat} (h : low ≤ high) : ∀ m, wfFrom high m = true → wfFrom low m = true
  | [], _ => rfl
  | (a, v) :: rest, hm => by
    simp only [wfFrom, Bool.and_eq_true, decide_eq_true_eq] at hm ⊢
    exact ⟨⟨Nat.le_trans h hm.1.1, hm.1.2⟩, hm.2⟩

/-- Nothing is listed below the bound. -/
theorem read_below : ∀ (m : List Host.Cell) (low a : Nat), wfFrom low m = true → a < low → read m a = 0
  | [], _, _, _, _ => rfl
  | (b, v) :: rest, low, a, hm, ha => by
    simp only [wfFrom, Bool.and_eq_true, decide_eq_true_eq] at hm
    have hb : ¬ b = a := by omega
    simp only [read, hb, if_false]
    exact read_below rest (b + 1) a hm.2 (by omega)

/-- Writing one byte keeps the canonical form. -/
theorem wfFrom_write : ∀ (m : List Host.Cell) (low a : Nat) (v : Byte),
    wfFrom low m = true → low ≤ a → wfFrom low (write m a v) = true
  | [], low, a, v, _, ha => by
    unfold write
    split
    · rfl
    · rename_i hv
      simpa [wfFrom, ha] using hv
  | (b, w) :: rest, low, a, v, hm, ha => by
    have hm' := hm
    simp only [wfFrom, Bool.and_eq_true, decide_eq_true_eq] at hm'
    obtain ⟨⟨hb, hw⟩, hr⟩ := hm'
    unfold write
    split
    · split
      · exact hm
      · rename_i hab hv
        simp only [wfFrom, Bool.and_eq_true, decide_eq_true_eq]
        refine ⟨⟨ha, by simpa using hv⟩, ⟨by omega, hw⟩, hr⟩
    · split
      · split
        · exact wfFrom_mono (by omega) rest hr
        · rename_i hab hv
          simp only [wfFrom, Bool.and_eq_true, decide_eq_true_eq]
          subst hab
          exact ⟨⟨ha, by simpa using hv⟩, hr⟩
      · simp only [wfFrom, Bool.and_eq_true, decide_eq_true_eq]
        exact ⟨⟨hb, hw⟩, wfFrom_write rest (b + 1) a v hr (by omega)⟩

/-- Writing one byte keeps the canonical form. -/
theorem wf_write (m : List Host.Cell) (a : Nat) (v : Byte) (h : wf m = true) : wf (write m a v) = true :=
  wfFrom_write m 0 a v h (Nat.zero_le a)

/-- Writing bytes keeps the canonical form. -/
theorem wf_writeAll : ∀ (vs : List Byte) (m : List Host.Cell) (a : Nat), wf m = true → wf (writeAll m a vs) = true
  | [], _, _, h => h
  | v :: vs, m, a, h => wf_writeAll vs (write m a v) (a + 1) (wf_write m a v h)

/-- A written byte reads as written. -/
theorem read_write_self : ∀ (m : List Host.Cell) (low a : Nat) (v : Byte),
    wfFrom low m = true → low ≤ a → read (write m a v) a = v
  | [], low, a, v, _, _ => by
    unfold write
    split
    · rename_i h
      rw [h]
      rfl
    · simp [read]
  | (b, w) :: rest, low, a, v, hm, ha => by
    have hm' := hm
    simp only [wfFrom, Bool.and_eq_true, decide_eq_true_eq] at hm'
    obtain ⟨⟨hb, hw⟩, hr⟩ := hm'
    unfold write
    split
    · rename_i hab
      split
      · rename_i hv
        have hb' : ¬ b = a := by omega
        rw [hv]
        simp only [read, hb', if_false]
        exact read_below rest (b + 1) a hr (by omega)
      · simp [read]
    · split
      · rename_i hab
        split
        · rename_i hv
          rw [hv]
          exact read_below rest (b + 1) a hr (by omega)
        · simp [read]
      · rename_i h1 h2
        have hb' : ¬ b = a := fun e => h2 e.symm
        simp only [read, hb', if_false]
        exact read_write_self rest (b + 1) a v hr (by omega)

/-- Every other byte reads as before. -/
theorem read_write_ne : ∀ (m : List Host.Cell) (a c : Nat) (v : Byte), c ≠ a → read (write m a v) c = read m c
  | [], a, c, v, h => by
    unfold write
    split
    · rfl
    · simp [read, Ne.symm h]
  | (b, w) :: rest, a, c, v, h => by
    unfold write
    split
    · split
      · rfl
      · simp [read, Ne.symm h]
    · split
      · rename_i hab
        subst hab
        split <;> simp [read, Ne.symm h]
      · simp only [read]
        split
        · rfl
        · exact read_write_ne rest a c v h

/-- Bytes outside the written range read as before. -/
theorem read_writeAll_outside : ∀ (vs : List Byte) (m : List Host.Cell) (a c : Nat),
    (c < a ∨ a + vs.length ≤ c) → read (writeAll m a vs) c = read m c
  | [], _, _, _, _ => rfl
  | v :: vs, m, a, c, h => by
    have hlen : (v :: vs).length = vs.length + 1 := rfl
    rw [hlen] at h
    unfold writeAll
    rw [read_writeAll_outside vs (write m a v) (a + 1) c (by omega)]
    exact read_write_ne m a c v (by omega)

end Sys2Proof.Machine.Memory
end

