-- ==== Sys2Proof/Laws/Mistakes.lean ====
section
/-! SUPPORT. Mistake analysis gives codes in their ranges, and the induction principle for what a cascade keeps when the
keys on their way to be judged are in their ranges too. -/

namespace Sys2Proof.Machine

/-- A letter of a good list is a letter code. -/
theorem lettersGood.letter {w : List Nat} (h : lettersGood w) {p l : Nat} (hl : w[p]? = some l) : letterGood l :=
  h.2 l (List.mem_of_getElem? hl)

/-- A code taken from two good lists at a position of 16 or less is in its ranges. -/
theorem mistakeAt_lawful {w t : List Nat} (hw : lettersGood w) (ht : lettersGood t) (kind : MistakeKind) {p : Nat}
    (hp : p ≤ 16) : (mistakeAt kind p w t).lawful := ⟨hp, fun _ h => hw.letter h, fun _ h => ht.letter h⟩

/-- A position at which two lists differ lies within both. -/
theorem lt_of_mem_differing {w t : List Nat} {p : Nat} (h : p ∈ differing w t) : p < min w.length t.length :=
  List.mem_range.1 (List.mem_filter.1 h).1

/-- A removal's position lies within the longer list. -/
theorem lt_of_removalAt {long short : List Nat} {i : Nat} (h : removalAt long short = some i) : i < long.length :=
  List.mem_range.1 (List.mem_of_find?_eq_some h)

/-- An exchange's position is one at which the lists differ. -/
theorem mem_of_exchangedAt {w t : List Nat} {i : Nat} (h : exchangedAt w t = some i) : i ∈ differing w t := by
  unfold exchangedAt at h
  split at h
  · rename_i a b hd
    split at h
    · cases h
      rw [hd]
      exact List.mem_cons_self
    · cases h
  · cases h

/-- The GENERAL code of two good lists is in its ranges. -/
theorem generalMistake_lawful {w t : List Nat} (hw : lettersGood w) (ht : lettersGood t) :
    (generalMistake w t).lawful := by
  have h16 : w.length ≤ 16 := hw.1
  unfold generalMistake
  split
  · rename_i p _ hd
    have hp : p < min w.length t.length := lt_of_mem_differing (by rw [hd]; exact List.mem_cons_self)
    exact mistakeAt_lawful hw ht _ (by omega)
  · exact mistakeAt_lawful hw ht _ (by omega)

/-- The WORDWISE classification of two good lists is in its ranges (R59). -/
theorem classifyWord_lawful {w t : List Nat} (hw : lettersGood w) (ht : lettersGood t) : (classifyWord w t).lawful := by
  have hw16 : w.length ≤ 16 := hw.1
  have ht16 : t.length ≤ 16 := ht.1
  have hd : ∀ p, p ∈ differing w t → p ≤ 16 := fun p h => by
    have := lt_of_mem_differing h
    omega
  unfold classifyWord
  split
  · split
    · rename_i p hp
      exact mistakeAt_lawful hw ht _ (hd p (by rw [hp]; exact List.mem_cons_self))
    · split
      · rename_i i hi
        exact mistakeAt_lawful hw ht _ (hd i (mem_of_exchangedAt hi))
      · exact generalMistake_lawful hw ht
  · split
    · split
      · rename_i i hi
        have := lt_of_removalAt hi
        exact mistakeAt_lawful hw ht _ (by omega)
      · exact generalMistake_lawful hw ht
    · split
      · split
        · rename_i i hi
          have := lt_of_removalAt hi
          exact mistakeAt_lawful hw ht _ (by omega)
        · exact generalMistake_lawful hw ht
      · exact generalMistake_lawful hw ht

/-- The LETTERWISE classification of a letter against a good spelling is in its ranges (R59). -/
theorem classifyLetter_lawful {w : List Nat} (hw : lettersGood w) {c x : Nat} (hc : c ≤ 16) (hx : letterGood x) :
    (classifyLetter w c x).lawful := ⟨hc, fun _ h => hw.letter h, fun _ h => by cases h; exact hx⟩

/-- What every task keeps, a cascade keeps, when each task of a kind leads to tasks of that kind only. -/
theorem drain_keeps_tasks {P : State → Prop} {Q : Task → Prop}
    (task : ∀ t s, Q t → P s → P (runTask t s).1 ∧ ∀ u ∈ (runTask t s).2, Q u) :
    ∀ (k : Nat) (ts : List Task) (s : State), (∀ t ∈ ts, Q t) → P s → P (drain k ts s)
  | 0, _, _, _, h => h
  | k + 1, [], _, _, h => h
  | k + 1, t :: ts, s, hq, h => by
    obtain ⟨hp, hm⟩ := task t s (hq t List.mem_cons_self) h
    unfold drain
    refine drain_keeps_tasks task k _ _ (fun u hu => ?_) hp
    rcases List.mem_append.1 hu with hu | hu
    · exact hm u hu
    · exact hq u (List.mem_cons_of_mem t hu)

end Sys2Proof.Machine
end

