-- ==== Sys2Proof/Laws/Owners.lean ====
section
/-! SUPPORT. What the owner of a request leaves as it is: the replies, and everything when it turns the request away. -/

namespace Sys2Proof.Machine

/-- The fixed parts hold the link. -/
theorem lp_of_fixed {s t : State} (h : s.fixed = t.fixed) : s.lp = t.lp := by
  simp only [State.fixed, Prod.mk.injEq] at h
  exact h.1.2.1

/-- A cascade leaves the link as it is. -/
theorem lp_carryOut (s : State) (ts : List Task) : (s.carryOut ts).lp = s.lp := lp_of_fixed (s.fixed_carryOut ts)

/-- An act carried out leaves what its first state has of the link. -/
theorem Act.lp_done (a : Act) : a.done.lp = a.1.lp := lp_carryOut _ _

theorem State.lp_giveDue (s : State) (x : Seat) (n : Nat) : (s.giveDue x n).lp = s.lp := by
  unfold State.giveDue; split <;> rfl

theorem State.lp_giveAllDue (s : State) (x : Seat) : (s.giveAllDue x).lp = s.lp := by
  simp only [State.giveAllDue, List.range, List.range.loop, List.foldl_cons, List.foldl_nil, State.lp_giveDue]

theorem State.lp_seatToIdentifying (s : State) (x : Seat) : (s.seatToIdentifying x).1.lp = s.lp := by
  show (s.giveAllDue x).lp = s.lp
  exact s.lp_giveAllDue x

/-- An owner's answer leaves the replies, and leaves everything when its status is neither OK nor ACCEPTED (R205). -/
def Answer.plain (s : State) (a : Answer) : Prop :=
  a.1.lp.replies = s.lp.replies ∧ (a.2.1 = .ok ∨ a.2.1 = .accepted ∨ (a.2.2 = [] ∧ a.1 = s))

theorem plain_deny (s : State) (st : Status) : Answer.plain s (s.deny st) := ⟨rfl, .inr (.inr ⟨rfl, rfl⟩)⟩
theorem plain_ok {s t : State} (bs : List Byte) (h : t.lp.replies = s.lp.replies) : Answer.plain s (t.ok bs) := ⟨h, .inl rfl⟩
theorem plain_acc {s t : State} (bs : List Byte) (h : t.lp.replies = s.lp.replies) : Answer.plain s (t, Status.accepted, bs) := ⟨h, .inr (.inl rfl)⟩
theorem plain_refuseIf {s : State} {b : Bool} {st : Status} {a : Answer} (h : Answer.plain s a) :
    Answer.plain s (s.refuseIf b st a) := by
  unfold State.refuseIf; split
  · exact plain_deny s st
  · exact h
theorem plain_forSeat {s : State} {v : Byte} {o : Seat → State → Answer} (h : ∀ x, Answer.plain s (o x s)) :
    Answer.plain s (forSeat v o s) := by
  unfold forSeat; split
  · exact h _
  · exact plain_deny s _
theorem plain_forClip {s : State} {v : Byte} {o : Nat → State → Answer} (h : ∀ x, Answer.plain s (o x s)) :
    Answer.plain s (forClip v o s) := by
  unfold forClip; split
  · exact h _
  · exact plain_deny s _
theorem plain_fixed {s t : State} (bs : List Byte) (h : t.fixed = s.fixed) : Answer.plain s (t.ok bs) :=
  plain_ok bs (by rw [lp_of_fixed h])

/-- Every owner's answer is plain. -/
theorem requestOwner_plain (c : Instr) (s : State) : Answer.plain s (requestOwner c s) := by
  cases c
  all_goals simp only [requestOwner]
  case stopSeat => exact plain_forSeat fun x => plain_refuseIf (plain_fixed _ (by simp [State.fixed_leaveSolo]))
  case pauseSeat => exact plain_forSeat fun x => plain_refuseIf (plain_fixed _ (by simp))
  case resumeSeat => exact plain_forSeat fun x => plain_refuseIf (plain_fixed _ (by simp))
  case skipWord => exact plain_forSeat fun x => plain_refuseIf (plain_fixed _ (by simp))
  case readAttempt => exact plain_forSeat fun x => plain_ok _ rfl
  case startSolo =>
    unfold startSoloOwner; split
    · exact plain_refuseIf (plain_fixed _ (by simp))
    · exact plain_deny s _
  case startDuel => exact plain_refuseIf (plain_refuseIf (plain_fixed _ (by simp [State.setDuel])))
  case stopDuel => exact plain_refuseIf (plain_fixed _ (by simp))
  case releaseResults => 
    refine plain_refuseIf (plain_ok _ ?_)
    unfold State.release
    have := lp_of_fixed (State.fixed_appendAllWaiting (s.removeOldest (BitVec.toNat ‹Byte›)))
    simp only [lp_carryOut]
    rw [this]
    unfold State.removeOldest
    rw [lp_of_fixed (State.fixed_evaluateThreshold _)]
  case clearHold => exact plain_refuseIf (plain_ok _ (by simp [State.clearHoldNow, lp_carryOut]))
  case checkSeat =>
    refine plain_forSeat fun x => plain_refuseIf (plain_refuseIf (plain_ok _ ?_))
    rw [Act.lp_done, State.lp_seatToIdentifying]
  case announce =>
    unfold announceOwner; split
    · refine plain_refuseIf (plain_refuseIf (plain_refuseIf ?_))
      exact plain_fixed _ ((State.fixed_carryOut _ _).trans (State.fixed_enqueue s _ _ _ _))
    · exact plain_deny s _
  case cancelAnnounce =>
    unfold cancelAnnounceOwner; split
    · exact plain_refuseIf (plain_refuseIf (plain_fixed _ (by simp [State.cancelAnd])))
    · exact plain_fixed _ (by simp [State.cancelAnd])
    · exact plain_deny s _
  case restartLesson => exact plain_ok _ (by simp [State.lessonRestart, State.lp_giveAllDue, lp_of_fixed (State.fixed_cancelAll s)])
  case restartFull => exact plain_ok _ rfl
  case status | readConfig | readDuel | readAttention | readSeats | scanStop | storeStatus => exact plain_ok _ rfl
  case scanStart => exact plain_ok _ (by split <;> rfl)
  case configure => exact plain_refuseIf (plain_ok _ (by rw [lp_of_fixed (State.fixed_evaluateThreshold _)]))
  case putWord =>
    unfold putWordOwner; split
    · exact plain_deny s _
    · exact plain_refuseIf (plain_refuseIf (plain_refuseIf (plain_ok _ rfl)))
  case getWord => exact plain_refuseIf (plain_ok _ rfl)
  case dropWord => exact plain_refuseIf (plain_refuseIf (plain_refuseIf (plain_ok _ rfl)))
  case queueWord =>
    unfold queueWordOwner; split
    · split
      · unfold State.queueWordAt; split
        · exact plain_deny s _
        · split
          · exact plain_deny s _
          · exact plain_refuseIf (plain_refuseIf (plain_refuseIf (plain_ok _ (by rw [lp_of_fixed (State.fixed_setWordQueue _ _ _)]))))
      · exact plain_deny s _
    · exact plain_deny s _
  case clearQueue =>
    unfold clearQueueOwner; split
    · exact plain_deny s _
    · exact plain_refuseIf (plain_ok _ (by rw [lp_of_fixed (State.fixed_setWordQueue _ _ _)]))
  case readQueue => unfold readQueueOwner; split; exacts [plain_deny s _, plain_ok _ rfl]
  case peekResults => exact plain_refuseIf (plain_ok _ rfl)
  case setAttentionEnable => exact plain_refuseIf (plain_ok _ rfl)
  case flushKeys => exact plain_forSeat fun x => plain_refuseIf (plain_ok _ rfl)
  case loadKeyMap =>
    unfold loadKeyMapOwner; split
    · refine plain_refuseIf (plain_refuseIf (plain_refuseIf (plain_ok _ ?_)))
      unfold State.setKeyMap; split <;> rfl
    · exact plain_deny s _
  case setRoute => unfold setRouteOwner; split; exacts [plain_ok _ rfl, plain_deny s _]
  case setCues => unfold setCuesOwner; split; exacts [plain_ok _ rfl, plain_deny s _]
  case setLetters => unfold setLettersOwner; split; exacts [plain_ok _ rfl, plain_deny s _]
  case setVolume =>
    unfold setVolumeOwner; split
    · refine plain_refuseIf (plain_ok _ ?_)
      unfold State.setVolumeTo; split <;> rfl
    · exact plain_deny s _
  case readSpeech => unfold readSpeechOwner; split; exacts [plain_ok _ rfl, plain_deny s _]
  case openClip =>
    unfold openClipOwner; split
    · refine plain_refuseIf (plain_refuseIf ?_)
      split
      · exact plain_deny s _
      · exact plain_ok _ (by simp [State.openRun, lp_of_fixed (State.fixed_setClip _ _ _)])
    · exact plain_deny s _
  case clipData =>
    unfold clipDataOwner; split
    · refine plain_refuseIf ?_
      unfold State.clipDataAt; split
      · exact plain_deny s _
      · exact plain_refuseIf (plain_refuseIf (plain_refuseIf (plain_ok _ (by
          simp [State.writeClip, State.storeBytes, lp_of_fixed (State.fixed_setClip _ _ _)]))))
    · exact plain_deny s _
  case commitClip =>
    refine plain_forClip fun n => ?_
    unfold State.commitClipAt; split
    · exact plain_deny s _
    · exact plain_refuseIf (plain_refuseIf (plain_refuseIf (plain_acc _ (by
          simp [State.beginVerify, lp_of_fixed (State.fixed_setClip _ _ _)]))))
  case deleteClip =>
    refine plain_forClip fun n => ?_
    unfold deleteClipOwner
    have h1 : (s.deleteNow n).lp = s.lp := by
      simp [State.deleteNow, State.dropClip, lp_of_fixed (State.fixed_setClip _ _ _)]
    repeat' split
    all_goals first
      | exact plain_deny s _
      | exact plain_ok _ (by rw [h1])
      | exact plain_ok _ (by rw [lp_of_fixed (State.fixed_setClip _ _ _)])
      | exact plain_ok _ rfl
  case clipStatus => exact plain_forClip fun n => plain_ok _ rfl
  case readFaults => unfold readFaultsOwner; split; exacts [plain_ok _ rfl, plain_deny s _]
  case clearFault => unfold clearFaultOwner; split; exacts [plain_ok _ rfl, plain_deny s _]
  case setFaultEnable =>
    unfold setFaultEnableOwner; split
    · exact plain_refuseIf (plain_ok _ rfl)
    · exact plain_deny s _
  all_goals exact plain_ok _ rfl

end Sys2Proof.Machine
end

