-- ==== Sys2Proof/Laws/Quiet.lean ====
section
/-! SUPPORT. Speech: which parts its operations can change at all, and what placing an utterance, cancelling and the
arbiter do when no one else speaks. -/

namespace Sys2Proof.Machine

/-! ### Speech changes SE, CS and AU only -/

/-- The second state differs from the first in SE, CS and AU at most. -/
def SpeechOnly (s t : State) : Prop := t = { s with se := t.se, cs := t.cs, au := t.au }

theorem SpeechOnly.refl (s : State) : SpeechOnly s s := rfl

theorem SpeechOnly.trans {s t u : State} (h : SpeechOnly s t) (k : SpeechOnly t u) : SpeechOnly s u := by
  unfold SpeechOnly at *
  rw [k, h]

theorem SpeechOnly.setClip (s : State) (id : Nat) (c : Option Clip) : SpeechOnly s (s.setClip id c) := by
  cases id <;> rfl

theorem SpeechOnly.pin (s : State) (id : Nat) : SpeechOnly s (s.pin id) := by
  unfold State.pin
  split
  · exact .setClip _ _ _
  · rfl

theorem SpeechOnly.unpin (s : State) (id : Nat) : SpeechOnly s (s.unpin id) := by
  unfold State.unpin
  split
  · split
    · unfold State.dropClip State.raise State.setClip
      cases id <;> rfl
    · exact .setClip _ _ _
  · rfl

theorem SpeechOnly.pinAll : ∀ (clips : List Nat) (s : State), SpeechOnly s (s.pinAll clips)
  | [], s => .refl s
  | c :: cs, s => (SpeechOnly.pin s c).trans (SpeechOnly.pinAll cs (s.pin c))

theorem SpeechOnly.unpinAll : ∀ (clips : List Nat) (s : State), SpeechOnly s (s.unpinAll clips)
  | [], s => .refl s
  | c :: cs, s => (SpeechOnly.unpin s c).trans (SpeechOnly.unpinAll cs (s.unpin c))

theorem SpeechOnly.cancel (s : State) (p : Utterance → Bool) : SpeechOnly s (s.cancel p) := by
  unfold State.cancel
  simp only []
  have key : ∀ (se : Speech) (l : List Nat), SpeechOnly s (({ s with se := se } : State).unpinAll l) := fun se l =>
    SpeechOnly.trans (t := { s with se := se }) rfl (SpeechOnly.unpinAll l _)
  split
  · exact (key _ _).trans rfl
  · exact key _ _

theorem SpeechOnly.cancelHandle (s : State) (h : Option Nat) : SpeechOnly s (s.cancelHandle h) := by
  cases h
  · exact .refl s
  · exact .cancel _ _

theorem SpeechOnly.freeVoice (s : State) (v : Voice) : SpeechOnly s (s.freeVoice v) := by
  unfold State.freeVoice
  split
  · exact SpeechOnly.trans (t := _) (by cases v <;> rfl) (SpeechOnly.unpinAll _ _)
  · exact .refl s

theorem SpeechOnly.enqueue (s : State) (r : Requester) (cls : SpeechClass) (route : BitVec 3) (clips : List Nat) :
    SpeechOnly s (s.enqueue r cls route clips).2 := by
  refine (SpeechOnly.pinAll clips s).trans ?_
  cases r <;> rfl

section Fields
variable {s t : State} (h : SpeechOnly s t)
include h

theorem SpeechOnly.ae : t.ae = s.ae := by rw [h]
theorem SpeechOnly.dc : t.dc = s.dc := by rw [h]
theorem SpeechOnly.rl : t.rl = s.rl := by rw [h]
theorem SpeechOnly.ps : t.ps = s.ps := by rw [h]
theorem SpeechOnly.wt : t.wt = s.wt := by rw [h]
theorem SpeechOnly.ks : t.ks = s.ks := by rw [h]
theorem SpeechOnly.tb : t.tb = s.tb := by rw [h]
theorem SpeechOnly.cfg : t.cfg = s.cfg := by rw [h]
theorem SpeechOnly.fb : t.fb = s.fb := by rw [h]
theorem SpeechOnly.lp : t.lp = s.lp := by rw [h]
theorem SpeechOnly.resetHeld : t.resetHeld = s.resetHeld := by rw [h]
theorem SpeechOnly.pending : t.pending = s.pending := by rw [h]

end Fields

/-! ### Pins change no clip's state -/

/-- A pin changes the pins of a clip alone: readiness stays. -/
theorem clipReady_pin (s : State) (id j : Nat) : (s.pin id).clipReady j = s.clipReady j := by
  unfold State.pin
  split
  · rename_i c hc
    cases id with
    | zero => rfl
    | succ k =>
      cases j with
      | zero => rfl
      | succ i =>
        simp only [State.clip] at hc
        simp only [State.clipReady, State.clip, State.setClip, List.getD_eq_getElem?_getD] at hc ⊢
        rw [List.getElem?_set]
        by_cases hki : k = i
        · subst hki
          by_cases hl : k < s.cs.directory.length
          · simp [hl]
            simp [List.getElem?_eq_getElem hl] at hc
            simp [hc]
          · simp [hl] at hc
        · simp [hki]
  · rfl

/-! ### Quiet speech -/

/-- Quiet speech, part by part. -/
theorem speechQuiet_iff (s : State) : s.speechQuiet ↔
    s.se.v0 = none ∧ s.se.v1 = none ∧ s.se.seatQueue = ⟨[], []⟩ ∧ s.se.duelQueue = [] ∧ s.se.announceQueue = [] := by
  unfold State.speechQuiet State.allPlaying State.allWaiting
  cases h : s.se.seatQueue with
  | mk qa qb => cases s.se.v0 <;> cases s.se.v1 <;> simp [and_assoc]

/-- The arbiter has nothing to do in quiet speech. -/
theorem arbitrate_quiet {s : State} (h : s.speechQuiet) : s.arbitrate = (s, []) := by
  obtain ⟨h0, h1, h2, h3, h4⟩ := (speechQuiet_iff s).1 h
  simp [State.arbitrate, State.voiceToFill, State.bestHead, State.heads, h0, h2, h3, h4]

/-- A cancellation in quiet speech changes nothing. -/
theorem cancel_quiet {s : State} (h : s.speechQuiet) (p : Utterance → Bool) : s.cancel p = s := by
  have hn : s.named p = [] := by simp [State.named, h.1, h.2]
  obtain ⟨h0, h1, h2, h3, h4⟩ := (speechQuiet_iff s).1 h
  unfold State.cancel
  simp only [hn, lastAnnounced, List.flatMap_nil, State.unpinAll, List.foldl_nil, List.filter_nil, List.getLast?_nil,
    Option.map_none, h0, h1, h2, h3, h4, keepPlaying]
  rcases s with ⟨_, _, _, _, _, _, _, _, _, _, _, se, _, _, _⟩
  rcases se
  simp_all

/-- Unpinning leaves SE as it is. -/
theorem unpin_se (s : State) (id : Nat) : (s.unpin id).se = s.se := by
  unfold State.unpin
  split
  · split
    · unfold State.dropClip State.raise State.setClip
      cases id <;> rfl
    · cases id <;> rfl
  · rfl

/-- Unpinning a list leaves SE as it is. -/
theorem unpinAll_se : ∀ (clips : List Nat) (s : State), (s.unpinAll clips).se = s.se
  | [], _ => rfl
  | c :: cs, s => (unpinAll_se cs (s.unpin c)).trans (unpin_se s c)

/-- Pinning leaves SE as it is. -/
theorem pinAll_se : ∀ (clips : List Nat) (s : State), (s.pinAll clips).se = s.se
  | [], _ => rfl
  | c :: cs, s => (pinAll_se cs (s.pin c)).trans (by
      unfold State.pin
      split
      · rename_i k _
        cases c <;> rfl
      · rfl)

/-- A cancellation that names every utterance leaves quiet speech. -/
theorem cancel_everything {s : State} {p : Utterance → Bool} (h : ∀ u ∈ s.allPlaying ++ s.allWaiting, p u = true) :
    (s.cancel p).speechQuiet := by
  have hv : ∀ v, (∀ u ∈ (Option.toList v).map Playing.utterance, p u = true) → keepPlaying p v = none := by
    intro v hv
    cases v with
    | none => rfl
    | some q => simp [keepPlaying, hv q.utterance (by simp)]
  have hq : ∀ l : List Utterance, (∀ u ∈ l, p u = true) → l.filter (!p ·) = [] := by
    intro l hl
    rw [List.filter_eq_nil_iff]
    intro u hu
    simp [hl u hu]
  have hse : (s.cancel p).se.v0 = none ∧ (s.cancel p).se.v1 = none ∧ (s.cancel p).se.seatQueue = ⟨[], []⟩ ∧
      (s.cancel p).se.duelQueue = [] ∧ (s.cancel p).se.announceQueue = [] := by
    unfold State.cancel
    simp only []
    split
    all_goals simp only [State.noteAnnouncement, unpinAll_se]
    all_goals refine ⟨hv _ fun u hu => h u ?_, hv _ fun u hu => h u ?_, ?_, hq _ fun u hu => h u ?_, hq _ fun u hu => h u ?_⟩
    all_goals first
      | (rw [hq _ fun u hu => h u ?_, hq _ fun u hu => h u ?_])
      | skip
    all_goals simp_all [State.allPlaying, State.allWaiting]
  exact (speechQuiet_iff _).2 hse

/-! ### One utterance in quiet speech -/

/-- Everything is quiet but one utterance that waits. -/
def State.onlyWaits (s : State) (u : Utterance) : Prop :=
  s.se.v0 = none ∧ s.se.v1 = none ∧ s.allWaiting = [u] ∧ s.speechQueue u.requester = [u]

/-- The arbiter starts the one utterance that waits on voice V0. -/
theorem drain_arbitrate_one {s : State} {u : Utterance} (h : s.onlyWaits u) (hb : ∀ c ∈ u.clips.head?, s.clipBad c = false)
    (k : Nat) (ts : List Task) : drain (k + 2) (.arbitrate :: ts) s = drain k ts (s.startUtterance .v0 u) := by
  obtain ⟨h0, h1, hw, hq⟩ := h
  have hq' : s.heads = [u] ∧ (s.startUtterance .v0 u).heads = [] := by
    unfold State.allWaiting at hw
    unfold State.heads State.startUtterance
    rcases u with ⟨hd, r, cl, ro, cs⟩
    rcases r with (_ | _) | _ | _
    all_goals simp only [State.speechQueue, Pair.get] at hq
    all_goals simp only [hq, List.append_eq_singleton_iff, List.append_eq_nil_iff] at hw
    all_goals simp_all [State.setSpeechQueue, State.setVoice, State.speechQueue, Pair.set, Pair.get]
  have hs1 : (s.startUtterance .v0 u).se.v0.isNone = false ∧ (s.startUtterance .v0 u).se.v1 = none := by
    unfold State.startUtterance
    rcases u with ⟨hd, r, cl, ro, cs⟩
    rcases r with (_ | _) | _ | _ <;> exact ⟨rfl, h1⟩
  have hb' : ∀ c, (s.startUtterance .v0 u).clipBad c = s.clipBad c := by
    intro c
    unfold State.startUtterance
    rcases u with ⟨hd, r, cl, ro, cs⟩
    rcases r with (_ | _) | _ | _ <;> rfl
  have harb : s.arbitrate = (s.startUtterance .v0 u, [.arbitrate]) := by
    unfold State.arbitrate
    have he : s.eligible .v0 u = true := by simp [State.eligible, otherVoice, State.voice, h1]
    have hbest : s.bestHead .v0 = some u := by
      simp [State.bestHead, hq'.1, he, State.betterHead]
    simp only [State.voiceToFill, h0, Option.isNone_none, if_true, hbest]
    cases hc : u.clips with
    | nil => rfl
    | cons c cs =>
      have := hb c (by simp [hc])
      simp [hb', this]
  have harb2 : (s.startUtterance .v0 u).arbitrate = (s.startUtterance .v0 u, []) := by
    unfold State.arbitrate
    simp [State.voiceToFill, hs1.1, hs1.2, State.bestHead, hq'.2]
  have e1 : runTask .arbitrate s = (s.startUtterance .v0 u, [.arbitrate]) := by
    simp [runTask, Task.ofSpeech, runLessonTask, harb]
  have e2 : runTask .arbitrate (s.startUtterance .v0 u) = (s.startUtterance .v0 u, []) := by
    simp [runTask, Task.ofSpeech, runLessonTask, harb2]
  rw [show k + 2 = (k + 1) + 1 from rfl, drain_cons, e1]
  rw [List.singleton_append, drain_cons, e2]
  rfl

/-- The arbiter does nothing in quiet speech. -/
theorem drain_arbitrate_quiet {s : State} (h : s.speechQuiet) (k : Nat) (ts : List Task) :
    drain (k + 1) (.arbitrate :: ts) s = drain k ts s := by
  rw [drain_cons]
  simp [runTask, Task.ofSpeech, runLessonTask, arbitrate_quiet h]

/-- Pinning a list changes no clip's readiness. -/
theorem clipReady_pinAll : ∀ (clips : List Nat) (s : State) (j : Nat), (s.pinAll clips).clipReady j = s.clipReady j
  | [], _, _ => rfl
  | c :: cs, s, j => (clipReady_pinAll cs (s.pin c) j).trans (clipReady_pin s c j)

/-- A READY clip is not BAD. -/
theorem clipBad_of_ready {s : State} {j : Nat} (h : s.clipReady j = true) : s.clipBad j = false := by
  unfold State.clipReady at h
  unfold State.clipBad
  cases hc : s.clip j with
  | none => rfl
  | some c => rw [hc] at h; simp at h; simp [h]

/-- The state in which a seat's or the duel's new utterance has been accepted in quiet speech and plays on voice V0. -/
def State.spoken (s : State) (r : Requester) (cls : SpeechClass) (route : BitVec 3) (clips : List Nat) : State :=
  { s.pinAll clips with
    se := { s.se with
      v0 := some ⟨⟨s.freeHandle, r, cls, route, clips⟩, 0, 0, 0⟩
      lastHandle := s.freeHandle
      startOrder := s.se.startOrder.erase r ++ [r] } }

/-- In quiet speech an accepted utterance of a seat or the duel starts at once on voice V0. -/
theorem drain_enqueue_quiet {s : State} (h : s.speechQuiet) {r : Requester} (hr : r ≠ .announce) (cls : SpeechClass)
    (route : BitVec 3) {clips : List Nat} (hc : clips.all s.clipReady = true)
    (k : Nat) (ts : List Task) :
    drain (k + 2) (.arbitrate :: ts) (s.enqueue r cls route clips).2 =
      drain k ts (s.spoken r cls route clips) := by
  obtain ⟨h0, h1, h2, h3, h4⟩ := (speechQuiet_iff s).1 h
  have hse := pinAll_se clips s
  have hw : (s.enqueue r cls route clips).2.onlyWaits ⟨s.freeHandle, r, cls, route, clips⟩ := by
    unfold State.onlyWaits State.enqueue
    rcases r with (_ | _) | _ | _
    all_goals simp_all [State.setSpeechQueue, State.speechQueue, State.allWaiting, Pair.set, Pair.get]
  rw [drain_arbitrate_one hw]
  · congr 1
    unfold State.enqueue State.startUtterance State.spoken
    rcases r with (_ | _) | _ | _
    all_goals simp_all [State.setSpeechQueue, State.speechQueue, State.setVoice, Pair.set, Pair.get]
  · intro c hcm
    have hcl : (s.enqueue r cls route clips).2.clipBad c = (s.pinAll clips).clipBad c := by
      unfold State.enqueue
      rcases r with (_ | _) | _ | _ <;> rfl
    rw [hcl]
    refine clipBad_of_ready ?_
    rw [clipReady_pinAll]
    have : c ∈ clips := List.mem_of_mem_head? hcm
    exact List.all_eq_true.1 hc c this

/-- An empty seat queue has room for any utterance. -/
theorem makeRoom_quiet {s : State} (h : s.speechQuiet) (x : Seat) (cls : SpeechClass) : s.makeRoom x cls = some s := by
  have hq : s.speechQueue (.seat x) = [] := by
    obtain ⟨_, _, h2, _, _⟩ := (speechQuiet_iff s).1 h
    cases x <;> simp [State.speechQueue, h2]
  unfold State.makeRoom
  cases cls <;> simp [hq, roomFor, Room.victim]

/-- A context's firm utterance in quiet speech is accepted and plays on voice V0. -/
theorem drain_firm_quiet {s : State} (h : s.speechQuiet) (hf : s.fb.frozen = false) (x : Seat) (cls : SpeechClass)
    {clips : List Nat} (hne : clips ≠ []) (hc : clips.all s.clipReady = true) (k : Nat) (ts : List Task) :
    drain (k + 3) (.firm x cls clips :: ts) s = drain k ts
      ((s.spoken (.seat x) cls (s.seatRoute x) clips).setCtx x { s.ctx x with firm := some s.freeHandle }) := by
  have hacc : s.acceptSeat x cls clips = some (s.enqueue (.seat x) cls (s.seatRoute x) clips) := by
    simp [State.acceptSeat, hc, makeRoom_quiet h]
  have henq : (s.enqueue (.seat x) cls (s.seatRoute x) clips).1 = s.freeHandle := rfl
  have hctx : (s.enqueue (.seat x) cls (s.seatRoute x) clips).2.ctx x = s.ctx x := by
    unfold State.ctx
    rw [(SpeechOnly.enqueue s (.seat x) cls (s.seatRoute x) clips).ae]
  have hrun : runTask (.firm x cls clips) s = ((s.enqueue (.seat x) cls (s.seatRoute x) clips).2.setCtx x
      { s.ctx x with firm := some s.freeHandle }, [.arbitrate]) := by
    simp only [runTask, hf, Bool.false_and, Bool.false_eq_true, if_false, runLessonTask, State.placeFirm, hne, hacc,
      hctx, henq]
  rw [show k + 3 = (k + 2) + 1 from rfl, drain_cons, hrun]
  obtain ⟨h0, h1, h2, h3, h4⟩ := (speechQuiet_iff s).1 h
  have hse := pinAll_se clips s
  have hpae := (SpeechOnly.pinAll clips s).ae
  have hw : ((s.enqueue (.seat x) cls (s.seatRoute x) clips).2.setCtx x
      { s.ctx x with firm := some s.freeHandle }).onlyWaits ⟨s.freeHandle, .seat x, cls, s.seatRoute x, clips⟩ := by
    unfold State.onlyWaits State.enqueue State.setCtx
    cases x
    all_goals simp_all [State.setSpeechQueue, State.speechQueue, State.allWaiting]
  rw [List.singleton_append, drain_arbitrate_one hw]
  · congr 1
    unfold State.enqueue State.startUtterance State.spoken State.setCtx
    cases x
    all_goals simp_all [State.setSpeechQueue, State.speechQueue, State.setVoice]
  · intro c hcm
    have hcl : ((s.enqueue (.seat x) cls (s.seatRoute x) clips).2.setCtx x
        { s.ctx x with firm := some s.freeHandle }).clipBad c = (s.pinAll clips).clipBad c := by
      unfold State.enqueue
      cases x <;> rfl
    rw [hcl]
    refine clipBad_of_ready ?_
    rw [clipReady_pinAll]
    exact List.all_eq_true.1 hc c (List.mem_of_mem_head? hcm)

/-- DC's firm utterance in quiet speech is accepted and plays on voice V0. -/
theorem drain_duelFirm_quiet {s : State} (h : s.speechQuiet) (hf : s.fb.frozen = false) (cls : SpeechClass)
    {clips : List Nat} (hne : clips ≠ []) (hc : clips.all s.clipReady = true) (k : Nat) (ts : List Task) :
    drain (k + 3) (.duelFirm cls clips :: ts) s = drain k ts
      { s.spoken .duel cls (s.routeOf .duel) clips with dc := { s.dc with firm := some s.freeHandle } } := by
  have hcan : s.cancelHandle s.dc.firm = s := by
    cases s.dc.firm
    · rfl
    · exact cancel_quiet h _
  have hrun : runTask (.duelFirm cls clips) s = ({ (s.enqueue .duel cls (s.routeOf .duel) clips).2 with
      dc := { s.dc with firm := some s.freeHandle } }, [.arbitrate]) := by
    simp only [runTask, hf, Bool.false_and, Bool.false_eq_true, if_false, runLessonTask, State.placeDuelFirm, hne,
      State.dropDuelFirm, hcan, State.acceptDuel]
    have hc' : (clips.all ({ s with dc := { s.dc with firm := none } } : State).clipReady) = true := hc
    rw [if_pos hc']
    have e : ∀ d, ({ s with dc := d } : State).enqueue .duel cls (({ s with dc := d } : State).routeOf .duel) clips =
        (s.freeHandle, { (s.enqueue .duel cls (s.routeOf .duel) clips).2 with dc := d }) := by
      intro d
      have hp : ∀ (cs : List Nat) (u : State), ({ u with dc := d } : State).pinAll cs = { u.pinAll cs with dc := d } := by
        intro cs
        induction cs with
        | nil => intro u; rfl
        | cons c cs ih =>
          intro u
          have hpin : ({ u with dc := d } : State).pin c = { u.pin c with dc := d } := by
            cases c with
            | zero => rfl
            | succ i =>
              simp only [State.pin, State.clip, State.setClip]
              cases u.cs.directory.getD i none <;> rfl
          show (({ u with dc := d } : State).pin c).pinAll cs = _
          rw [hpin, ih]
          rfl
      have hfree : ({ s with dc := d } : State).freeHandle = s.freeHandle := by
        have : ∀ (n m : Nat), ({ s with dc := d } : State).freeHandleFrom n m = s.freeHandleFrom n m := by
          intro n
          induction n with
          | zero => intro m; rfl
          | succ n ih =>
            intro m
            simp only [State.freeHandleFrom, ih]
            rfl
        exact this _ _
      simp only [State.enqueue, hp, hfree]
      rfl
    rw [e]
  rw [show k + 3 = (k + 2) + 1 from rfl, drain_cons, hrun]
  obtain ⟨h0, h1, h2, h3, h4⟩ := (speechQuiet_iff s).1 h
  have hse := pinAll_se clips s
  have hw : ({ (s.enqueue .duel cls (s.routeOf .duel) clips).2 with
      dc := { s.dc with firm := some s.freeHandle } } : State).onlyWaits
        ⟨s.freeHandle, .duel, cls, s.routeOf .duel, clips⟩ := by
    unfold State.onlyWaits State.enqueue
    simp_all [State.setSpeechQueue, State.speechQueue, State.allWaiting]
  rw [List.singleton_append, drain_arbitrate_one hw]
  · congr 1
    unfold State.enqueue State.startUtterance State.spoken
    simp_all [State.setSpeechQueue, State.speechQueue, State.setVoice]
  · intro c hcm
    have hcl : ({ (s.enqueue .duel cls (s.routeOf .duel) clips).2 with
        dc := { s.dc with firm := some s.freeHandle } } : State).clipBad c = (s.pinAll clips).clipBad c := rfl
    rw [hcl]
    refine clipBad_of_ready ?_
    rw [clipReady_pinAll]
    exact List.all_eq_true.1 hc c (List.mem_of_mem_head? hcm)

/-! ### Taking keys -/

/-- An empty key queue gives nothing to take. -/
theorem drain_takeKeys_empty {s : State} {x : Seat} (h : (s.seat x).keys = []) (k : Nat) (ts : List Task) :
    drain (k + 1) (.takeKeys x :: ts) s = drain k ts s := by
  rw [drain_cons]
  have : (runTask (.takeKeys x) s) = (s, []) := by
    unfold runTask
    split
    · rfl
    · simp [runLessonTask, State.takeKey, h]
  rw [this]
  rfl

/-- A context that takes no attempt (IDLE, FEEDBACK or DONE) takes every queued key and discards it (R25, R26). -/
theorem drain_takeKeys_discard (x : Seat) (ts : List Task) : ∀ (ks : List KeyCode) (s : State) (k : Nat),
    (s.seat x).keys = ks → s.fb.frozen = false →
    ((s.ctx x).state = .idle ∨ (s.ctx x).state = .feedback ∨ (s.ctx x).state = .done) →
    drain (k + 1 + ks.length) (.takeKeys x :: ts) s = drain k ts (s.setSeat x { s.seat x with keys := [] })
  | [], s, k, hk, hf, _ => by
    have hs : s.setSeat x { s.seat x with keys := [] } = s := by
      rw [← hk]
      cases x <;> rfl
    rw [hs]
    exact drain_takeKeys_empty hk k ts
  | key :: ks, s, k, hk, hf, hst => by
    have hrun : runTask (.takeKeys x) s = (s.dropKey x, [.takeKeys x]) := by
      simp only [runTask, hf, Bool.false_and, Bool.false_eq_true, if_false, runLessonTask, State.takeKey, hk]
      rcases hst with h | h | h <;> simp [State.keyTake, h]
    have hd : (s.dropKey x).seat x = { s.seat x with keys := ks } := by
      unfold State.dropKey
      rw [State.seat_setSeat_self, hk]
      rfl
    rw [show k + 1 + (key :: ks).length = (k + 1 + ks.length) + 1 from rfl, drain_cons, hrun]
    rw [List.singleton_append]
    rw [drain_takeKeys_discard x ts ks (s.dropKey x) k (by rw [hd]) (by cases x <;> exact hf)
      (by cases x <;> exact hst)]
    rw [hd]
    congr 1
    cases x <;> rfl

end Sys2Proof.Machine
end

