-- ==== Sys2Proof/Laws/Timing.lean ====
section
/-! SUPPORT. What a scan start and the lesson tick it brings do to the Timebase, field by field. -/

namespace Sys2Proof.Machine

@[simp] theorem State.tb_tickSeat (s : State) (x : Seat) : (s.tickSeat x).tb = s.tb := by
  unfold State.tickSeat
  dsimp only
  split <;> cases x <;> rfl

@[simp] theorem State.tb_tickContexts (s : State) : s.tickContexts.tb = s.tb := by
  unfold State.tickContexts
  split <;> rfl

@[simp] theorem State.tb_takeScanStart (s : State) : s.takeScanStart.tb = s.tb := by
  unfold State.takeScanStart
  split
  · rfl
  · exact congrArg (·.1.2.2.2.1) (State.fixed_recordFault s .scanOverrun .nothing 0 none)

/-- A lesson tick takes the stored divisor into use with the count at 0 (R141, R142). -/
@[simp] theorem State.tb_lessonTick (s : State) : s.lessonTick.tb =
    { s.tb with count := 0, counter := wrapSucc s.tb.counter, divisorInUse := s.cfg.tickDivisor } := by
  simp [State.lessonTick]

/-- All that a scan start does to the Timebase (R137, R141). -/
theorem State.tb_issueScanStart (s : State) : s.issueScanStart.tb =
    if s.tb.divisorInUse ≤ s.tb.count + 1 then
      { generator := .running s.cfg.scanDivisor, count := 0, counter := wrapSucc s.tb.counter
        divisorInUse := s.cfg.tickDivisor }
    else { s.tb with generator := .running s.cfg.scanDivisor, count := s.tb.count + 1 } := by
  unfold State.issueScanStart State.countScanStart State.tickIsNext State.loadGenerator
  split <;> simp_all

/-- A scan start leaves the tick divider's count below the divisor in use (R141). -/
theorem State.count_issueScanStart (s : State) (h : 0 < s.cfg.tickDivisor) :
    s.issueScanStart.tb.count < s.issueScanStart.tb.divisorInUse := by
  rw [State.tb_issueScanStart]
  split
  · exact h
  · exact Nat.lt_of_not_le ‹_›

/-- LESSON_TICK in STOPPED does nothing (R142). -/
theorem State.tickStart_stopped (s : State) (h : s.tb.generator = .stopped) : s.tickStart = s := by
  simp [State.tickStart, State.scanStart, State.generatorRuns, h]

end Sys2Proof.Machine
end

