-- ==== Sys2Proof/Tests/Slice0.lean ====
section
/-! SUPPORT. Tests of the model: the ill-formed commands that the well-formedness check refuses, the worked values of
the manual, commands run once on small states, and for every statement with hypotheses a state and operands that meet
them, clause by clause at the bounds. -/

set_option Elab.async false

namespace Sys2Proof.Tests

open Sys2Proof Sys2Proof.Machine

/-! ### Small states -/

/-- The word "cat" as a word entry, with clip 1 as its word clip. -/
def cat : WordEntry :=
  { wordId := 700, owner := .seatA, spelling := [3, 1, 20], wordClip := 1, sentenceClip := none, hintClip := none,
    box := 2, streak := 1, attempts := 4, misses := 1, rest := 3, mastered := false, lastMistake := none }

/-- A READY seat record with a keyboard of kind 1. -/
def readySeat : SeatRecord :=
  { SeatRecord.fresh with
    state := .ready, senseLine := true, settled := true, settleTimer := none, mapSlot := some 0
    identity := some ⟨1, 0, 49⟩ }

/-- Clip 1: READY, four U8 bytes in block 0. -/
def clip1 : Clip :=
  { state := .ready, format := .u8, rate := 8000, length := 4, firstBlock := 0, blockCount := 1, crc := 0, fill := 4,
    pins := 0, badCause := none }

/-- A key map of kind 1: the letter 3 at row 0, step 0. -/
def map1 : KeyMap := { tag := 1, entries := .letter 3 :: List.replicate 55 .unused }

/-- Both seats READY, clip 1 READY, "cat" in slot 0, refill off. -/
def base : State :=
  { State.reset with
    cfg := { Configuration.fresh with refillMark := 0 }
    ks := { State.reset.ks with seats := ⟨readySeat, readySeat⟩, map0 := map1 }
    wt := State.reset.wt.set 0 (.occupied cat true)
    cs := { ClipStore.fresh with
      directory := ClipStore.fresh.directory.set 0 (some clip1), blocks := ClipStore.fresh.blocks.set 0 (some 1) } }

/-- A context at work on "cat" in WORDWISE style, with an idle timer that has run out. -/
def typing : Context :=
  { Context.fresh with
    mode := .solo, style := .wordwise, state := .typing, target := some 0, copy := some cat.copy
    idleRunning := true, startTick := some 0 }

/-- Seat A at work on "cat". -/
def atWork : State := base.setCtx .a typing

/-- An utterance of clip 1 on its way out of V0. -/
def spoken (r : Requester) (cls : SpeechClass) : Playing := ⟨⟨7, r, cls, 1, [1]⟩, 0, 0, 0⟩

/-- The base state with an utterance of clip 1 playing on V0. -/
def speaking (r : Requester) (cls : SpeechClass) : State :=
  ({ base with se := { base.se with v0 := some (spoken r cls) } }).setClip 1 (some { clip1 with pins := 1 })

/-- A part of a duel for a seat still in the race. -/
def inRace : SeatRound := { status := some .typing, lateCorrect := false, record := .notBuilt, ended := none }

/-- A judgement of round 1. -/
def judged (equal atLimit : Bool) : Judgement := ⟨1, equal, atLimit, none, true⟩

/-- A duel of 3 rounds in its first race, with a judgement of seat A in flight. -/
def race (j : Judgement) : State :=
  { base with
    ae := ⟨{ typing with mode := .duel, tries := 1 }, { typing with mode := .duel }⟩
    dc := { DuelRecord.fresh with
      state := .racing, total := 3, round := 1, target := some 0, copy := some cat.copy, seats := ⟨inRace, inRace⟩
      judgements := ⟨some j, none⟩ } }

/-- Full key queues at both seats. -/
def fullKeys (s : State) : State :=
  let r := { readySeat with keys := List.replicate 16 .enter }
  (s.setSeat .a r).setSeat .b r

/-- The base state with a part condition. -/
def under (c : Condition) (s : State) : State := { s with fb := { s.fb with condition := c } }

/-- The base state with a number of replies waiting. -/
def withReplies (n : Nat) : State := { base with lp := { base.lp with replies := List.replicate n ⟨0x81, 0, [0]⟩ } }

/-- The base state with a partial frame. -/
def withFrame (bytes : List Byte) : State :=
  { base with lp := { base.lp with assembler := .inFrame bytes, gapTimer := some 24000 } }

/-- A result record of seat A. -/
def record : ResultRecord := soloRecord .a typing cat.copy .abandoned 2 false

/-- The base state with two records in the log. -/
def logged : State := { base with rl := { base.rl with records := [record, record], counter := 2 } }

/-- The checks around a request, as a decision. -/
def passes (s : State) (c : Instr) : Bool :=
  !s.resetHeld && !s.repliesFull && c.wellFormed && (!decide (s.fb.condition = .lockdown) || c.passesLockdown)

/-- A request that passes them is taken. -/
theorem takes_of {s : State} {c : Instr} (h : passes s c = true) : s.takes c := by
  simp only [passes, Bool.and_eq_true, Bool.or_eq_true, Bool.not_eq_true', decide_eq_false_iff_not] at h
  exact ⟨h.1.1.1, h.1.1.2, h.1.2, fun l => h.2.resolve_left (fun n => n l)⟩

/-- What holds of both seats holds of each. -/
theorem eachSeat {p : Seat → Prop} (a : p .a) (b : p .b) : ∀ x, p x
  | .a => a
  | .b => b

/-- The state a command leaves. -/
def after (c : Instr) (s : State) : State :=
  match exec c s with
  | .next t => t
  | .fault _ | .refused _ => s

/-! ### Well-formedness -/

/-- The well-formedness check refuses every list that is not as long as its layout says. -/
theorem test_illFormed :
    (Instr.putWord 0 0 ⟨1, 0, 1, List.replicate 15 0, 1, 0, 0, 0, 0, 0, 0, 0, 0, 0, 0, 0, 0⟩).wellFormed = false ∧
    (Instr.setCues 0 (List.replicate 7 0)).wellFormed = false ∧
    (Instr.setLetters 0 (List.replicate 28 0)).wellFormed = false ∧
    (Instr.loadKeyMap 0 0 1 0 1 (List.replicate 6 0)).wellFormed = false ∧
    (Instr.loadKeyMap 0 0 1 0 8 (List.replicate 56 0)).wellFormed = false ∧
    (Instr.announce 0 1 2 [1]).wellFormed = false ∧ (Instr.announce 0 1 55 (List.replicate 55 1)).wellFormed = false ∧
    (Instr.clipData 0 1 0 2 [1]).wellFormed = false ∧
    (Instr.clipData 0 1 0 53 (List.replicate 53 1)).wellFormed = false := by decide +kernel

/-- A request with a list of another length than its layout gives is answered BAD_LENGTH and not carried out. -/
theorem test_badLength : (after (.setCues 3 []) base).lp.replies = [⟨0xA9, 3, [0x04]⟩] ∧
    (after (.setCues 3 []) base).se = base.se := by decide +kernel

/-! ### Worked values of the manual -/

/-- The nine bytes 49 to 57 have CRC 36974 (R176). -/
theorem test_crcExample : crc16 [49, 50, 51, 52, 53, 54, 55, 56, 57] = 36974#16 := by decide +kernel

/-- An identity of kind 1 and serial 0 has check byte 49, one of kind 0 and serial 0 has 0 (R124). -/
theorem test_identityCheckExample : identityCheck 1 0 = 49#8 ∧ identityCheck 0 0 = 0#8 := by decide +kernel

/-- Examples of classification: "hose" for "house", "leter" for "letter" (R63, R65), a letter added after the end (R66),
a submission cut short by two (R67), and the neighbours of R68. -/
theorem test_mistakeExamples :
    classifyWord [8, 15, 21, 19, 5] [8, 15, 19, 5] = ⟨.omission, 2, some 21, some 19⟩ ∧
    classifyWord [12, 5, 20, 20, 5, 18] [12, 5, 20, 5, 18] = ⟨.omission, 2, some 20, some 20⟩ ∧
    classifyWord [3, 1, 20] [3, 1, 20, 19] = ⟨.insertion, 3, none, some 19⟩ ∧
    classifyWord [3, 1, 20] [3, 1, 20, 20] = ⟨.doubling, 2, some 20, some 20⟩ ∧
    classifyWord [3, 1, 20] [3, 20, 1] = ⟨.transposition, 1, some 1, some 20⟩ ∧
    classifyWord [3, 1, 20] [2, 1, 20] = ⟨.substitution, 0, some 3, some 2⟩ ∧
    classifyWord [3, 1, 20] [3] = ⟨.general, 1, some 1, none⟩ ∧
    classifyLetter [3, 1, 20] 1 20 = ⟨.omission, 1, some 1, some 20⟩ ∧
    classifyLetter [3, 1, 20] 1 3 = ⟨.doubling, 1, some 1, some 3⟩ ∧
    classifyLetter [3, 1, 20] 2 3 = ⟨.substitution, 2, some 20, some 3⟩ := by decide +kernel

/-- The bounds of the decode windows (R110). -/
theorem test_decodeBounds :
    decodeLevel 23 = .ambiguous ∧ decodeLevel 24 = .step 0 ∧ decodeLevel 104 = .step 0 ∧ decodeLevel 105 = .ambiguous ∧
    decodeLevel 792 = .step 6 ∧ decodeLevel 872 = .step 6 ∧ decodeLevel 873 = .ambiguous ∧
    decodeLevel 919 = .ambiguous ∧ decodeLevel 920 = .idle ∧ decodeLevel 1023 = .idle := by decide +kernel

/-! ### Commands run once -/

/-- Three replies lower the ready line; four turn STATUS away with OVERRUN (R203, R207). -/
theorem test_fullQueue : (withReplies 3).readyHigh = false ∧ (withReplies 2).readyHigh = true ∧
    ((after (.status 1) (withReplies 4)).fb.link.held.map (·.code)) = some .overrun ∧
    (after (.status 1) (withReplies 4)).lp = (withReplies 4).lp := by decide +kernel

/-- START_SOLO in WORDWISE with "cat" queued: PROMPTING, and the prompt of the word clip twice plays on V0 (R32). -/
theorem test_startSolo :
    let t := after (.startSolo 9 0 1 0) { base with ps := { base.ps with practice := ⟨[0], []⟩ } }
    t.ae.a.state = .prompting ∧ t.ae.a.target = some 0 ∧
    (t.se.v0.map (·.utterance.clips)) = some [1, 1] ∧ t.ae.a.firm = some 1 ∧ (t.clip 1).map (·.pins) = some 2 ∧
    t.lp.replies = [⟨0x90, 9, [0]⟩] := by decide +kernel

/-- The prompt ends DONE: TYPING, with the start tick and the idle timer (R33). -/
theorem test_promptDone :
    let t := after (.startSolo 9 0 1 0) { base with ps := { base.ps with practice := ⟨[0], []⟩ } }
    let u := after (.utteranceDone .v0) t
    u.ae.a.state = .typing ∧ u.ae.a.startTick = some 0 ∧ u.ae.a.idleTimer = 800 ∧ u.ae.a.idleRunning = true ∧
    u.se.v0 = none ∧ (u.clip 1).map (·.pins) = some 0 := by decide +kernel

/-- A first try that is right ends the attempt CORRECT; with no CHIME loaded its record goes straight to the log, box 3,
and the context is DONE for want of words (R38, R42, R44, R47). -/
theorem test_correctTry :
    let s := base.setCtx .a { typing with typed := [3, 1, 20] }
    let t := Act.done (s.judgeKey .a .enter)
    (t.rl.records.map fun r => (r.outcome, r.tries, r.boxAfter, r.number)) = [(.correct, 1, 3, some 0)] ∧
    t.ae.a.state = .done ∧ (t.entry 0).map (·.box) = some 3 ∧ t.au.raised = 4#16 := by decide +kernel

/-- STOP_SEAT puts the word back at the head of its queue and appends an ABANDONED record (R17, R50). -/
theorem test_stopSeat :
    let t := after (.stopSeat 2 0) atWork
    t.ae.a.state = .idle ∧ t.ae.a.mode = .off ∧ t.ps.practice.a = [0] ∧
    (t.rl.records.map (·.outcome)) = [.abandoned] := by decide +kernel

/-- RESUME_SEAT after PAUSE_SEAT prompts the word again (R48, R49). -/
theorem test_pauseResume :
    let t := after (.pauseSeat 2 0) atWork
    let u := after (.resumeSeat 3 0) t
    t.ae.a.state = .paused ∧ t.ae.a.pauseCause = some .host ∧ u.ae.a.state = .prompting ∧
    (u.se.v0.map (·.utterance.clips)) = some [1] := by decide +kernel

/-- SKIP_WORD ends the attempt SKIPPED with no progress (R51). -/
theorem test_skipWord :
    let t := after (.skipWord 2 0) atWork
    (t.rl.records.map (·.outcome)) = [.skippedHost] ∧ t.wt = atWork.wt ∧ t.ae.a.state = .done := by decide +kernel

/-- The first idle expiry nudges (R41). -/
theorem test_idleExpiry : (after (.idleExpiry .a) atWork).ae.a.nudges = 1 ∧
    (after (.idleExpiry .a) atWork).ae.a.state = .prompting := by decide +kernel

/-- START_DUEL with no word finishes NO_WORDS (R75). -/
theorem test_startDuel : (after (.startDuel 1 3 0) base).dc.state = .finished ∧
    (after (.startDuel 1 3 0) base).dc.finish = some .noWords := by decide +kernel

/-- An EQUAL judgement wins the round and its feedback plays to both headphones (R81, R85, R151). -/
theorem test_judgementTaken :
    let t := after (.judgementTaken .a) (race (judged true false))
    t.dc.state = .settling ∧ t.dc.scores = ⟨1, 0⟩ ∧ t.dc.winner = some .a ∧ t.dc.result = some .correct ∧
    (t.se.v0.map fun p => (p.utterance.cls, p.utterance.route)) = some (.feedback, 3#3) := by decide +kernel

/-- STOP_DUEL breaks the round off: the word is back in the duel queue and both records are in the log (R88, R89). -/
theorem test_stopDuel :
    let t := after (.stopDuel 1) (race (judged true false))
    t.dc.state = .finished ∧ t.ps.duel = [0] ∧ t.rl.records.length = 2 ∧ t.ae.a.mode = .off ∧ t.ae.b.mode = .off := by
  decide +kernel

/-- A seat loss marks the stop of a context whose record waits, and the record stays in the line (R23, R53). -/
theorem test_seatLoss :
    let seat := { readySeat with settleTimer := some 1, senseLine := false }
    let s := (base.setSeat .a seat).setCtx .a { typing with state := .waitingLog, pendingRecord := some record }
    let t := after (.senseSettled .a) s
    t.ae.a.stopMarked = true ∧ t.ae.a.state = .waitingLog ∧ t.ae.a.pendingRecord = some record := by decide +kernel

/-- A round settled in HOLD withdraws DC's prompt, so that CLEAR_HOLD goes to its round close (R91, R92). -/
theorem test_settledInHold :
    let s := { under .hold (race (judged true false)) with se := (speaking .duel .prompt).se, cs := (speaking .duel .prompt).cs }
    let t := after (.judgementTaken .a) { s with dc := { s.dc with firm := some 7 } }
    t.dc.state = .settling ∧ t.dc.firm = none ∧ t.se.v0 = none ∧ (t.clip 1).map (·.pins) = some 0 ∧
    (after (.clearHold 1) t).rl.records.length = 2 := by decide +kernel

/-- A break-off discards the keys queued behind a submission in flight before the record waits for a full log (R26, R88). -/
theorem test_breakOffKeys :
    let s := fullKeys (race (judged true false))
    let t := after (.stopDuel 1) { s with rl := { s.rl with records := List.replicate 32 record } }
    t.ae.a.state = .waitingLog ∧ (t.seat .a).keys = [] ∧ (t.seat .b).keys = [] ∧ t.ae.a.mode = .duel ∧
    t.rl.waiting = [.a, .b] := by decide +kernel

/-- A key-down at the third of three equal decodes reaches the key queue of a paused seat (R115, R119). -/
theorem test_rowConversion :
    let row : RowRecord := { RowRecord.fresh with candidate := .step 0, streak := 2 }
    let s := (base.setSeat .a (readySeat.setRow 0 row)).setCtx .a { typing with state := .paused }
    let t := after (.rowConversionComplete 64) { s with ks := { s.ks with scan := some ⟨0, false, ⟨⟨0, none⟩, ⟨0, none⟩⟩⟩ } }
    (t.seat .a).keys = [.letter 3] ∧ (t.ks.scan.map (·.row)) = some 1 := by decide +kernel

/-- An identity of kind 1 takes the seat to CHECKING with the map slot that carries kind 1 (R127). -/
theorem test_identityRead :
    let s := base.setSeat .a { SeatRecord.fresh with state := .identifying }
    ((after (.identityReadComplete .a (some ⟨1, 0, 49⟩)) s).seat .a).state = .checking ∧
    ((after (.identityReadComplete .a (some ⟨1, 0, 48⟩)) s).seat .a).readFailures = 1 := by decide +kernel

/-- OPEN_CLIP takes the lowest free block; CLIP_DATA and COMMIT_CLIP fill and verify the clip (R173 to R177). -/
theorem test_clipLoading :
    let t := after (.openClip 1 2 0 0 9 36974) base
    let u := after (.clipData 2 2 0 9 [49, 50, 51, 52, 53, 54, 55, 56, 57]) t
    let v := after .verifyComplete (after (.commitClip 3 2) u)
    (t.clip 2).map (·.firstBlock) = some 1 ∧ (u.clip 2).map (·.fill) = some 9 ∧ Memory.read u.cs.bytes 1032 = 57 ∧
    Memory.wf u.cs.bytes = true ∧ (v.clip 2).map (·.state) = some .ready ∧
    (v.lp.replies.map (·.payload)) = [[0, 1, 0, 1], [0, 9, 0], [1]] := by decide +kernel

/-- DELETE_CLIP of a pinned clip makes it RETIRING; its last unpin frees it (R178, R179). -/
theorem test_deleteClip :
    let t := after (.deleteClip 1 1) (speaking .announce .announce)
    let u := after (.utteranceDone .v0) t
    (t.clip 1).map (·.state) = some .retiring ∧ u.clip 1 = none ∧ u.isPending .clipFreed = true ∧
    u.se.lastAnnounce = some ⟨7, .done⟩ := by decide +kernel

/-- A parity error: BAD clip, CLIP_PARITY in the AUDIO bank, HOLD (R157, R194). -/
theorem test_clipParity :
    let t := after (.clipParity .v0 true) (speaking .announce .announce)
    (t.clip 1).map (·.state) = some .bad ∧ t.fb.condition = .hold ∧ (t.fb.audio.held.map (·.code)) = some .clipParity ∧
    t.se.lastAnnounce = some ⟨7, .failed⟩ := by decide +kernel

/-- The order R157 leaves open, for a solo prompt: the report first goes to TYPING with the hold entry outstanding, HOLD first
pauses the attempt. For an announcement whose clip another waits for, the other's end comes last (R155, R158). -/
theorem test_parityOrder :
    let s := (speaking (.seat .a) .prompt).setCtx .a { typing with state := .prompting, firm := some 7 }
    let u := speaking .announce .announce
    let waits := { u with se := { u.se with announceQueue := [⟨8, .announce, .announce, 1, [1]⟩] } }
    (after (.clipParity .v0 false) s).ae.a.state = .typing ∧ (after (.clipParity .v0 false) s).fb.holdDue = true ∧
    (after (.clipParity .v0 true) s).ae.a.state = .paused ∧ (after (.clipParity .v0 true) s).fb.holdDue = false ∧
    (after (.clipParity .v0 true) waits).se.lastAnnounce = some ⟨8, .failed⟩ := by decide +kernel

/-- ANNOUNCE plays at once on a free voice, and CANCEL_ANNOUNCE stops it (R162, R163). -/
theorem test_announce :
    let t := after (.announce 1 4 2 [1, 1]) base
    (t.clip 1).map (·.pins) = some 2 ∧ (t.se.v0.map (·.utterance.route)) = some 4#3 ∧
    (after (.cancelAnnounce 2 0 1) t).se.lastAnnounce = some ⟨1, .cancelled⟩ ∧
    (after (.cancelAnnounce 2 0 1) t).clip 1 = some clip1 := by decide +kernel

/-- The speaker carries 0 for the U8 byte 128 and the volume 8 of 15 of 127 times 256 for 255 (R167). -/
theorem test_channelSample :
    let s := { speaking .announce .announce with cs := { (speaking .announce .announce).cs with bytes := [(0, 255)] } }
    let p : Playing := ⟨⟨7, .announce, .announce, 4, [1]⟩, 0, 0, 0⟩
    ({ s with se := { s.se with v0 := some p } }).channelSample .speaker = 17339 ∧ s.channelSample .phonesB = 0 := by
  decide +kernel

/-- CONVERTER_TIMEOUT abandons the scan, stops the generator and brings about HOLD (R113). -/
theorem test_converterTimeout :
    let s := { base with ks := { base.ks with scan := some ⟨9, false, ⟨⟨8, none⟩, ⟨1, none⟩⟩⟩ },
                         tb := { base.tb with generator := .running 5 } }
    (after .converterTimeout s).tb.generator = .stopped ∧ (after .converterTimeout s).ks.scan = none ∧
    (after .converterTimeout s).fb.condition = .hold ∧
    ((after .converterTimeout s).fb.scan.held.map (·.detail)) = some 9 := by decide +kernel

/-- A scan start with a scan in progress is dropped with SCAN_OVERRUN, and counts (R112). -/
theorem test_scanOverrun :
    let s := { base with ks := { base.ks with scan := some ⟨9, false, ⟨⟨8, none⟩, ⟨1, none⟩⟩⟩ },
                         tb := { base.tb with generator := .running 5 } }
    (after .scanStartIssued s).tb.count = 1 ∧
    ((after .scanStartIssued s).fb.scan.held.map (·.code)) = some .scanOverrun := by decide +kernel

/-- The scan start that brings the tick divider to the divisor in use issues a lesson tick, which counts the held row of a
READY seat and the elapsed time of the attempt (R28, R117, R141); LESSON_TICK is that scan start, and stopped there is none
(R142). -/
theorem test_lessonTick :
    let r := atWork.setSeat .a (readySeat.setRow 2 { RowRecord.fresh with stable := .step 1, holdCount := 299 })
    let s := { r with tb := { r.tb with generator := .running 1, count := 9 } }
    let t := after .scanStartIssued s
    t.tb = ⟨.running 12000, 10, 0, 1⟩ ∧ t.ae.a.elapsed = 1 ∧ ((t.seat .a).row 2).holdCount = 300 ∧
    ((after (.holdAlert .a 2) t).seat .a).holdRows = 4#8 ∧ after .lessonTick s = t ∧ after .lessonTick t = t ∧
    (let stopped := { s with tb := { s.tb with generator := .stopped } }
     after .lessonTick stopped = stopped ∧ after .scanStartIssued stopped = stopped) := by decide +kernel

/-- RESTART LESSON keeps the words and the clips; RESTART FULL does not (R214, R215). -/
theorem test_restarts : (after (.restartLesson 1) atWork).wt = atWork.wt ∧
    (after (.restartLesson 1) atWork).ae.a.mode = .off ∧ (after (.restartLesson 1) atWork).clip 1 = some clip1 ∧
    (after (.restartFull 1) atWork).wt = State.reset.wt ∧ (after (.restartFull 1) atWork).clip 1 = none := by
  decide +kernel

/-- A STATUS frame, byte by byte at the end: the byte that completes it queues the reply (R203, R212). -/
theorem test_frame :
    let f := frameOf 0x01 5 []
    let s := withFrame (f.take 5)
    (f[5]?).map (fun last => ((after (.byteReceived ⟨last, .mark⟩) s).lp.replies.map fun r => (r.kind, r.tag, r.payload.length),
      (after (.frameComplete last) s).lp.assembler)) = some ([(0x81, 5, 14)], .hunting) := by decide +kernel

/-! ### Witnesses: states and operands that meet the hypotheses of the statements

Each names the statement it is for; a conjunct in brackets is one clause, at a bound where the clause has one. -/

/-- StepRunsFrontCommand, and that a step runs it. -/
theorem test_hyp_stepRunsFront :
    let s : State := { base with pending := [.linkBreak, .lessonTick] }
    s.pending = .linkBreak :: [.lessonTick] ∧ step s = exec .linkBreak { s with pending := [.lessonTick] } := ⟨rfl, rfl⟩

/-- IdleStepMovesTimersOnly. -/
theorem test_hyp_idleStep : (base.pending = [] ∧ base.resetHeld = false) ∧
    (({ base with resetHeld := true }).pending = [] ∧ ({ base with resetHeld := true }).resetHeld = true) := by
  decide +kernel

/-- TakenRequestIsAnsweredOnce: with 3 replies waiting, and in LOCKDOWN for one of the five. -/
theorem test_hyp_takenRequest :
    ((Instr.status 1).isRequest = true ∧ (withReplies 3).takes (.status 1)) ∧
    ((Instr.restartFull 1).isRequest = true ∧ (under .lockdown base).takes (.restartFull 1)) :=
  ⟨⟨rfl, takes_of (by decide +kernel)⟩, rfl, takes_of (by decide +kernel)⟩

/-- FullQueueOrLockdownTurnsRequestAway. -/
theorem test_hyp_fullQueueOrLockdown :
    ((Instr.status 1).isRequest = true ∧ (withReplies 4).resetHeld = false ∧ 4 ≤ (withReplies 4).lp.replies.length) ∧
    (let s := under .lockdown (withReplies 3)
     (Instr.clearHold 1).isRequest = true ∧ s.resetHeld = false ∧ s.lp.replies.length < 4 ∧
     (Instr.clearHold 1).wellFormed = true ∧ s.fb.condition = .lockdown) ∧
    (∀ tag, Instr.clearHold 1 ≠ .status tag) ∧ (∀ tag b, Instr.clearHold 1 ≠ .readFaults tag b) ∧
    (∀ tag, Instr.clearHold 1 ≠ .readAttention tag) ∧ (∀ tag x, Instr.clearHold 1 ≠ .readAttempt tag x) ∧
    ∀ tag, Instr.clearHold 1 ≠ .restartFull tag :=
  ⟨by decide +kernel, by decide +kernel, fun _ => nofun, fun _ _ => nofun, fun _ => nofun, fun _ _ => nofun,
    fun _ => nofun⟩

/-- RequestPayloadsParseBack: the longest CLIP_DATA. -/
theorem test_hyp_parseBack :
    let c := Instr.clipData 1 160 0xFFFF 52 (List.replicate 52 0xFF)
    c.isRequest = true ∧ c.wellFormed = true ∧ c.payload.length = 56 := by decide +kernel

/-- The base state with a partial frame and a character held back. -/
def holding (bytes : List Byte) (v : Byte) : State := (withFrame bytes).setLine (.heldBack v)

/-- CompletedFrameRunsItsRequest: the frame of a CLIP_STATUS, of which the last byte is to come, or is held back. -/
theorem test_hyp_completedFrame :
    let c := Instr.clipStatus 5 160
    let f := frameOf c.kind c.tag c.payload
    let s := withFrame (f.take 6)
    c.isRequest = true ∧ c.wellFormed = true ∧ s.resetHeld = false ∧ s.lp.replies.length < 4 ∧
    s.lp.assembler = .inFrame (f.take 6) ∧ f = f.take 6 ++ [f.getD 6 0] ∧ s.takes c ∧
    s.takesByte (f.getD 6 0) (f.getD 6 0) ∧ (holding (f.take 6) (f.getD 6 0)).takesByte 0 (f.getD 6 0) := by
  intro c f s
  and_intros
  all_goals first
    | exact takes_of (by decide +kernel)
    | exact .inl rfl
    | exact .inr ⟨nofun, rfl⟩
    | decide +kernel

/-- FrameWithBadCrcIsNotExecuted: an empty payload and one of a byte. -/
theorem test_hyp_badCrc :
    (let s := withFrame ([0xC3, 0, 1, 5] ++ [] ++ [0])
     s.resetHeld = false ∧ s.lp.replies.length < 4 ∧ (0#8).toNat = ([] : List Byte).length ∧
     s.lp.assembler = .inFrame ([0xC3, 0, 1, 5] ++ [] ++ [0]) ∧
     [0, 0] ≠ lowFirst (crc16 ([0, 1, 5] ++ [])).toNat) ∧
    (let s := withFrame ([0xC3, 1, 0x34, 5] ++ [7] ++ [0])
     s.resetHeld = false ∧ s.lp.replies.length < 4 ∧ (1#8).toNat = ([7] : List Byte).length ∧
     s.lp.assembler = .inFrame ([0xC3, 1, 0x34, 5] ++ [7] ++ [0]) ∧
     [0, 0] ≠ lowFirst (crc16 ([1, 0x34, 5] ++ [7])).toNat) := by decide +kernel

/-- LinkEventsActOnTheLink: each clause of the bytes, the lengths 56 and 57 among them, and of the other events. -/
theorem test_hyp_linkEvents :
    (base.lp.assembler = .hunting ∧ (0x00 : Byte) ≠ 0xC3 ∧ base.resetHeld = false) ∧
    ((withFrame [0xC3]).lp.assembler = .inFrame [0xC3] ∧ 56 < (57#8).toNat ∧ (57 : Byte) ≠ 0xC3 ∧ (56#8).toNat ≤ 56) ∧
    ((withFrame [0xC3, 0, 1, 5]).lp.assembler = .inFrame (0xC3 :: 0 :: [1, 5]) ∧
      ([1, 5] : List Byte).length + 3 ≠ (0#8).toNat + 6) ∧
    ((withFrame [0xC3, 0, 1, 5]).lp.gapTimer = some 24000 ∧ (withFrame [0xC3]).resetHeld = false) ∧
    base.lp.gapTimer = none ∧ base.lp.replies = [] := by decide +kernel

/-- LinkEventsActOnTheLink and FrameWithBadCrcIsNotExecuted: what is taken with the line at mark, at space and with a character
held back. -/
theorem test_hyp_receiveLine :
    base.takesByte 7 7 ∧ (base.setLine .space).takesByte 7 7 ∧ (base.setLine (.heldBack 8)).takesByte 7 8 ∧
    (base.setLine (.heldBack 8)).lp.line = .heldBack 8 ∧ ∀ h, base.lp.line ≠ .heldBack h :=
  ⟨.inr ⟨nofun, rfl⟩, .inr ⟨nofun, rfl⟩, .inl rfl, rfl, nofun⟩

/-- A character with its stop bit at space is held back, is taken as the line returns to mark, and is lost in a break (R199,
R208). -/
theorem test_heldBack :
    let held := after (.byteReceived ⟨0xC3, .space⟩) base
    held.lp.assembler = .hunting ∧ held.lp.line = .heldBack 0xC3 ∧
    (after (.byteReceived ⟨0, .mark⟩) held).lp.assembler = .inFrame [0xC3] ∧
    (after (.byteReceived ⟨0xC3, .mark⟩) (after .linkBreak held)).lp.assembler = .inFrame [0xC3] ∧
    (after (.byteReceived ⟨0, .mark⟩) (after .linkBreak held)).lp.assembler = .hunting := by decide +kernel

/-- ReadyLineFollowsReplyQueue: 0, 1, 2, 3 and 4 replies. -/
theorem test_hyp_readyLine : (withReplies 0).lp.replies.length = 0 ∧ (withReplies 1).lp.replies.length = 1 ∧
    (withReplies 2).lp.replies.length = 2 ∧ (withReplies 3).lp.replies.length = 3 ∧
    (withReplies 4).lp.replies.length = 4 ∧ (withReplies 4).resetHeld = false := by decide +kernel

/-- ResetsSetEveryBlock, and LessonRestartClearsLessons in HOLD. -/
theorem test_hyp_resets : (under .lockdown base).takes (.restartFull 1) ∧
    ({ base with resetHeld := true }).resetHeld = true ∧ (under .hold atWork).takes (.restartLesson 1) :=
  ⟨takes_of (by decide +kernel), rfl, takes_of (by decide +kernel)⟩

/-- An image of the largest configuration. -/
def image : ConfigImage := ⟨0xFFFF, 255, 15, 2000, 6000, 3, 3, 5, 5, 7, 5, 8, 15, 31⟩

/-- ConfigureStoresAllOrNone: every field at its upper bound; and a target that is not above the mark. -/
theorem test_hyp_configure : base.takes (.configure 1 image) ∧ (configOf image).valid = true ∧
    (after (.configure 1 image) base).takes (.readConfig 2) ∧
    (configOf { image with refillMark := 5, refillTarget := 5 }).valid = false ∧
    base.takes (.configure 1 { image with refillMark := 5, refillTarget := 5 }) ∧
    ((5#8).toNat ≤ (5#8).toNat) :=
  ⟨takes_of (by decide +kernel), by decide +kernel, takes_of (by decide +kernel), by decide +kernel,
    takes_of (by decide +kernel), by decide⟩

/-- ReadsAnswerAndChangeNothing: each read at the bound of its operand. -/
theorem test_hyp_reads :
    (under .lockdown base).takes (.status 1) ∧ base.takes (.readConfig 1) ∧
    (base.takes (.getWord 1 95) ∧ (95#8).toNat < 96) ∧ (base.takes (.readQueue 1 2) ∧ queueOf 2 = some .duel) ∧
    ((under .lockdown base).takes (.readAttempt 1 1) ∧ seatOf 1 = some .b) ∧ base.takes (.readDuel 1) ∧
    (base.takes (.peekResults 1 1) ∧ base.takes (.peekResults 1 2) ∧ (2#8).toNat = 2) ∧
    (base.takes (.readSpeech 1 5) ∧ partOf 5 = some .letters) ∧
    (base.takes (.clipStatus 1 160) ∧ 1 ≤ (160#8).toNat ∧ (160#8).toNat ≤ 160) ∧ base.takes (.storeStatus 1) ∧
    ((under .lockdown base).takes (.readFaults 1 4) ∧ readBanksOf 4 = some [.link, .scan, .audio, .lesson]) :=
  ⟨takes_of (by decide +kernel), takes_of (by decide +kernel), ⟨takes_of (by decide +kernel), by decide⟩,
    ⟨takes_of (by decide +kernel), rfl⟩, ⟨takes_of (by decide +kernel), rfl⟩, takes_of (by decide +kernel),
    ⟨takes_of (by decide +kernel), takes_of (by decide +kernel), rfl⟩, ⟨takes_of (by decide +kernel), rfl⟩,
    ⟨takes_of (by decide +kernel), by decide, by decide⟩, takes_of (by decide +kernel), takes_of (by decide +kernel), rfl⟩

/-- A slot of the empty table holds no entry. -/
theorem entry_reset (k : Nat) : State.reset.entry k = none := by
  have h : State.reset.slot k = .empty := by
    show (List.replicate 96 Slot.empty).getD k .empty = .empty
    rw [List.getD_eq_getElem?_getD, List.getElem?_replicate]
    split <;> rfl
  simp [State.entry, h]

/-- "cat" is a lawful entry. -/
theorem cat_lawful : cat.lawful := by
  unfold WordEntry.lawful lettersGood letterGood mistakeGood
  and_intros
  all_goals first
    | decide
    | nofun

/-- The longest word: 16 letters, with every optional field at its bound. -/
def longWord : WordEntry :=
  { cat with spelling := List.replicate 16 27, wordClip := 160, sentenceClip := some 160, hintClip := some 1
             box := 4, streak := 15, attempts := 255, misses := 255, rest := 255, mastered := true
             lastMistake := some ⟨.general, 16, none, some 27⟩ }

/-- The longest word is a lawful entry. -/
theorem longWord_lawful : longWord.lawful := by
  have good : ∀ id, some 160 = some id ∨ some 1 = some id → 1 ≤ id ∧ id ≤ 160 := by
    rintro id (h | h) <;> cases h <;> decide
  refine ⟨by decide, by decide, by decide, ⟨by decide, ?_⟩, by decide, by decide, fun id h => good id (.inl h),
    fun id h => good id (.inr h), by decide, by decide, by decide, by decide, by decide, fun _ => rfl, ?_⟩
  · unfold letterGood
    decide
  · rintro m h
    cases h
    exact ⟨by decide, nofun, fun l h => by cases h; exact ⟨by decide, by decide⟩⟩

/-- The PUT_WORD of `longWord` at slot 95. -/
def putLongWord : Instr :=
  .putWord 1 95 ⟨700, 1, 16, List.replicate 16 27, 160, 160, 1, 4, 15, 255, 255, 255, 1, 6, 16, 0, 27⟩

/-- PutWordStoresTheEntryOfItsLayout: slot 95 and the longest word. -/
theorem test_hyp_putWord : 95 < 96 ∧ longWord.lawful ∧
    parseRequest 0x08 1 (wordBytes 95 longWord) = .request putLongWord ∧ State.reset.takes putLongWord ∧
    State.reset.engaged 95 = false ∧
    (∀ k f, k ≠ 95 → State.reset.entry k = some f → f.wordId ≠ longWord.wordId) :=
  ⟨by decide, longWord_lawful, by decide +kernel, takes_of (by decide +kernel), by decide +kernel,
    fun k f _ h => by simp [entry_reset] at h⟩

/-- WordRequestsChangeWhatTheyName: a queue of 7 entries has room for one. -/
theorem test_hyp_wordRequests :
    (base.takes (.dropWord 1 0) ∧ (0#8).toNat < 96 ∧ base.slot 0 ≠ .empty ∧ base.engaged 0 = false) ∧
    (let s := { base with ps := { base.ps with practice := ⟨[1, 2, 3, 4, 5, 6, 7], []⟩ } }
     s.takes (.queueWord 1 0 0 0) ∧ queueOf 0 = some (.practice .a) ∧ frontOf 0 = some true ∧
     s.fb.condition ≠ .hold ∧ s.entry 0 = some cat ∧ cat.owner = (WordQueue.practice .a).owner ∧
     s.engaged 0 = false ∧ (s.wordQueue (.practice .a)).length < 8) ∧
    (base.takes (.clearQueue 1 2) ∧ queueOf 2 = some .duel ∧ base.duelRuns = false) :=
  ⟨⟨takes_of (by decide +kernel), by decide, by decide +kernel, by decide +kernel⟩,
    ⟨takes_of (by decide +kernel), rfl, rfl, by decide +kernel, by decide +kernel, rfl, by decide +kernel,
      by decide +kernel⟩, takes_of (by decide +kernel), rfl, rfl⟩

/-- OutcomeMovesTheWord: counted and uncounted outcomes, an EMPTY slot, and a full queue. -/
theorem test_hyp_outcomes :
    (base.slot 0 = .occupied cat true ∧ cat.lawful ∧ AttemptEnd.miss.counted = true ∧
      AttemptEnd.abandoned.counted = false) ∧ base.entry 1 = none ∧ base.entry 0 = some cat ∧
    (({ base with ps := { base.ps with duel := [1, 2, 3, 4, 5, 6, 7, 8] } }).wordQueue .duel).length ≤ 8 := by
  refine ⟨⟨by decide +kernel, cat_lawful, rfl, rfl⟩, ?_⟩
  decide +kernel

/-- MistakesAreClassifiedByTheTests: each WORDWISE test on a word of one or two letters where that suffices, and GENERAL
for equal lengths, for a beginning of the word and for lengths two apart; each LETTERWISE test at an end of the word. -/
theorem test_hyp_mistakes :
    (∀ q, q < [1].length → (([2] : List Nat)[q]? ≠ [1][q]? ↔ q = 0)) ∧
    ((∀ q, q < [1, 2].length → (([2, 1] : List Nat)[q]? ≠ [1, 2][q]? ↔ q = 0 ∨ q = 1)) ∧
      ([2, 1] : List Nat)[0]? = [1, 2][0 + 1]? ∧ ([2, 1] : List Nat)[0 + 1]? = [1, 2][0]?) ∧
    ([1, 1].eraseIdx 0 = [1] ∧ ∀ j, j < 0 → [1, 1].eraseIdx j ≠ [1]) ∧
    ([1, 2].eraseIdx 1 = [1] ∧ ∀ j, j < 1 → [1, 2].eraseIdx j ≠ [1]) ∧
    ((∀ i, i < [1, 2].length → [1, 2].eraseIdx i ≠ [3]) ∧ (0 : Nat) < min [3].length [1, 2].length ∧
      ([3] : List Nat)[0]? ≠ [1, 2][0]?) ∧
    ((∀ i, i < [1, 2, 3].length → ¬ (∀ q, q < [1, 2, 3].length → (([2, 3, 1] : List Nat)[q]? ≠ [1, 2, 3][q]? ↔ q = i)) ∧
      ¬ (i + 1 < [1, 2, 3].length ∧
        (∀ q, q < [1, 2, 3].length → (([2, 3, 1] : List Nat)[q]? ≠ [1, 2, 3][q]? ↔ q = i ∨ q = i + 1)) ∧
        ([2, 3, 1] : List Nat)[i]? = [1, 2, 3][i + 1]? ∧ ([2, 3, 1] : List Nat)[i + 1]? = [1, 2, 3][i]?))) ∧
    ([1].length ≤ min [1].length [1, 2, 3].length ∧ (∀ q, q < 1 → ([1] : List Nat)[q]? = [1, 2, 3][q]?)) ∧
    ((0 < [1, 2].length ∧ [1, 2][0]? ≠ some 2 ∧ [1, 2][0 + 1]? = some 2) ∧
      ([1, 2][1]? ≠ some 1 ∧ [1, 2][1 + 1]? ≠ some 1 ∧ 0 < 1 ∧ [1, 2][1 - 1]? = some 1) ∧
      ([1][0]? ≠ some 2 ∧ [1][0 + 1]? ≠ some 2 ∧ 0 = 0)) := by
  and_intros <;> decide

/-- A context that has typed letters. -/
def typedCtx (l : List Nat) : Context := { typing with typed := l }

/-- A context in LETTERWISE style at a cursor. -/
def atCursor (c wrong : Nat) : Context := { typing with style := .letterwise, cursor := c, wrongHere := wrong }

/-- KeysAreJudgedByStyle: REPEAT below and at the repeat limit; LETTERWISE before the last letter and at it, a mismatch
below and at the letter miss limit; WORDWISE at 15 and 16 letters, with an empty list, the right word, a wrong one below
and at the try limit, in a duel, and hints with and without a clip. -/
theorem test_hyp_keys :
    (atWork.ctx .a = typing ∧ typing.state = .typing ∧ typing.copy = some cat.copy) ∧
    (typing.firm = none ∧ typing.repeats < atWork.cfg.repeatLimit) ∧
    (atWork.cfg.repeatLimit ≤ ({ typing with repeats := 3 } : Context).repeats) ∧
    ((atCursor 1 0).style = .letterwise ∧ cat.copy.spelling[1]? = some 1 ∧ 1 + 1 < cat.copy.spelling.length) ∧
    (cat.copy.spelling[2]? = some 20 ∧ (atCursor 2 0).cursor + 1 = cat.copy.spelling.length) ∧
    (cat.copy.spelling[2]? ≠ some 1 ∧ (atCursor 2 1).wrongHere + 1 < atWork.cfg.letterMissLimit) ∧
    (atWork.cfg.letterMissLimit ≤ (atCursor 2 2).wrongHere + 1) ∧
    (typing.style = .wordwise ∧ (typedCtx (List.replicate 15 1)).typed.length < 16 ∧
      16 ≤ (typedCtx (List.replicate 16 1)).typed.length) ∧
    (typing.typed = [] ∧ (typedCtx [3, 1, 20]).typed ≠ [] ∧ typing.mode = .solo ∧
      (typedCtx [3, 1, 20]).typed = cat.copy.spelling ∧ (typedCtx [3]).typed ≠ cat.copy.spelling) ∧
    (typing.tries + 1 < atWork.cfg.tryLimit ∧ atWork.cfg.tryLimit ≤ ({ typing with tries := 1 } : Context).tries + 1) ∧
    ((race (judged true false)).ctx .b).mode = .duel ∧
    (({ cat.copy with hintClip := some 1 } : TargetCopy).hintClip = some 1 ∧ base.clipReady 1 = true ∧
      cat.copy.hintClip = none) ∧
    (typing.lastMistake = none ∧ (typedCtx [3, 2]).typed[1]? ≠ cat.copy.spelling[1]? ∧
      cat.copy.spelling.length ≤ (typedCtx [3, 1, 20]).typed.length) := by decide +kernel

/-- The base state with the word queue of seat A. -/
def queued (l : List Nat) : State := { base with ps := { base.ps with practice := ⟨l, []⟩ } }

/-- StartSoloPresentsTheFirstWord: the last word of the queue, and an empty queue with 16 keys waiting. -/
theorem test_hyp_startSolo :
    (let s := queued [0]
     s.takes (.startSolo 1 0 0 7) ∧ seatOf 0 = some .a ∧ styleOf 0 = some .letterwise ∧ s.fb.condition = .normal ∧
     (s.seat .a).state = .ready ∧ (s.ctx .a).mode = .off ∧ s.duelRuns = false ∧ s.ps.practice.get .a = 0 :: [] ∧
     s.cfg.refillMark ≤ ([] : List Nat).length + 1 ∧ s.slot 0 = .occupied cat true ∧ s.clipReady cat.wordClip = true ∧
     s.speechQuiet ∧ (s.seat .a).keys = [] ∧ s.fb.frozen = false) ∧
    (let s := fullKeys (queued [])
     s.takes (.startSolo 1 1 1 0) ∧ seatOf 1 = some .b ∧ styleOf 1 = some .wordwise ∧ s.fb.condition = .normal ∧
     (s.seat .b).state = .ready ∧ (s.ctx .b).mode = .off ∧ s.duelRuns = false ∧ s.ps.practice.get .b = [] ∧
     s.cfg.refillMark = 0 ∧ (s.seat .b).keys.length ≤ 16 ∧ s.fb.frozen = false) := by
  refine ⟨⟨takes_of (by decide +kernel), ?_⟩, takes_of (by decide +kernel), ?_⟩
  · unfold State.speechQuiet; decide +kernel
  · decide +kernel

/-- StopSeatEndsThePractice: in TYPING and in PROMPTING with its prompt playing, with room for one record and one word;
and each other clause. -/
theorem test_hyp_stopSeat :
    (let s := (queued [1, 2, 3, 4, 5, 6, 7]).setCtx .a typing
     s.takes (.stopSeat 1 0) ∧ seatOf 0 = some .a ∧ (s.ctx .a).mode = .solo ∧ (s.ctx .a).state = .typing ∧
     (s.ctx .a).target = some 0 ∧ (s.ctx .a).copy = some cat.copy ∧ s.entry 0 = some cat ∧ s.cfg.refillMark = 0 ∧
     s.rl.records.length < 32 ∧ (s.ps.practice.get .a).length < 8 ∧ s.onlySeatSpeaks .a ∧ (s.seat .a).keys = [] ∧
     s.fb.frozen = false) ∧
    (let s := ({ (speaking (.seat .a) .prompt) with
       rl := { base.rl with records := List.replicate 31 record } }).setCtx .a { typing with state := .prompting }
     (s.ctx .a).state = .prompting ∧ s.rl.records.length < 32 ∧ s.onlySeatSpeaks .a) ∧
    ((race (judged true false)).takes (.stopSeat 1 0) ∧ ((race (judged true false)).ctx .a).mode = .duel) ∧
    (base.takes (.stopSeat 1 0) ∧ (base.ctx .a).mode ≠ .duel ∧ (base.ctx .a).state = .idle) ∧
    (((base.setCtx .a { typing with state := .waitingLog }).ctx .a).state = .waitingLog) ∧
    (let s := (fullKeys base).setCtx .a { typing with state := .done }
     s.takes (.stopSeat 1 0) ∧ (s.ctx .a).mode ≠ .duel ∧ (s.ctx .a).state = .done ∧ (s.seat .a).keys.length ≤ 16 ∧
     s.fb.frozen = false) := by
  refine ⟨⟨takes_of (by decide +kernel), ?_⟩, ?_, ⟨takes_of (by decide +kernel), by decide +kernel⟩,
    ⟨takes_of (by decide +kernel), by decide +kernel⟩, by decide +kernel, takes_of (by decide +kernel), by decide +kernel⟩
  · unfold State.onlySeatSpeaks; decide +kernel
  · unfold State.onlySeatSpeaks; decide +kernel

/-- A context paused by the host, or by HOLD, on "cat". -/
def pausedBy (c : PauseCause) : Context := { typing with state := .paused, pauseCause := some c, idleRunning := false }

/-- PauseAndResumeKeepTheAttempt: PROMPTING with its prompt playing, TYPING and FEEDBACK; and a readable target. -/
theorem test_hyp_pauseResume :
    (let s := (speaking (.seat .a) .prompt).setCtx .a { typing with state := .prompting, firm := some 7 }
     s.takes (.pauseSeat 1 0) ∧ seatOf 0 = some .a ∧ (s.ctx .a).mode = .solo ∧ (s.ctx .a).state = .prompting ∧
     s.onlySeatSpeaks .a ∧ s.fb.frozen = false) ∧
    ((atWork.ctx .a).state = .typing ∧ atWork.takes (.pauseSeat 1 0) ∧ atWork.onlySeatSpeaks .a) ∧
    (({ typing with state := .feedback } : Context).state = .feedback) ∧
    (let s := base.setCtx .a (pausedBy .host)
     s.takes (.resumeSeat 1 0) ∧ s.fb.condition = .normal ∧ (s.ctx .a).state = .paused ∧
     (s.ctx .a).pauseCause = some .host ∧ (s.ctx .a).target = some 0 ∧ (s.ctx .a).copy = some cat.copy ∧
     s.slot 0 = .occupied cat true ∧ s.clipReady cat.copy.wordClip = true ∧ s.speechQuiet ∧ (s.seat .a).keys = [] ∧
     s.fb.frozen = false) := by
  refine ⟨⟨takes_of (by decide +kernel), ?_⟩, ⟨rfl, takes_of (by decide +kernel), ?_⟩, rfl, takes_of (by decide +kernel), ?_⟩
  · unfold State.onlySeatSpeaks; decide +kernel
  · unfold State.onlySeatSpeaks; decide +kernel
  · unfold State.speechQuiet; decide +kernel

/-- SkipWordEndsTheAttempt: with room for one record. -/
theorem test_hyp_skipWord :
    let s := { atWork with rl := { base.rl with records := List.replicate 31 record } }
    s.takes (.skipWord 1 0) ∧ seatOf 0 = some .a ∧ s.fb.condition = .normal ∧ (s.ctx .a).mode = .solo ∧
    (s.ctx .a).state = .typing ∧ (s.ctx .a).target = some 0 ∧ (s.ctx .a).copy = some cat.copy ∧
    (s.ctx .a).stopMarked = false ∧ (s.seat .a).state = .ready ∧ s.ps.practice.get .a = [] ∧ s.cfg.refillMark = 0 ∧
    s.rl.records.length < 32 ∧ s.speechQuiet ∧ (s.seat .a).keys = [] ∧ s.fb.frozen = false := by
  refine ⟨takes_of (by decide +kernel), ?_⟩
  unfold State.speechQuiet; decide +kernel

/-- IdleExpiryNudgesThenTimesOut: one nudge below the limit, and at it with a full queue. -/
theorem test_hyp_idleExpiry :
    (let s := base.setCtx .a { typing with nudges := 1 }
     s.resetHeld = false ∧ s.fb.frozen = false ∧ (s.ctx .a).mode = .solo ∧ (s.ctx .a).state = .typing ∧
     (s.ctx .a).idleRunning = true ∧ (s.ctx .a).idleTimer = 0 ∧ (s.ctx .a).copy = some cat.copy ∧
     (s.ctx .a).nudges < s.cfg.nudgeLimit ∧ s.clipReady cat.copy.wordClip = true ∧ s.speechQuiet ∧
     (s.seat .a).keys = []) ∧
    (let s := (queued [1, 2, 3, 4, 5, 6, 7, 8]).setCtx .a { typing with nudges := 2 }
     s.resetHeld = false ∧ s.fb.frozen = false ∧ (s.ctx .a).mode = .solo ∧ (s.ctx .a).state = .typing ∧
     (s.ctx .a).idleRunning = true ∧ (s.ctx .a).idleTimer = 0 ∧ (s.ctx .a).target = some 0 ∧
     (s.ctx .a).copy = some cat.copy ∧ s.cfg.nudgeLimit ≤ (s.ctx .a).nudges ∧ s.slot 0 = .occupied cat true ∧
     s.cfg.refillMark = 0 ∧ s.clipReady cat.copy.wordClip = true ∧ s.speechQuiet ∧ (s.seat .a).keys = [] ∧
     (s.ps.practice.get .a).length ≤ 8) := by
  unfold State.speechQuiet; decide +kernel

/-- StartDuelPresentsTheFirstRound: 20 rounds and one word, and 1 round with no word and full key queues. -/
theorem test_hyp_startDuel :
    (let s := { base with ps := { base.ps with duel := [0] } }
     s.takes (.startDuel 1 20 5) ∧ 1 ≤ (20#8).toNat ∧ (20#8).toNat ≤ 20 ∧ s.fb.condition = .normal ∧
     (s.seat .a).state = .ready ∧ (s.seat .b).state = .ready ∧ s.ae.a.mode = .off ∧ s.ae.b.mode = .off ∧
     s.duelRuns = false ∧ s.ps.duel = 0 :: [] ∧ s.cfg.refillMark ≤ ([] : List Nat).length + 1 ∧
     s.slot 0 = .occupied cat true ∧ s.clipReady cat.wordClip = true ∧ s.speechQuiet ∧ (s.seat .a).keys = [] ∧
     (s.seat .b).keys = [] ∧ s.fb.frozen = false) ∧
    (let s := fullKeys base
     s.takes (.startDuel 1 1 0) ∧ 1 ≤ (1#8).toNat ∧ (1#8).toNat ≤ 20 ∧ s.fb.condition = .normal ∧
     (s.seat .a).state = .ready ∧ (s.seat .b).state = .ready ∧ s.ae.a.mode = .off ∧ s.ae.b.mode = .off ∧
     s.duelRuns = false ∧ s.ps.duel = [] ∧ s.cfg.refillMark = 0 ∧ (s.seat .a).keys.length ≤ 16 ∧
     (s.seat .b).keys.length ≤ 16 ∧ (∀ x, (s.ctx x).pendingRecord = none) ∧ s.fb.frozen = false) := by
  refine ⟨⟨takes_of (by decide +kernel), ?_⟩, takes_of (by decide +kernel), ?_⟩
  · unfold State.speechQuiet; decide +kernel
  · and_intros
    all_goals first
      | exact eachSeat rfl rfl
      | decide +kernel

/-- StopDuelFinishesTheDuel: a duel that runs, and none. -/
theorem test_hyp_stopDuel :
    ((race (judged true false)).takes (.stopDuel 1) ∧ (race (judged true false)).fb.frozen = false ∧
      (race (judged true false)).duelRuns = true) ∧ (base.takes (.stopDuel 1) ∧ base.duelRuns = false) :=
  ⟨⟨takes_of (by decide +kernel), rfl, rfl⟩, takes_of (by decide +kernel), rfl⟩

/-- OnlyEqualJudgementsScore and JudgementsDecideTheRound: an EQUAL judgement while both race, UNEQUAL ones below and at the
try limit, and an EQUAL one of a BEATEN seat. -/
theorem test_hyp_judgements :
    (let s := race (judged true false)
     s.resetHeld = false ∧ s.fb.frozen = false ∧ s.fb.condition = .normal ∧
     s.dc.judgements.get .a = some (judged true false) ∧ (judged true false).live = true ∧
     (judged true false).round = s.dc.round ∧ (judged true false).equal = true ∧ s.dc.state = .racing ∧
     s.duelRuns = true ∧
     (∀ y, (s.round y).status = some .typing ∧ (s.round y).record = .notBuilt ∧ (s.ctx y).state = .typing ∧
       (s.ctx y).style = .wordwise ∧ (s.seat y).keys = []) ∧
     s.dc.target = some 0 ∧ s.dc.copy = some cat.copy ∧ s.slot 0 = .occupied cat true ∧ s.cfg.refillMark = 0 ∧
     s.clipReady cat.copy.wordClip = true ∧ s.speechQuiet ∧
     (after (.judgementTaken .a) s).dc.scores ≠ s.dc.scores) ∧
    (let s := race (judged false false)
     s.duelRuns = true ∧ (s.round .a).status = some .typing ∧ (judged false false).equal = false ∧
     (judged false false).atLimit = false ∧ (s.ctx .a).state = .typing ∧ s.speechQuiet) ∧
    (let s := race (judged false true)
     s.duelRuns = true ∧ (s.round .a).status = some .typing ∧ (judged false true).atLimit = true ∧
     (s.ctx .a).state = .typing ∧ (s.round .b).status = some .typing) ∧
    (let s := (race (judged true false)).setRound .a { inRace with status := some .beaten }
     s.dc.judgements.get .a = some (judged true false) ∧ s.duelRuns = true ∧ (s.round .a).record = .notBuilt ∧
     (s.seat .a).keys = [] ∧ (s.round .a).status = some .beaten) := by
  refine ⟨⟨rfl, rfl, rfl, rfl, rfl, rfl, rfl, rfl, rfl, eachSeat ?_ ?_, rfl, rfl, ?_⟩, ?_, ?_, ?_⟩
  · decide +kernel
  · decide +kernel
  · unfold State.speechQuiet; decide +kernel
  · unfold State.speechQuiet; decide +kernel
  · decide +kernel
  · decide +kernel

/-- The base state with a score kept from a duel. -/
def scored (s : State) : State := { s with dc := { s.dc with scores := ⟨1, 0⟩ } }

/-- The scores after a command, where it answers a next state. -/
def scoresAfter (c : Instr) (s : State) : Option (Pair Nat) :=
  match exec c s with
  | .next t => some t.dc.scores
  | .fault _ | .refused _ => none

/-- OnlyEqualJudgementsScore, the scores set to 0: by power-on and by the commands. -/
theorem test_hyp_scoresRestart :
    ∀ c ∈ [Instr.powerOn, .startDuel 1 3 0, .restartLesson 1, .restartFull 1],
      scoresAfter c (scored base) = some ⟨0, 0⟩ := by decide +kernel

/-- OnlyEqualJudgementsScore, the scores set to 0 by a request in the frame that a byte completes. -/
theorem test_hyp_scoresRestartFramed :
    ∀ c ∈ [Instr.startDuel 1 3 0, .restartLesson 1, .restartFull 1],
      let f := frameOf c.kind c.tag c.payload
      let s := scored (withFrame f.dropLast)
      frameCompletes s.partialFrame = true ∧ s.requestAt (f.getLastD 0) = .request c ∧
      ∀ d ∈ [Instr.frameComplete (f.getLastD 0), .byteReceived ⟨f.getLastD 0, .mark⟩],
        scoresAfter d s = some ⟨0, 0⟩ := by decide +kernel

/-- LogAndAttentionRequests: all records released, and one released of a full log with seat A waiting, its stop marked;
the cause sets 2047 and 2048. -/
theorem test_hyp_log :
    (logged.takes (.releaseResults 1 2) ∧ 1 ≤ (2#8).toNat ∧ (2#8).toNat ≤ logged.rl.records.length ∧
      logged.rl.waiting = []) ∧
    ((under .lockdown base).takes (.readAttention 1)) ∧
    (base.takes (.setAttentionEnable 1 2047) ∧ (2047#16).toNat < 2048 ∧ base.takes (.setAttentionEnable 1 2048) ∧
      2048 ≤ (2048#16).toNat) ∧
    (let c := { typing with state := .waitingLog, pendingRecord := some record, stopMarked := true }
     let s := { (fullKeys base).setCtx .a c with
       rl := { base.rl with records := List.replicate 32 record, waiting := [.a] } }
     s.takes (.releaseResults 1 1) ∧ 1 ≤ (1#8).toNat ∧ (1#8).toNat ≤ s.rl.records.length ∧ s.rl.records.length ≤ 32 ∧
     s.rl.waiting = [.a] ∧ (s.ctx .a).pendingRecord = some record ∧ (s.ctx .a).mode = .solo ∧
     (s.ctx .a).stopMarked = true ∧ (s.seat .a).keys.length ≤ 16 ∧ s.fb.frozen = false) := by
  refine ⟨⟨takes_of (by decide +kernel), by decide +kernel⟩, takes_of (by decide +kernel),
    ⟨takes_of (by decide +kernel), by decide, takes_of (by decide +kernel), by decide⟩, takes_of (by decide +kernel), ?_⟩
  decide +kernel

/-- A FAULTED seat. -/
def faulted : SeatRecord :=
  { SeatRecord.fresh with state := .faulted, faultCause := some .ladder, faultRow := some 7, settleTimer := some 1 }

/-- SeatRequestsActOnTheSeat: the last row of a map slot; a FAULTED seat, with its row under conversion, and a READY one. -/
theorem test_hyp_seatRequests :
    (base.takes (.flushKeys 1 1) ∧ seatOf 1 = some .b ∧ (base.seat .b).state = .ready) ∧
    (State.reset.takes (.loadKeyMap 1 0 1 7 1 (List.replicate 7 31)) ∧ (0#8).toNat = 0 ∧
      keyCodes (List.replicate 7 31) = some (List.replicate 7 .hint) ∧ 1 ≤ (1#8).toNat ∧
      (7#8).toNat + (1#8).toNat ≤ 8 ∧
      (∀ y, (State.reset.seat y).mapSlot = some 0 → (State.reset.seat y).state ≠ .checking ∧
        (State.reset.seat y).state ≠ .ready) ∧ State.reset.ks.map1.tag ≠ (1#8).toNat) ∧
    (base.takes (.loadKeyMap 1 1 0 7 1 (List.replicate 7 0)) ∧ (1#8).toNat = 1 ∧
      keyCodes (List.replicate 7 0) = some (List.replicate 7 .unused) ∧
      (∀ y, (base.seat y).mapSlot = some 1 → (base.seat y).state ≠ .checking ∧ (base.seat y).state ≠ .ready) ∧
      (0#8).toNat = 0) ∧
    base.takes (.readSeats 1) ∧
    (let s := { base.setSeat .a faulted with ks := { (base.setSeat .a faulted).ks with
       scan := some ⟨7, false, ⟨⟨7, none⟩, ⟨0, none⟩⟩⟩ } }
     s.takes (.checkSeat 1 0) ∧ seatOf 0 = some .a ∧ (s.seat .a).state = .faulted ∧
     (∀ r ∈ (s.seat .a).rows, r.due = false) ∧ (s.seat .a).rows.length = 8 ∧ rowSeat 7 = .a) ∧
    (base.takes (.checkSeat 1 0) ∧ (base.seat .a).state = .ready ∧ (base.ctx .a).state = .idle ∧
      (base.ctx .a).mode = .off) := by
  refine ⟨⟨takes_of (by decide +kernel), rfl, rfl⟩, ⟨takes_of (by decide +kernel), rfl, rfl, by decide, by decide,
    eachSeat nofun nofun, by decide⟩, ⟨takes_of (by decide +kernel), rfl, rfl,
    eachSeat nofun nofun, rfl⟩, takes_of (by decide +kernel), ⟨takes_of (by decide +kernel), by decide +kernel⟩,
    takes_of (by decide +kernel), by decide +kernel⟩

/-- RowLevelsDecode: both ends of each kind of window. -/
theorem test_hyp_rowLevels : (128 * 6 + 24 ≤ 792 ∧ 872 ≤ 128 * 6 + 104 ∧ 872 < 1024) ∧ (920 ≤ 1023 ∧ 1023 < 1024) ∧
    ((∀ k, k ≤ 6 → 919 < 128 * k + 24 ∨ 128 * k + 104 < 919) ∧ 919 < 920) := by
  refine ⟨by decide, by decide, fun k h => ?_, by decide⟩
  omega

/-- The base state with a scan at a converter row index. -/
def scanning (i : Nat) (discard : Bool) (s : State) : State :=
  { s with ks := { s.ks with scan := some ⟨i, discard, ⟨⟨8, none⟩, ⟨7, none⟩⟩⟩ } }

/-- RowConversionsGiveKeyEvents: the last row of the scan, discarded and not; and a key-down at a seat whose context keeps
its keys, with 15 and with 16 keys queued. -/
theorem test_hyp_rowConversions :
    (let s := scanning 15 true base
     s.resetHeld = false ∧ s.ks.scan = some ⟨15, true, ⟨⟨8, none⟩, ⟨7, none⟩⟩⟩ ∧ rowSeat 15 = .b ∧ 7 = 15 % 8 ∧
     (s.seat .b).rows[7]? = some RowRecord.fresh) ∧
    ((scanning 15 false base).ks.scan = some ⟨15, false, ⟨⟨8, none⟩, ⟨7, none⟩⟩⟩) ∧
    (let row : RowRecord := { RowRecord.fresh with candidate := .step 0, streak := 2 }
     let seat := fun n => { readySeat.setRow 0 row with keys := List.replicate n KeyCode.enter }
     let s := fun n => scanning 0 false ((base.setSeat .a (seat n)).setCtx .a (pausedBy .host))
     (s 15).resetHeld = false ∧ ((s 15).ks.scan.map (·.row)) = some 0 ∧ rowSeat 0 = .a ∧
     ((s 15).seat .a).rows[0]? = some row ∧ row.stable = .idle ∧ row.due = false ∧ decodeLevel 104 = .step 0 ∧
     (s 15).cfg.debounceCount ≤ (if row.candidate = .step 0 then min (row.streak + 1) 15 else 1) ∧
     ((s 15).seat .a).state = .ready ∧ ((s 15).seat .a).mapSlot = some 0 ∧
     ((s 15).keyMap 0).entries[7 * 0 + 0]? = some (.letter 3) ∧ KeyCode.letter 3 ≠ .unused ∧
     ((s 15).ctx .a).state = .paused ∧ (s 15).fb.frozen = false ∧ ((s 15).seat .a).keys.length < 16 ∧
     ((s 16).seat .a).keys.length = 16 ∧
     let kept := (s 15).setCtx .a { typing with mode := .duel, state := .feedback }
     (kept.ctx .a).mode = .duel ∧ (kept.ctx .a).state = .feedback ∧ (kept.seat .a).keys ≠ [] ∧
     ((after (.rowConversionComplete 104) kept).seat .a).keys.length = 16) := by decide +kernel

/-- SenseAndIdentityMoveTheSeat: each clause of the sense line and of the identity read. -/
theorem test_hyp_sense :
    (base.resetHeld = false ∧ (base.seat .a).senseLine ≠ false ∧ (base.seat .a).senseLine = true ∧
      (base.seat .a).settleTimer = none) ∧
    (let s := base.setSeat .a { SeatRecord.fresh with senseLine := true }
     (s.seat .a).settleTimer = some 60000 ∧ (s.seat .a).senseLine = true ∧ (s.seat .a).state = .empty) ∧
    (let s := base.setSeat .a { readySeat with settleTimer := some 1 }
     (s.seat .a).settleTimer = some 1 ∧ (s.seat .a).senseLine = true ∧ (s.seat .a).state ≠ .empty) ∧
    (let s := base.setSeat .a { readySeat with settleTimer := some 1, senseLine := false }
     (s.seat .a).settleTimer = some 1 ∧ (s.seat .a).senseLine = false ∧ (s.seat .a).state ≠ .empty) ∧
    (let s := base.setSeat .a faulted
     (s.seat .a).settleTimer = some 1 ∧ (s.seat .a).senseLine = false ∧ (s.seat .a).state = .faulted ∧
     (∀ r ∈ (s.seat .a).rows, r.due = false) ∧ (s.seat .a).rows.length = 8 ∧ s.ks.scan = none) ∧
    (let s := fun n => base.setSeat .a { SeatRecord.fresh with state := .identifying, readFailures := n }
     ((s 0).seat .a).state = .identifying ∧ ((s 0).seat .a).readFailures = 0 ∧ ((s 1).seat .a).readFailures = 1 ∧
     identityCheck 1 0 ≠ 48 ∧ identityCheck 1 0 = 49 ∧ (1#8).toNat ≠ 0 ∧ (s 0).ks.map0.tag = (1#8).toNat ∧
     (s 0).ks.scan = none) ∧
    (let s := { base with ks := { base.ks with map0 := KeyMap.fresh, map1 := map1 } }
     s.ks.map0.tag ≠ (1#8).toNat ∧ s.ks.map1.tag = (1#8).toNat) ∧
    (identityCheck 0 0 = 0 ∧ (0#8).toNat = 0 ∧ State.reset.ks.map0.tag ≠ (1#8).toNat ∧
      State.reset.ks.map1.tag ≠ (1#8).toNat) := by decide +kernel

/-- AlertsAndConverterTimeouts: row 7 with an alert due and not, held and chorded; a scan at row 15 and none. -/
theorem test_hyp_alerts :
    (let row : RowRecord := { RowRecord.fresh with stable := .step 6, holdCount := 300, due := true }
     let s := base.setSeat .a (readySeat.setRow 7 row)
     s.resetHeld = false ∧ (s.seat .a).rows[(7 : Fin 8).val]? = some row ∧ row.due = true ∧ row.stable = .step 6 ∧
     (s.seat .a).rows[(6 : Fin 8).val]? = some RowRecord.fresh ∧ RowRecord.fresh.due = false ∧
     ({ row with stable := .ambiguous } : RowRecord).stable = .ambiguous) ∧
    ((scanning 15 false base).ks.scan.isSome = true ∧ base.ks.scan = none) := by decide +kernel

/-- The base state with the scan generator RUNNING. -/
def running (count : Nat) : State := { base with tb := { base.tb with generator := .running 1, count := count } }

/-- ScanStartsAndLessonTicks: a scan start that leaves the tick divider one below the divisor in use, and one that brings it
there, with a scan in progress and none; and a step. -/
theorem test_hyp_timebase :
    (base.takes (.scanStart 1) ∧ base.tb.generator = .stopped ∧ base.resetHeld = false ∧ (running 8).takes (.scanStart 1) ∧
      (running 8).tb.generator = .running 1 ∧ base.takes (.scanStop 1)) ∧
    ((running 8).tb.count + 1 < (running 8).tb.divisorInUse ∧
      (scanning 15 false (running 8)).ks.scan = some ⟨15, false, ⟨⟨8, none⟩, ⟨7, none⟩⟩⟩ ∧
      (running 8).ks.scan = none) ∧
    ((running 9).tb.divisorInUse ≤ (running 9).tb.count + 1 ∧ (running 9).fb.frozen = false ∧
      ((running 9).seat .a).state = .ready ∧ ((running 9).seat .a).rows[7]? = some RowRecord.fresh ∧
      (State.reset.seat .a).state ≠ .ready) ∧
    ((running 9).tb.count < (running 9).tb.divisorInUse ∧ 0 < (running 9).cfg.tickDivisor ∧
      ∃ t, step (running 9) = .next t) :=
  ⟨⟨takes_of (by decide +kernel), rfl, rfl, takes_of (by decide +kernel), rfl, takes_of (by decide +kernel)⟩,
    by decide +kernel, by decide +kernel, by decide, by decide, _, rfl⟩

/-- SpeechSettingsAreReplaced: volumes 15 and 16, channels 2 and 3, table bytes 0, 160 and 161. -/
theorem test_hyp_speechSettings :
    (base.takes (.setRoute 1 1 1) ∧ seatOf 1 = some .b ∧ settingOf 1 = some .speaker) ∧
    (base.takes (.setCues 1 [0, 1, 2, 3, 4, 5, 6, 160]) ∧ tableEntries [0, 1, 2, 3, 4, 5, 6, 160] =
      some [none, some 1, some 2, some 3, some 4, some 5, some 6, some 160]) ∧
    (base.takes (.setLetters 1 (List.replicate 27 160)) ∧
      tableEntries (List.replicate 27 160) = some (List.replicate 27 (some 160))) ∧
    (base.takes (.setVolume 1 2 15) ∧ channelOf 2 = some .speaker ∧ (15#8).toNat ≤ 15) ∧
    (base.takes (.setVolume 1 2 16) ∧ 15 < (16#8).toNat ∧ base.takes (.setVolume 1 3 0) ∧ 2 < (3#8).toNat) ∧
    ((∀ b ∈ [0#8, 160#8], b.toNat ≤ 160) ∧ (∃ b ∈ [1#8, 161#8], 160 < b.toNat) ∧
      ∀ b ∈ [1#8, 160#8], 1 ≤ b.toNat ∧ b.toNat ≤ 160) :=
  ⟨⟨takes_of (by decide +kernel), rfl, rfl⟩, ⟨takes_of (by decide +kernel), by decide +kernel⟩,
    ⟨takes_of (by decide +kernel), by decide +kernel⟩, ⟨takes_of (by decide +kernel), rfl, by decide⟩,
    ⟨takes_of (by decide +kernel), by decide, takes_of (by decide +kernel), by decide⟩, by decide +kernel⟩

/-- AnnouncementsAreSpokenAndCancelled: 20 clips, and handles that an announcement holds and none holds. -/
theorem test_hyp_announcements :
    (base.takes (.announce 1 7 20 (List.replicate 20 1)) ∧ routeOf 7 = some 7 ∧
      clipIds (List.replicate 20 1) = some (List.replicate 20 1) ∧ 1 ≤ (20#8).toNat ∧ (20#8).toNat ≤ 20 ∧
      (List.replicate 20 1).all base.clipReady = true ∧ base.speechQuiet) ∧
    (let s := speaking .announce .announce
     s.takes (.cancelAnnounce 1 0 7) ∧ (7#8).toNat ≠ 0 ∧ s.se.v0 = some (spoken .announce .announce) ∧
     s.se.v1 = none ∧ s.allWaiting = [] ∧ (spoken .announce .announce).utterance.handle = (7#8).toNat ∧
     (spoken .announce .announce).utterance.clips = [1] ∧ s.clip 1 = some { clip1 with pins := 1 } ∧
     s.takes (.cancelAnnounce 1 0 8) ∧
     (∀ u ∈ s.allPlaying ++ s.allWaiting, u.requester = .announce → u.handle ≠ (8#8).toNat)) ∧
    base.takes (.cancelAnnounce 1 1 0) := by
  refine ⟨⟨takes_of (by decide +kernel), ?_⟩, ⟨takes_of (by decide +kernel), by decide, rfl, rfl, rfl, rfl, rfl,
    by decide +kernel, takes_of (by decide +kernel), by decide +kernel⟩, takes_of (by decide +kernel)⟩
  unfold State.speechQuiet; decide +kernel

/-- VoicesAdvanceAndEnd and ParityErrorFailsTheUtterance: an announcement on V0, a seat's prompt, and a voice with a next
clip that is READY. -/
theorem test_hyp_voices :
    (let s := speaking .announce .announce
     s.resetHeld = false ∧ s.voice .v0 = some (spoken .announce .announce) ∧ s.voice (otherVoice .v0) = none ∧
     s.allWaiting = [] ∧ (spoken .announce .announce).index = 0 ∧ (spoken .announce .announce).utterance.clips = [1] ∧
     s.clip 1 = some { clip1 with pins := 1 } ∧ clip1.state = .ready ∧
     (spoken .announce .announce).utterance.requester = .announce ∧ s.fb.audio.mask.getLsbD 9 = true ∧
     s.fb.condition = .normal ∧ (under .hold s).fb.condition = .hold) ∧
    (let s := (speaking (.seat .a) .prompt).setCtx .a { typing with state := .prompting, firm := some 7 }
     (spoken (.seat .a) .prompt).utterance.requester = .seat .a ∧ (spoken (.seat .a) .prompt).utterance.cls = .prompt ∧
     (s.ctx .a).firm = some 7 ∧ (s.ctx .a).state = .prompting ∧ s.inFlight .a = false ∧ (s.seat .a).keys = [] ∧
     s.fb.frozen = false ∧ (s.ctx .a).mode = .solo ∧ s.fb.condition = .normal ∧ s.fb.audio.mask.getLsbD 9 = true ∧
     s.voice (otherVoice .v0) = none ∧ s.allWaiting = []) ∧
    (let p : Playing := ⟨⟨7, .announce, .announce, 1, [1, 1]⟩, 0, 3, 0⟩
     let s := { base with se := { base.se with v1 := some p } }
     s.voice .v1 = some p ∧ p.utterance.clips[p.index + 1]? = some 1 ∧ s.clipBad 1 = false ∧ s.voice .v0 = none) := by
  decide +kernel

/-- ChannelsCarryScaledSamples: V0 on one of its channels with a U8 clip whose bytes are 0, and a channel no voice plays. -/
theorem test_hyp_channels :
    let s := speaking .announce .announce
    (s.voice .v0 = some (spoken .announce .announce) ∧ s.voice .v1 = none) ∧
    ((spoken .announce .announce).utterance.route &&& Channel.phonesA.route ≠ 0 ∧
      (spoken .announce .announce).utterance.clips[0]? = some 1 ∧ (s.clip 1).map (·.format) = some .u8 ∧
      s.channelSample .phonesA = (((0 : Int) - 128) * 2 ^ 8 * 10).tdiv 15) ∧
    ((spoken .announce .announce).utterance.route &&& Channel.speaker.route = 0 ∧ s.channelSample .speaker = 0) := by
  decide +kernel

/-- A clip being loaded in block 1. -/
def loading (fill pins : Nat) : Clip :=
  { clip1 with state := .loading, firstBlock := 1, fill := fill, pins := pins }

/-- ClipsAreOpenedAndWritten: the lowest free block for a clip of 1024 bytes, a full store, and the last bytes of a clip. -/
theorem test_hyp_clips :
    (base.takes (.openClip 1 160 1 2 1024 0) ∧ 1 ≤ (160#8).toNat ∧ (160#8).toNat ≤ 160 ∧ formatOf 1 = some .s16 ∧
      rateOf 2 = some 16000 ∧ (1024#16).toNat ≠ 0 ∧ (1024#16).toNat % 2 = 0 ∧ base.clip 160 = none ∧
      base.cs.blocks.length = 384 ∧ base.cs.directory.length = 160 ∧
      (∀ i, i < ((1024#16).toNat + 1023) / 1024 → base.cs.blocks[1 + i]? = some none) ∧
      ∀ d, d < 1 → ∃ i, i < ((1024#16).toNat + 1023) / 1024 ∧ base.cs.blocks[d + i]? ≠ some none) ∧
    (let s := { base with cs := { base.cs with blocks := List.replicate 384 (some 1) } }
     s.takes (.openClip 1 2 0 0 1 0) ∧
     ∀ d, ∃ i, i < ((1#16).toNat + 1023) / 1024 ∧ s.cs.blocks[d + i]? ≠ some none) ∧
    (let s := base.setClip 2 (some (loading 3 0))
     s.takes (.clipData 1 2 3 1 [9]) ∧ 1 ≤ (2#8).toNat ∧ (1#8).toNat ≤ 48 ∧ s.clip 2 = some (loading 3 0) ∧
     (loading 3 0).state = .loading ∧ (3#16).toNat = (loading 3 0).fill ∧
     (loading 3 0).fill + (1#8).toNat ≤ (loading 3 0).length ∧ Memory.wf s.cs.bytes = true ∧
     s.cs.directory.length = 160) := by
  refine ⟨⟨takes_of (by decide +kernel), ?_⟩, ⟨takes_of (by decide +kernel), ?_⟩, takes_of (by decide +kernel), by
    decide +kernel⟩
  and_intros
  all_goals first
    | decide +kernel
    | skip
  · intro d
    refine ⟨0, by decide, ?_⟩
    show (List.replicate 384 (some 1))[d + 0]? ≠ some none
    rw [List.getElem?_replicate]
    split <;> simp

/-- CommitAndDeleteClips: a filled clip with the unit FREE and BUSY, an unpinned one, and one with one pin. -/
theorem test_hyp_commitDelete :
    (let s := base.setClip 2 (some (loading 4 0))
     s.takes (.commitClip 1 2) ∧ s.clip 2 = some (loading 4 0) ∧ (loading 4 0).fill = (loading 4 0).length ∧
     s.cs.verify = none ∧ s.takes (.deleteClip 1 2) ∧ (loading 4 0).state ≠ .retiring ∧
     ({ s with cs := { s.cs with verify := some ⟨3, 0, 0xFFFF, 0⟩ } }).cs.verify = some ⟨3, 0, 0xFFFF, 0⟩) ∧
    (base.takes (.deleteClip 1 1) ∧ base.clip 1 = some clip1 ∧ clip1.pins = 0 ∧ clip1.state ≠ .retiring) ∧
    (let s := speaking .announce .announce
     s.takes (.deleteClip 1 1) ∧ s.clip 1 = some { clip1 with pins := 1 } ∧ 0 < ({ clip1 with pins := 1 } : Clip).pins) :=
  ⟨⟨takes_of (by decide +kernel), by decide +kernel, rfl, rfl, takes_of (by decide +kernel), by decide, rfl⟩,
    ⟨takes_of (by decide +kernel), by decide +kernel, rfl, by decide⟩, takes_of (by decide +kernel), by decide +kernel,
    by decide⟩

/-- VerifyCompletes: a verify just begun and one with every byte checked, of a clip whose CRC is right and of one whose is
wrong. -/
theorem test_hyp_verify :
    let c : Clip := { clip1 with state := .verifying, crc := crc16 [0, 0, 0, 0] }
    let s := { base.setClip 1 (some c) with cs := { (base.setClip 1 (some c)).cs with
      verify := some ⟨1, 0, 0xFFFF, 0⟩ } }
    (s.resetHeld = false ∧ s.cs.verify = some ⟨1, 0, 0xFFFF, 0⟩ ∧ s.clip 1 = some c ∧ 0 ≤ c.length ∧
      (0xFFFF : BitVec 16) = ((List.range 0).map (s.clipByte c)).foldl crcByte 0xFFFF#16 ∧
      crc16 ((List.range c.length).map (s.clipByte c)) = c.crc) ∧
    (let f := ((List.range 4).map (s.clipByte c)).foldl crcByte 0xFFFF#16
     4 ≤ c.length ∧ f = ((List.range 4).map (s.clipByte c)).foldl crcByte 0xFFFF#16) ∧
    crc16 ((List.range c.length).map (s.clipByte { c with crc := 0 })) ≠ ({ c with crc := 0 } : Clip).crc := by
  decide +kernel

/-- A fault a bank holds. -/
def heldFault (code : FaultCode) (enabled : Bool) : HeldFault := ⟨false, code, enabled, .nothing, 0, none⟩

/-- BanksHoldFaultsByRank and DisruptiveFaultsEscalate: an empty bank, a recoverable record against a higher and an equal
rank, a disruptive record; the three conditions, and a disabled fault. -/
theorem test_hyp_banks :
    ((base.fb.bank FaultCode.scanOverrun.bank).held = none ∧ base.faultEnabled .scanOverrun = true) ∧
    (let old := heldFault .keyOverrun false
     old.code.disruptive = false ∧
     2 * bit old.code.disruptive + bit old.enabled < 2 * bit FaultCode.scanOverrun.disruptive + bit true) ∧
    (let old := heldFault .keyOverrun true
     2 * bit FaultCode.scanOverrun.disruptive + bit true ≤ 2 * bit old.code.disruptive + bit old.enabled) ∧
    (heldFault .converterTimeout false).code.disruptive = true ∧ FaultCode.clipParity.disruptive = true ∧
    base.fb.condition = .normal ∧ (under .hold base).fb.condition = .hold ∧
    (under .lockdown base).fb.condition = .lockdown ∧
    ({ base with fb := { base.fb with audio := ⟨none, 0⟩ } }).faultEnabled .clipParity = false := by decide +kernel

/-- FaultRequestsChangeOneBank: a bank's codes all enabled, and a code of another bank. -/
theorem test_hyp_faultRequests :
    bankOf 3 = some .lesson ∧ base.takes (.clearFault 1 3) ∧
    (base.takes (.setFaultEnable 1 3 0x1800) ∧ (0x1800 : Word16) &&& bankCodes .lesson = 0x1800) ∧
    (base.takes (.setFaultEnable 1 3 0x0400) ∧ (0x0400 : Word16) &&& bankCodes .lesson ≠ 0x0400) :=
  ⟨rfl, takes_of (by decide +kernel), ⟨takes_of (by decide +kernel), by decide⟩, takes_of (by decide +kernel),
    by decide⟩

/-- HoldIsEnteredAndCleared: the entries outstanding and not, and CLEAR_HOLD with nothing paused by HOLD, with seat A
paused by it, and outside HOLD. -/
theorem test_hyp_hold :
    (let s := { under .hold atWork with fb := { (under .hold atWork).fb with holdDue := true } }
     s.resetHeld = false ∧ s.fb.holdDue = true ∧ s.fb.frozen = false ∧ s.duelRuns = false ∧
     (∀ u ∈ s.allPlaying ++ s.allWaiting, u.requester ≠ .announce) ∧ base.fb.holdDue = false ∧
     base.fb.lockdownDue = false ∧
     ({ under .lockdown base with fb := { (under .lockdown base).fb with lockdownDue := true } }).fb.lockdownDue = true) ∧
    (base.takes (.clearHold 1) ∧ base.fb.frozen = false ∧ base.duelRuns = false ∧ base.fb.condition ≠ .hold) ∧
    ((under .hold base).takes (.clearHold 1) ∧ (under .hold base).fb.condition = .hold ∧
      ∀ x, ((under .hold base).ctx x).state ≠ .paused ∨ ((under .hold base).ctx x).pauseCause ≠ some .hold) ∧
    (let s := under .hold (base.setCtx .a (pausedBy .hold))
     s.takes (.clearHold 1) ∧ s.fb.condition = .hold ∧ (s.ctx .a).mode = .solo ∧ (s.ctx .a).state = .paused ∧
     (s.ctx .a).pauseCause = some .hold ∧ (s.ctx Seat.a.other).state ≠ .paused ∧ (s.ctx .a).target = some 0 ∧
     (s.ctx .a).copy = some cat.copy ∧ s.slot 0 = .occupied cat true ∧ s.clipReady cat.copy.wordClip = true ∧
     s.speechQuiet ∧ (s.seat .a).keys = []) := by
  refine ⟨by decide +kernel, ⟨takes_of (by decide +kernel), rfl, rfl, by decide⟩,
    ⟨takes_of (by decide +kernel), rfl, eachSeat (.inl (by decide +kernel)) (.inl (by decide +kernel))⟩,
    takes_of (by decide +kernel), ?_⟩
  unfold State.speechQuiet; decide +kernel

/-- LockdownIsLeftByResetsOnly and FrozenLessonsStand: a STATUS, and a byte that completes its frame. -/
theorem test_hyp_lockdown :
    let s := { under .lockdown (withFrame ((frameOf 1 5 []).take 5)) with
      fb := { (under .lockdown base).fb with frozen := true } }
    s.fb.condition = .lockdown ∧ s.fb.frozen = true ∧ (∃ t, exec (.status 1) s = .next t) ∧
    ¬ s.resets (.status 1) ∧ frameCompletes s.partialFrame = true ∧
    s.requestAt ((frameOf 1 5 []).getD 5 0) = .request (.status 5) ∧ ¬ s.resets (.byteReceived ⟨(frameOf 1 5 []).getD 5 0, .mark⟩) := by
  refine ⟨rfl, rfl, ⟨_, rfl⟩, id, by decide +kernel, by decide +kernel, ?_⟩
  rintro ⟨-, tag, h⟩
  have h' : Parsed.request (.status 5) = .request (.restartFull tag) := by
    rw [← h]; decide +kernel
  exact absurd h' nofun

/-- The clips of the base state. -/
theorem base_clip (id : Nat) : base.clip id = if id = 1 then some clip1 else none := by
  match id with
  | 0 => rfl
  | k + 1 =>
    show ((List.replicate 160 (none : Option Clip)).set 0 (some clip1)).getD k none = _
    rw [List.getD_eq_getElem?_getD, List.getElem?_set, List.getElem?_replicate, List.length_replicate]
    by_cases h : k = 0
    · subst h; rfl
    · simp only [Ne.symm h, if_false, show ¬ k + 1 = 1 by omega]
      split <;> rfl

/-- The block map of the base state. -/
theorem base_blocks (b : Nat) (h : b < 384) : base.cs.blocks[b]? = some (if b = 0 then some 1 else none) := by
  show ((List.replicate 384 (none : Option Nat)).set 0 (some 1))[b]? = _
  rw [List.getElem?_set, List.getElem?_replicate, List.length_replicate]
  by_cases h0 : b = 0
  · subst h0; rfl
  · simp [Ne.symm h0, h0, h]

/-- The entries of the base state. -/
theorem base_entry (n : Nat) : base.entry n = if n = 0 then some cat else none := by
  have h : base.slot n = if n = 0 then .occupied cat true else .empty := by
    show ((List.replicate 96 Slot.empty).set 0 (.occupied cat true)).getD n .empty = _
    rw [List.getD_eq_getElem?_getD, List.getElem?_set, List.getElem?_replicate, List.length_replicate]
    by_cases h0 : n = 0
    · subst h0; rfl
    · simp only [Ne.symm h0, h0, if_false]
      split <;> rfl
  simp only [State.entry, h]
  by_cases h0 : n = 0 <;> simp [h0]

/-- The base state holds no mistake code, and only letter codes. -/
theorem base_mistakes : base.mistakeLaw := by
  refine ⟨?_, eachSeat nofun nofun, eachSeat ?_ ?_, nofun, eachSeat nofun nofun⟩
  · intro k h
    have hk : k = .letter 3 ∨ k = .unused := by
      rcases List.mem_append.1 h with h | h
      · rcases List.mem_cons.1 h with h | h
        · exact .inl h
        · exact .inr (List.eq_of_mem_replicate h)
      · exact .inr (List.eq_of_mem_replicate h)
    intro l hl
    rcases hk with rfl | rfl
    · cases hl
      exact ⟨by decide, by decide⟩
    · cases hl
  all_goals exact ⟨nofun, ⟨by decide, nofun⟩, by decide, nofun⟩

/-- The base state with one clip, which an announcement plays: READY, or RETIRING. -/
def heldClip (st : ClipState) : State :=
  (speaking .announce .announce).setClip 1 (some { clip1 with state := st, pins := 1 })

/-- One clip with one pin for each reference is under the law of the pins. -/
theorem heldClip_pinLaw (st : ClipState) (h : st = .ready ∨ st = .retiring) : (heldClip st).pinLaw := by
  have clip : ∀ id, (heldClip st).clip id = if id = 1 then some { clip1 with state := st, pins := 1 } else none := by
    intro id
    match id with
    | 0 => rfl
    | k + 1 =>
      show ((List.replicate 160 (none : Option Clip)).set 0 (some _)).getD k none = _
      rw [List.getD_eq_getElem?_getD, List.getElem?_set, List.getElem?_replicate, List.length_replicate]
      by_cases h : k = 0
      · subst h; rfl
      · simp only [Ne.symm h, if_false, show ¬ k + 1 = 1 by omega]
        split <;> rfl
  have refs : ∀ id, (heldClip st).references id = [1].count id := fun id => rfl
  refine ⟨rfl, fun id => ?_, ?_⟩
  · rw [clip, refs]
    by_cases hi : id = 1
    · subst hi
      refine ⟨rfl, ?_, fun _ => Nat.one_pos⟩
      rintro (h' | h') <;> rcases h with rfl | rfl <;> cases h'
    · simp [hi, Ne.symm hi]
  · intro r
    cases r with
    | seat x => cases x <;> exact nofun
    | duel => exact nofun
    | announce => exact nofun

/-- The base state's law of the pins. -/
theorem base_pinLaw : base.pinLaw := by
  refine ⟨rfl, fun id => ?_, ?_⟩
  · rw [base_clip, show base.references id = 0 from rfl]
    by_cases hi : id = 1
    · simp only [hi, if_true]
      exact ⟨rfl, by decide, by decide⟩
    · simp [hi]
  · intro r
    cases r with
    | seat x => cases x <;> exact nofun
    | duel => exact nofun
    | announce => exact nofun

/-- LessonRestartClearsLessons: a RETIRING clip that an announcement plays, a row with an alert due, and none of these. -/
theorem test_hyp_lessonRestart :
    ((heldClip .retiring).takes (.restartLesson 1) ∧ (heldClip .retiring).pinLaw ∧
      ((heldClip .retiring).clip 1).map (·.state) = some .retiring ∧ (heldClip .retiring).cs.blocks[0]? = some (some 1)) ∧
    (base.takes (.restartLesson 1) ∧ base.pinLaw ∧ (∀ x, ∀ r ∈ (base.seat x).rows, r.due = false) ∧
      ∀ u ∈ base.allPlaying ++ base.allWaiting, u.requester ≠ .announce) :=
  ⟨⟨takes_of (by decide +kernel), heldClip_pinLaw _ (.inr rfl), by decide +kernel⟩,
    takes_of (by decide +kernel), base_pinLaw, eachSeat (by decide +kernel) (by decide +kernel), by decide +kernel⟩

/-- ReadsAnswerAndChangeNothing, its layouts: the start order, a clip and an ABSENT one, the free blocks from
block 1 and none free. -/
theorem test_hyp_layouts :
    base.se.startOrder = [.seat .a, .seat .b, .duel] ∧ base.clip 1 = some clip1 ∧ base.clip 160 = none ∧
    ((∀ i, i < 383 → base.cs.blocks[1 + i]? = some none) ∧
      (∀ b k, (∀ i, i < k → base.cs.blocks[b + i]? = some none) → k ≤ 383) ∧
      ∀ b, b < 1 → ∃ i, i < 383 ∧ base.cs.blocks[b + i]? ≠ some none) ∧
    (let s := { base with cs := { base.cs with blocks := List.replicate 384 (some 1) } }
     ∀ b k, (∀ i, i < k → s.cs.blocks[b + i]? = some none) → k ≤ 0) := by
  refine ⟨rfl, by decide +kernel, by decide +kernel, ⟨by decide +kernel, fun b k h => ?_, fun b hb => ?_⟩, fun b k h => ?_⟩
  · by_contra hk
    have h0 := h 0 (by omega)
    have h1 := h 383 (by omega)
    by_cases hb : b = 0
    · subst hb
      rw [base_blocks 0 (by decide)] at h0
      exact absurd h0 (by decide)
    · have hl : base.cs.blocks.length = 384 := by decide +kernel
      rw [List.getElem?_eq_none (by omega)] at h1
      cases h1
  · refine ⟨0, by decide, ?_⟩
    rw [Nat.lt_one_iff.1 hb, base_blocks 0 (by decide)]
    decide
  · by_contra hk
    have h0 := h 0 (by omega)
    rw [List.getElem?_replicate] at h0
    split at h0 <;> cases h0

/-- KeysAreJudgedByStyle, which keys are taken: a PROMPTING context in a duel, without and with barge-in, its prompt playing
with the handle it holds; a submission in flight and none. -/
theorem test_hyp_keyTable :
    (let s := fun c => (fullKeys base).setCtx .a c
     ((s typing).seat .a).keys = .enter :: List.replicate 15 .enter ∧ ((s typing).ctx .a).state = .typing ∧
     (s typing).inFlight .a = false ∧ (fullKeys (race (judged true false))).inFlight .a = true ∧
     (s (pausedBy .host)).fb.frozen = false ∧ (s { typing with state := .done }).fb.frozen = false) ∧
    (let c : Context := { typing with state := .prompting, firm := some 7 }
     let s := fun c => fullKeys ((speaking (.seat .a) .prompt).setCtx .a c)
     ((s { c with mode := .duel }).ctx .a).mode = .duel ∧ ((s c).ctx .a).mode ≠ .duel ∧ c.bargeIn = false ∧
     ((s { c with bargeIn := true }).ctx .a).bargeIn = true ∧ KeyCode.enter ≠ .again ∧
     ((s { c with bargeIn := true }).seat .a).keys = .enter :: List.replicate 15 .enter) := by decide +kernel

/-- A word of one letter with another id. -/
def other (id : Nat) (box rest : Nat) : WordEntry := { cat with wordId := id, box := box, rest := rest }

/-- StartSoloPresentsTheFirstWord, its refills and queues: a queue below and at the mark with candidates of two boxes, in
solo practice and in a duel; a queue from which its head is taken. -/
theorem test_hyp_refill :
    (let s := { (queued [0]).setCtx .a typing with
       cfg := { Configuration.fresh with refillMark := 2, refillTarget := 3 }
       wt := (base.wt.set 94 (.occupied (other 1 4 9) true)).set 95 (.occupied (other 2 1 0) true) }
     s.wt.length = 96 ∧ s.cfg.refillTarget ≤ 8 ∧ (s.ctx .a).mode = .solo ∧ s.cfg.refillMark ≠ 0 ∧
     (s.ps.practice.get .a).length < s.cfg.refillMark ∧ (s.refillSeat .a).ps.practice.a = [0, 95, 94] ∧
     s.duelRuns = false ∧ s.queuedSlots.Nodup ∧ s.wordQueue (.practice .a) = 0 :: [] ∧ 95 ∉ s.queuedSlots) ∧
    (let s := { race (judged true false) with
       cfg := { Configuration.fresh with refillMark := 5, refillTarget := 8 }
       wt := base.wt.set 95 (.occupied { other 2 1 0 with owner := .both } true) }
     s.wt.length = 96 ∧ s.duelRuns = true ∧ s.ps.duel.length < s.cfg.refillMark ∧ s.refillDuel.ps.duel = [95]) ∧
    (let s := queued []
     s.queuedSlots.Nodup ∧ ∃ t, exec (.queueWord 1 0 0 0) s = .next t ∧ t.ps.practice.a = [0]) :=
  ⟨by decide +kernel, by decide +kernel, by decide, _, rfl, by decide +kernel⟩

/-- A race with nothing in flight and seat A's keyboard gone. -/
def leaving : State :=
  let s := { race (judged true false) with dc := { (race (judged true false)).dc with judgements := ⟨none, none⟩ } }
  s.setSeat .a { readySeat with settleTimer := some 1, senseLine := false }

/-- The open race of the tests is an open round. -/
theorem race_open (j : Judgement) : (race j).roundOpen :=
  ⟨.inr rfl, ⟨_, rfl⟩, ⟨0, cat, rfl, base_entry 0⟩, eachSeat ⟨rfl, rfl⟩ ⟨rfl, rfl⟩, rfl, rfl, rfl, Nat.zero_le _,
    Nat.succ_pos 7, rfl⟩

/-- StopDuelFinishesTheDuel, its break-offs: an open round, one with a full log, a held presentation, and a seat that leaves
READY. -/
theorem test_hyp_breakOff :
    (let s := { race (judged true false) with rl := { base.rl with records := List.replicate 32 record } }
     s.dc.state ≠ .presenting ∧ (s.round .a).record = .notBuilt ∧ (s.round .b).record = .notBuilt ∧
     (s.round .a).status = some .typing ∧ 32 ≤ s.rl.records.length) ∧
    ((race (judged true false)).takes (.stopDuel 1) ∧ (race (judged true false)).roundOpen) ∧
    (let s := { race (judged true false) with
       dc := { (race (judged true false)).dc with state := .presenting, target := none } }
     s.takes (.stopDuel 1) ∧ s.duelRuns = true ∧ s.dc.state = .presenting ∧ s.dc.target = none ∧
     ∀ x, (s.ctx x).pendingRecord = none) ∧
    leaving.resetHeld = false ∧ leaving.fb.frozen = false ∧ leaving.roundOpen ∧ (leaving.ctx .a).mode = .duel ∧
    (leaving.seat .a).state = .ready ∧ (leaving.seat .a).settleTimer = some 1 ∧ (leaving.seat .a).senseLine = false :=
  ⟨by decide +kernel, ⟨takes_of (by decide +kernel), race_open _⟩,
    ⟨takes_of (by decide +kernel), rfl, rfl, rfl, eachSeat rfl rfl⟩, rfl, rfl, race_open (judged true false), rfl, rfl, rfl, rfl⟩

/-- LogAndAttentionRequests, the line: a cause pending and enabled. -/
theorem test_hyp_attention :
    let s := { base with au := ⟨1024, 1024⟩ }
    s.resetHeld = false ∧ s.isPending .alert = true ∧ s.au.enabled.getLsbD Cause.alert.number = true := by decide +kernel

/-- A seat in CHECKING before the end of a scan that was IDLE so far, with its counts. -/
def checkingRow (row rows idleRun scans : Nat) : State :=
  let r : SeatRecord := { readySeat with state := .checking, idleRun := idleRun, scansCounted := scans }
  let s := base.setSeat .a r
  { s with ks := { s.ks with scan := some ⟨row, false, ⟨⟨rows, none⟩, ⟨0, none⟩⟩⟩ } }

/-- RowConversionsGiveKeyEvents, the ladder check: a row before the last, a scan that the seat joined late, the 16th IDLE
scan, the 64th scan, and one before either. -/
theorem test_hyp_ladder :
    ((checkingRow 6 6 0 0).ks.scan.map (·.row)) = some 6 ∧ ((checkingRow 6 6 0 0).seat .a).state = .checking ∧
    ((checkingRow 6 6 0 0).seat .a).rows[6 % 8]? = some RowRecord.fresh ∧ 6 % 8 ≠ 7 ∧
    (checkingRow 7 6 0 0).resetHeld = false ∧ rowSeat 7 = .a ∧
    (after (.rowConversionComplete 1000) (checkingRow 7 7 15 63)).isPending (.seatChange .a) = true ∧
    ((after (.rowConversionComplete 1000) (checkingRow 7 7 15 63)).seat .a).state = .ready ∧
    ((after (.rowConversionComplete 64) (checkingRow 7 7 15 63)).seat .a).faultRow = some 7 ∧
    ((after (.rowConversionComplete 1000) (checkingRow 7 7 14 62)).seat .a).idleRun = 15 := by decide +kernel

/-- SenseAndIdentityMoveTheSeat, during a scan: the kind stands in map slot 0, and in map slot 1 alone. -/
theorem test_hyp_joinScan :
    let s := scanning 3 false (base.setSeat .a { SeatRecord.fresh with state := .identifying })
    s.resetHeld = false ∧ (s.seat .a).state = .identifying ∧ identityCheck 1 0 = 49 ∧ (1#8).toNat ≠ 0 ∧
    s.ks.scan = some ⟨3, false, ⟨⟨8, none⟩, ⟨7, none⟩⟩⟩ ∧ s.ks.map0.tag = (1#8).toNat ∧
    ({ s with ks := { s.ks with map0 := map1, map1 := { map1 with tag := 2 } } }).ks.map1.tag = (2#8).toNat ∧
    ({ s with ks := { s.ks with map0 := map1 } }).ks.map0.tag ≠ (2#8).toNat := by decide +kernel

/-- SpeechSettingsAreReplaced, out of range: seat 2, setting 2, and table bytes of 161. -/
theorem test_hyp_badSettings :
    base.takes (.setRoute 1 2 0) ∧ 1 < (2#8).toNat ∧ base.takes (.setRoute 1 0 2) ∧
    base.takes (.setCues 1 (List.replicate 8 161)) ∧ (∃ b ∈ List.replicate 8 161#8, 160 < b.toNat) ∧
    base.takes (.setLetters 1 (List.replicate 27 161)) ∧ ∃ b ∈ List.replicate 27 161#8, 160 < b.toNat :=
  ⟨takes_of (by decide +kernel), by decide, takes_of (by decide +kernel), takes_of (by decide +kernel),
    ⟨161, by decide, by decide⟩, takes_of (by decide +kernel), 161, by decide, by decide⟩

/-- An utterance of clip 1. -/
def said (h : Nat) (r : Requester) (cls : SpeechClass) (route : BitVec 3) : Utterance := ⟨h, r, cls, route, [1]⟩

/-- The base state with utterances that wait: of seat A and the duel of one class, and an announcement. -/
def waitingHeads (v0 v1 : Option Playing) (announce : List Utterance) : State :=
  { base with se := { base.se with
      seatQueue := ⟨[said 1 (.seat .a) .prompt 1], []⟩, duelQueue := [said 2 .duel .prompt 2], announceQueue := announce
      v0 := v0, v1 := v1 } }

/-- AnnouncementsAreSpokenAndCancelled, ALL and the arbiter: an announcement playing; heads of one class, of two, one that
shares the playing voice's channel, and no voice free. -/
theorem test_hyp_arbiter :
    ((speaking .announce .announce).takes (.cancelAnnounce 1 1 0) ∧
      (speaking .announce .announce).se.v0 = some (spoken .announce .announce)) ∧
    (base.se.startOrder = [.seat .a, .seat .b, .duel] ∧ Requester.seat .a ≠ .seat .b ∧ Requester.seat .b ≠ .duel ∧
      Requester.seat .a ≠ .duel) ∧
    (let s := waitingHeads none none []
     s.voiceToFill = some .v0 ∧ s.bestHead .v0 = some (said 1 (.seat .a) .prompt 1) ∧ s.clipBad 1 = false) ∧
    (let s := waitingHeads (some (spoken .duel .cue)) none [said 3 .announce .announce 1]
     s.voiceToFill = some .v1 ∧ s.eligible .v1 (said 3 .announce .announce 1) = false ∧
     s.bestHead .v1 = some (said 2 .duel .prompt 2)) ∧
    (waitingHeads none none [said 3 .announce .announce 1]).bestHead .v0 = some (said 3 .announce .announce 1) ∧
    (waitingHeads (some (spoken .duel .cue)) (some (spoken .duel .cue)) []).voiceToFill = none ∧
    base.bestHead .v0 = none :=
  ⟨⟨takes_of (by decide +kernel), rfl⟩, by decide +kernel⟩

/-- AnnouncementsAreSpokenAndCancelled, the duel speech queue: an outstanding firm utterance that waits is replaced. -/
theorem test_hyp_duelQueue :
    let s := { waitingHeads none none [] with dc := { base.dc with firm := some 2 } }
    (∀ u ∈ s.se.duelQueue, s.dc.firm = some u.handle) ∧ s.se.duelQueue = [said 2 .duel .prompt 2] ∧
    (s.placeDuelFirm .feedback [1]).1.se.duelQueue.map (·.cls) = [.feedback] := by
  refine ⟨?_, rfl, by decide +kernel⟩
  intro u hu
  rw [List.mem_singleton.1 hu]; rfl

/-- A duel whose utterance of clip 1 plays on V0. -/
def dueling (cls : SpeechClass) (d : DuelRecord) (c : Context) (records : Nat) : State :=
  let s := speaking .duel cls
  { s with dc := { d with firm := some 7 }, ae := ⟨c, c⟩, rl := { base.rl with records := List.replicate records record }
           ps := { s.ps with duel := [0] } }

/-- A settled round. -/
def settled (round : Nat) : DuelRecord :=
  { (race (judged true false)).dc with
    state := .settling, target := none, round := round, result := some .miss, judgements := ⟨none, none⟩
    seats := ⟨{ inRace with status := some .out, ended := some .miss }, { inRace with status := some .out, ended := some .miss }⟩ }

/-- VoicesAdvanceAndEnd, in a duel: the end of the prompt; the end of the feedback of the last round, with room for one
record, and before the next round. -/
theorem test_hyp_duelVoices :
    (let c : Context := { typing with mode := .duel, state := .prompting, startTick := none }
     let s := dueling .prompt { settled 1 with state := .presenting, seats := ⟨inRace, inRace⟩ } c 0
     s.resetHeld = false ∧ s.fb.frozen = false ∧ s.voice .v0 = some (spoken .duel .prompt) ∧ s.voice .v1 = none ∧
     s.allWaiting = [] ∧ s.clip 1 = some { clip1 with pins := 1 } ∧ s.dc.firm = some 7 ∧ s.dc.state = .presenting ∧
     (s.round .a).status = some .typing ∧ (s.ctx .b).state = .prompting ∧ s.inFlight .a = false ∧
     (s.seat .a).keys = [] ∧ (s.seat .b).keys = []) ∧
    (let s := dueling .feedback (settled 3) { typing with mode := .duel, state := .feedback } 30
     s.voice .v0 = some (spoken .duel .feedback) ∧ s.dc.state = .settling ∧ (s.round .b).record = .notBuilt ∧
     s.rl.records.length ≤ 30 ∧ s.dc.round = s.dc.total ∧ s.fb.frozen = false) ∧
    (dueling .feedback (settled 1) typing 31).rl.records.length = 31 ∧
    (let s := dueling .feedback (settled 1) { typing with mode := .duel, state := .feedback } 30
     s.dc.round ≠ s.dc.total ∧ s.fb.condition = .normal ∧ s.cfg.refillMark = 0 ∧ s.ps.duel = 0 :: [] ∧
     s.slot 0 = .occupied cat true ∧ s.clipReady cat.wordClip = true) := by decide +kernel

/-- The closing round 1 of a duel with a full log and full key queues: seat A's record waits, and seat B's by its status. -/
def awaiting (waiting : List Seat) (b : RecordStatus) (clip : Option Clip) : State :=
  let c : Context := { typing with mode := .duel, state := .waitingLog, target := none, pendingRecord := some record }
  let d := { settled 1 with seats := ⟨{ inRace with record := .waiting }, { inRace with record := b }⟩ }
  let s := fullKeys ({ base with dc := d, ae := ⟨c, { c with state := if b = .inLog then .feedback else .waitingLog }⟩ })
  { s.setClip 1 clip with
    rl := { base.rl with records := List.replicate 32 record, waiting := waiting }, ps := { s.ps with duel := [0] } }

/-- LogAndAttentionRequests, duels: seat A's record appended while B's waits, and as the last that waits. -/
theorem test_hyp_logDuel :
    (let s := awaiting [.a, .b] .waiting (some clip1)
     s.takes (.releaseResults 1 1) ∧ s.rl.records.length = 32 ∧ s.rl.waiting = [Seat.a, Seat.a.other] ∧
     (s.ctx .a).pendingRecord = some record ∧ (s.ctx .a).mode = .duel ∧ s.duelRuns = true ∧
     (s.round .b).record = .waiting ∧ s.fb.frozen = false) ∧
    (let s := awaiting [.a] .inLog (some clip1)
     s.takes (.releaseResults 1 1) ∧ s.rl.waiting = [.a] ∧ (∀ y, (s.ctx y).mode = .duel) ∧ s.duelRuns = true ∧
     (s.round .b).record = .inLog ∧ s.dc.round ≠ s.dc.total ∧ s.fb.condition = .normal ∧ s.cfg.refillMark = 0 ∧
     s.ps.duel = 0 :: [] ∧ s.slot 0 = .occupied cat true ∧ s.clipReady cat.wordClip = true ∧ s.speechQuiet ∧
     (∀ y, (s.seat y).keys.length ≤ 16) ∧ s.fb.frozen = false) := by
  refine ⟨⟨takes_of (by decide +kernel), ?_⟩, takes_of (by decide +kernel), ?_⟩
  · decide +kernel
  · refine ⟨rfl, eachSeat ?_ ?_, rfl, rfl, ?_, rfl, rfl, rfl, rfl, ?_, ?_, eachSeat ?_ ?_, rfl⟩
    all_goals first
      | decide +kernel
      | (unfold State.speechQuiet; decide +kernel)

/-- Keys typed in WAITING_LOG of a duel stay queued until the next prompt, through a round without audio too (R78, R86). -/
theorem test_keysWaitForThePrompt :
    ((after (.releaseResults 1 1) (awaiting [.a, .b] .waiting (some clip1))).seat .a).keys.length = 16 ∧
    ((after (.releaseResults 1 1) (awaiting [.a] .inLog (some clip1))).seat .a).keys = [] ∧
    (let t := after (.releaseResults 1 1) (awaiting [.a] .inLog none)
     t.dc.round = 2 ∧ t.dc.state = .settling ∧ t.ae.a.state = .waitingLog ∧ (t.seat .a).keys.length = 16) := by
  decide +kernel

/-- A duel that HOLD has paused, with a duel record and in a state of the contexts. -/
def heldDuel (d : DuelRecord) : State :=
  { under .hold base with dc := d, ae := ⟨{ pausedBy .hold with mode := .duel }, { pausedBy .hold with mode := .duel }⟩
                          ps := { base.ps with duel := [0] } }

/-- HoldIsEnteredAndCleared, announcements and duels: an announcement that plays as HOLD is entered in a race; and CLEAR_HOLD
with an open round, a held presentation, a settled round, and a target whose parity is wrong. -/
theorem test_hyp_holdDuel :
    (let s := { race (judged true false) with
       se := (heldClip .ready).se, cs := (heldClip .ready).cs
       fb := { (under .hold base).fb with holdDue := true } }
     s.resetHeld = false ∧ s.fb.holdDue = true ∧ s.fb.frozen = false ∧ s.duelRuns = true ∧
     (s.round .a).record = .notBuilt ∧ s.voice .v0 = some (spoken .announce .announce)) ∧
    ((heldClip .ready).pinLaw ∧ (heldClip .ready).allWaiting = []) ∧
    (let open' := heldDuel (race (judged true false)).dc
     open'.takes (.clearHold 1) ∧ open'.fb.frozen = false ∧ open'.fb.condition = .hold ∧
     (∀ x, (open'.ctx x).mode = .duel ∧ (open'.seat x).keys = []) ∧ open'.speechQuiet ∧ open'.cfg.refillMark = 0 ∧
     open'.dc.target = some 0 ∧ open'.dc.copy = some cat.copy ∧ open'.slot 0 = .occupied cat true ∧
     open'.clipReady cat.copy.wordClip = true ∧ ∃ y, (open'.ctx y).state = .paused ∧ (open'.ctx y).pauseCause = some .hold) ∧
    (let held := heldDuel { settled 1 with state := .presenting }
     held.dc.state = .presenting ∧ held.dc.target = none ∧ held.ps.duel = 0 :: [] ∧ held.slot 0 = .occupied cat true) ∧
    (let last := heldDuel (settled 3)
     last.dc.state = .settling ∧ (∀ x, (last.round x).record = .notBuilt) ∧ last.dc.firm = none ∧
     last.rl.records.length ≤ 30 ∧ last.dc.round = last.dc.total) ∧
    (let lost := (heldDuel (race (judged true false)).dc).setSlot 0 (.occupied cat false)
     lost.roundOpen ∧ lost.slot 0 = .occupied cat false ∧ lost.dc.round ≠ lost.dc.total ∧
     lost.faultEnabled .tableParity = true) := by
  refine ⟨by decide +kernel, ⟨heldClip_pinLaw _ (.inl rfl), rfl⟩, ⟨takes_of (by decide +kernel), rfl, rfl,
    eachSeat ⟨rfl, rfl⟩ ⟨rfl, rfl⟩, ⟨rfl, rfl⟩, rfl, rfl, rfl, by decide +kernel, by decide +kernel, .a, rfl, rfl⟩,
    by decide +kernel, ⟨rfl, eachSeat rfl rfl, by decide +kernel⟩, ?_, by decide +kernel⟩
  exact ⟨.inr rfl, ⟨_, rfl⟩, ⟨0, cat, rfl, by decide +kernel⟩, eachSeat ⟨rfl, rfl⟩ ⟨rfl, rfl⟩, rfl, rfl, rfl, by decide, by decide,
    rfl⟩

/-- The nine StepKeeps statements: the base state, with a clip, a word and two keyboards, is under every law, and a step
from it answers a next state. -/
theorem test_hyp_laws : base.linkLaw ∧ base.memoryLaw ∧ base.blockLaw ∧ base.pinLaw ∧ base.speechLaw ∧ base.wordLaw ∧
    base.logLaw ∧ base.seatLaw ∧ base.conditionLaw ∧ ∃ t, step base = .next t := by
  refine ⟨⟨by decide, rfl⟩, ⟨rfl, rfl, fun _ => (by decide : (0 : Byte) = parityMark 0)⟩, ⟨by decide +kernel, by decide +kernel, ?_, ?_⟩,
    base_pinLaw, ⟨?_, by decide, nofun, List.Perm.refl _, by decide, by decide, by decide, by decide⟩,
    ⟨by decide +kernel, ?_, ?_, base_mistakes⟩, ⟨by decide, by decide, ?_, by decide⟩, ⟨?_, by decide +kernel, by decide +kernel⟩,
    ⟨nofun, nofun, nofun⟩, ⟨_, rfl⟩⟩
  · intro b id hb
    rw [base_blocks b hb, base_clip]
    constructor
    · intro h
      by_cases h0 : b = 0
      · subst h0
        simp only [if_true, Option.some.injEq] at h
        subst h
        exact ⟨clip1, rfl, by decide, by decide⟩
      · simp [h0] at h
    · rintro ⟨c, h, h1, h2⟩
      by_cases hi : id = 1
      · simp only [hi, if_true, Option.some.injEq] at h
        subst h
        have : b = 0 := by simp only [clip1] at h2; omega
        simp [this, hi]
      · simp [hi] at h
  · intro id c h
    rw [base_clip] at h
    by_cases hi : id = 1
    · simp only [hi, if_true, Option.some.injEq] at h
      subst h
      exact ⟨by decide, by decide, by decide⟩
    · simp [hi] at h
  · exact eachSeat ⟨by decide, by decide⟩ ⟨by decide, by decide⟩
  · intro n e h
    rw [base_entry] at h
    by_cases h0 : n = 0
    · simp only [h0, if_true, Option.some.injEq] at h
      subst h
      exact cat_lawful
    · simp [h0] at h
  · intro m n e f h g _
    rw [base_entry] at h g
    by_cases h0 : m = 0
    · by_cases g0 : n = 0
      · rw [h0, g0]
      · simp [g0] at g
    · simp [h0] at h
  · intro i h
    exact absurd h (Nat.not_lt_zero i)
  · refine eachSeat ?_ ?_ <;> refine ⟨by decide, by decide, by decide, by decide, fun _ => ⟨0, rfl, by decide⟩⟩

end Sys2Proof.Tests
end

section
/-! Mistakes are classified by the manual's tests: what each test of the model finds, in the words of R63 to R68, and
the code that it gives. -/

namespace Sys2Proof.Machine

/-! ### Positions that differ (R62) -/

theorem mem_differing {w t : List Nat} {p : Nat} :
    p ∈ differing w t ↔ p < min w.length t.length ∧ t[p]? ≠ w[p]? := by
  rw [differing, List.mem_filter, List.mem_range, bne_iff_ne, ne_comm]

theorem pairwise_lt_differing (w t : List Nat) : (differing w t).Pairwise (· < ·) :=
  List.pairwise_lt_range.filter _

/-- Between lists of one length, an ascending list is the list of differing positions when it has the same members. -/
theorem differing_eq_iff {w t l : List Nat} (hlen : t.length = w.length) (hl : l.Pairwise (· < ·)) :
    differing w t = l ↔ (∀ p ∈ l, p < w.length) ∧ ∀ q, q < w.length → (t[q]? ≠ w[q]? ↔ q ∈ l) := by
  have mem : ∀ p, p ∈ differing w t ↔ p < w.length ∧ t[p]? ≠ w[p]? := fun p => by
    rw [mem_differing, hlen, min_self]
  constructor
  · rintro rfl
    exact ⟨fun p hp => ((mem p).1 hp).1, fun q hq => by rw [mem, and_iff_right hq]⟩
  · rintro ⟨bound, same⟩
    exact (pairwise_lt_differing w t).eq_of_mem_iff hl fun p => (mem p).trans
      ⟨fun ⟨hp, hd⟩ => (same p hp).1 hd, fun hp => ⟨bound p hp, (same p (bound p hp)).2 hp⟩⟩

/-! ### What each test finds (R63 to R66) -/

/-- Test 1 fits when exactly one position differs (R63). -/
theorem differing_eq_singleton_iff {w t : List Nat} {p : Nat} (hlen : t.length = w.length) :
    differing w t = [p] ↔ p < w.length ∧ ∀ q, q < w.length → (t[q]? ≠ w[q]? ↔ q = p) := by
  rw [differing_eq_iff hlen (List.pairwise_singleton _ p)]
  simp only [List.mem_singleton, forall_eq]

/-- Two neighbours are the differing positions. -/
theorem differing_eq_neighbours_iff {w t : List Nat} {i : Nat} (hlen : t.length = w.length) :
    differing w t = [i, i + 1] ↔
      i + 1 < w.length ∧ ∀ q, q < w.length → (t[q]? ≠ w[q]? ↔ q = i ∨ q = i + 1) := by
  rw [differing_eq_iff hlen (List.pairwise_pair.2 i.lt_succ_self)]
  simp only [List.mem_cons, List.not_mem_nil, or_false, forall_eq_or_imp, forall_eq]
  exact and_congr_left' ⟨And.right, fun h => ⟨by omega, h⟩⟩

theorem exchangedAt_eq_some_iff {w t : List Nat} {i : Nat} :
    exchangedAt w t = some i ↔ differing w t = [i, i + 1] ∧ t[i]? = w[i + 1]? ∧ t[i + 1]? = w[i]? := by
  unfold exchangedAt
  split
  case h_1 a b hd =>
    rw [hd]
    constructor
    · intro h
      split at h
      next hx => cases h; obtain ⟨rfl, hx⟩ := hx; exact ⟨rfl, hx⟩
      next => cases h
    · rintro ⟨h, hx⟩
      cases h
      exact if_pos ⟨rfl, hx⟩
  case h_2 hd =>
    exact ⟨nofun, fun ⟨h, _⟩ => absurd h (hd _ _)⟩

/-- A removal is found at the smallest position that explains the shorter list (R65, R66). -/
theorem removalAt_eq_some_iff {long short : List Nat} {i : Nat} :
    removalAt long short = some i ↔
      i < long.length ∧ long.eraseIdx i = short ∧ ∀ j, j < i → long.eraseIdx j ≠ short := by
  simp [removalAt, List.find?_range_eq_some, and_left_comm]

theorem removalAt_eq_none_iff {long short : List Nat} :
    removalAt long short = none ↔ ∀ i, i < long.length → long.eraseIdx i ≠ short := by
  simp [removalAt]

theorem repeatsNeighbour_iff {t : List Nat} {i : Nat} :
    repeatsNeighbour t i = true ↔ (0 < i ∧ t[i]? = t[i - 1]?) ∨ (i + 1 < t.length ∧ t[i]? = t[i + 1]?) := by
  simp [repeatsNeighbour]

/-- Test 5 names the first position at which the lists part (R67). -/
theorem generalMistake_eq {w t : List Nat} {p : Nat} (hp : p ≤ min t.length w.length)
    (same : ∀ q, q < p → t[q]? = w[q]?) (parts : p < min t.length w.length → t[p]? ≠ w[p]?) :
    generalMistake w t = mistakeAt .general p w t := by
  rw [min_comm] at hp parts
  have first : p < min w.length t.length → p ∈ differing w t := fun h => mem_differing.2 ⟨h, parts h⟩
  unfold generalMistake
  split
  next q qs hd =>
    obtain ⟨hq, hne⟩ := mem_differing.1 (hd ▸ List.mem_cons_self : q ∈ differing w t)
    have hpq : p ≤ q := Nat.le_of_not_lt fun h => hne (same q h)
    have hmem : p ∈ q :: qs := hd ▸ first (hpq.trans_lt hq)
    have sorted : (q :: qs).Pairwise (· < ·) := hd ▸ pairwise_lt_differing w t
    rcases List.mem_cons.1 hmem with rfl | htail
    · rfl
    · exact absurd ((List.pairwise_cons.1 sorted).1 p htail) (Nat.not_lt.2 hpq)
  next hd =>
    have hnot : ¬ p < min w.length t.length := fun h => List.not_mem_nil (hd ▸ first h)
    rw [hp.antisymm (Nat.le_of_not_lt hnot)]

/-! ### The code each test gives (R62) -/

theorem classifyWord_of_differing_singleton {w t : List Nat} {p : Nat} (hlen : t.length = w.length)
    (hd : differing w t = [p]) : classifyWord w t = mistakeAt .substitution p w t := by
  simp [classifyWord, hlen, hd]

theorem classifyWord_of_exchangedAt {w t : List Nat} {i : Nat} (hlen : t.length = w.length)
    (hx : exchangedAt w t = some i) : classifyWord w t = mistakeAt .transposition i w t := by
  obtain ⟨hd, _⟩ := exchangedAt_eq_some_iff.1 hx
  simp [classifyWord, hlen, hd, hx]

theorem classifyWord_of_left_out {w t : List Nat} {i : Nat} (hlen : t.length + 1 = w.length)
    (hr : removalAt w t = some i) : classifyWord w t = mistakeAt .omission i w t := by
  simp [classifyWord, ← hlen, hr]

theorem classifyWord_of_extra {w t : List Nat} {i : Nat} (hlen : t.length = w.length + 1)
    (hr : removalAt t w = some i) :
    classifyWord w t = mistakeAt (if repeatsNeighbour t i then .doubling else .insertion) i w t := by
  have hlong : ¬ w.length + 1 + 1 = w.length := by omega
  simp [classifyWord, hlen, hr, hlong]

/-- Test 5 fits what tests 1 to 4 leave (R67). -/
theorem classifyWord_of_no_fit {w t : List Nat}
    (one : t.length = w.length → ∀ p, differing w t ≠ [p])
    (two : t.length = w.length → exchangedAt w t = none)
    (three : t.length + 1 = w.length → removalAt w t = none)
    (four : t.length = w.length + 1 → removalAt t w = none) : classifyWord w t = generalMistake w t := by
  unfold classifyWord
  split
  next hlen =>
    split
    next p hd => exact absurd hd (one hlen p)
    next => rw [two hlen]
  next =>
    split
    next hlen => rw [three hlen]
    next =>
      split
      next hlen => rw [four hlen]
      next => rfl

/-! ### The LETTERWISE tests (R68) -/

theorem classifyLetter_of_next {w : List Nat} {c x : Nat} (h : w[c + 1]? = some x) :
    classifyLetter w c x = ⟨.omission, c, w[c]?, some x⟩ := by
  simp [classifyLetter, h]

theorem classifyLetter_of_previous {w : List Nat} {c x : Nat} (hn : w[c + 1]? ≠ some x) (hc : 0 < c)
    (hp : w[c - 1]? = some x) : classifyLetter w c x = ⟨.doubling, c, w[c]?, some x⟩ := by
  simp [classifyLetter, hn, hc, hp]

theorem classifyLetter_of_neither {w : List Nat} {c x : Nat} (hn : w[c + 1]? ≠ some x)
    (hp : c = 0 ∨ w[c - 1]? ≠ some x) : classifyLetter w c x = ⟨.substitution, c, w[c]?, some x⟩ := by
  have hno : ¬ (0 < c ∧ w[c - 1]? = some x) := fun ⟨hc, h⟩ => hp.elim hc.ne' (· h)
  simp [classifyLetter, hn, hno]

/-! ### The obligation -/

/-- Settles O18: each hypothesis of a test is read back into what the model's test finds. -/
theorem mistakesAreClassifiedByTheTests : Obligations.MistakesAreClassifiedByTheTests := by
  refine ⟨fun w t _ => ⟨?substitution, ?transposition, ?omission, ?extra, ?general⟩, ?letterwise⟩
  case substitution =>
    intro p hlen hp only
    exact classifyWord_of_differing_singleton hlen ((differing_eq_singleton_iff hlen).2 ⟨hp, only⟩)
  case transposition =>
    intro i hlen hi only hx hy
    exact classifyWord_of_exchangedAt hlen
      (exchangedAt_eq_some_iff.2 ⟨(differing_eq_neighbours_iff hlen).2 ⟨hi, only⟩, hx, hy⟩)
  case omission =>
    intro i hlen hi removed least
    exact classifyWord_of_left_out hlen (removalAt_eq_some_iff.2 ⟨hi, removed, least⟩)
  case extra =>
    intro i hlen hi removed least
    rw [classifyWord_of_extra hlen (removalAt_eq_some_iff.2 ⟨hi, removed, least⟩)]
    simp only [repeatsNeighbour_iff, mistakeAt]
  case general =>
    intro p none12 none3 none4 hp same parts
    have one : t.length = w.length → ∀ i, differing w t ≠ [i] := fun hlen i hd =>
      have ⟨hi, only⟩ := (differing_eq_singleton_iff hlen).1 hd
      (none12 hlen i hi).1 only
    have two : t.length = w.length → exchangedAt w t = none := fun hlen =>
      Option.eq_none_iff_forall_ne_some.2 fun i hx =>
        have ⟨hd, exchanged⟩ := exchangedAt_eq_some_iff.1 hx
        have ⟨hi, only⟩ := (differing_eq_neighbours_iff hlen).1 hd
        (none12 hlen i (Nat.lt_of_succ_lt hi)).2 ⟨hi, only, exchanged⟩
    calc classifyWord w t
      _ = generalMistake w t := classifyWord_of_no_fit one two
        (fun hlen => removalAt_eq_none_iff.2 (none3 hlen)) (fun hlen => removalAt_eq_none_iff.2 (none4 hlen))
      _ = mistakeAt .general p w t := generalMistake_eq hp same parts
  case letterwise =>
    intro w c x _ _
    exact ⟨classifyLetter_of_next, classifyLetter_of_previous, classifyLetter_of_neither⟩

end Sys2Proof.Machine
end

section
/-! Row levels decode by their windows (R110): the quotient and the remainder of a level by 128, which the decoder
reads, are tied to the manual's windows once, and the three decodes follow from that. -/

namespace Sys2Proof.Machine

/-- A window's offsets are below 128, so a level in window `k` has quotient `k`. -/
theorem quotient_and_offset_iff_window {level k : Nat} :
    (level / 128 = k ∧ 24 ≤ level % 128 ∧ level % 128 ≤ 104) ↔ 128 * k + 24 ≤ level ∧ level ≤ 128 * k + 104 := by
  omega

theorem decodeLevel_of_window {level k : Nat} (hk : k ≤ 6) (low : 128 * k + 24 ≤ level) (high : level ≤ 128 * k + 104) :
    decodeLevel level = .step k := by
  have busy : ¬ 920 ≤ level := by omega
  obtain ⟨rfl, inside⟩ := quotient_and_offset_iff_window.2 ⟨low, high⟩
  simp only [decodeLevel, if_neg busy, if_pos (And.intro hk inside)]

theorem decodeLevel_of_idle_range {level : Nat} (h : 920 ≤ level) : decodeLevel level = .idle :=
  if_pos h

theorem decodeLevel_of_no_window {level : Nat} (apart : ∀ k, k ≤ 6 → level < 128 * k + 24 ∨ 128 * k + 104 < level)
    (busy : level < 920) : decodeLevel level = .ambiguous := by
  have outside : ¬ (level / 128 ≤ 6 ∧ 24 ≤ level % 128 ∧ level % 128 ≤ 104) := fun ⟨hk, inside⟩ =>
    have ⟨low, high⟩ := quotient_and_offset_iff_window.1 ⟨rfl, inside⟩
    (apart _ hk).elim low.not_gt high.not_gt
  simp only [decodeLevel, if_neg busy.not_ge, if_neg outside]

/-- Settles O32: each of the three clauses is one of the decoder's branches. -/
theorem rowLevelsDecode : Obligations.RowLevelsDecode := fun _ _ =>
  ⟨fun _ => decodeLevel_of_window, decodeLevel_of_idle_range, decodeLevel_of_no_window⟩

end Sys2Proof.Machine
end

section
/-! Output channels carry the saturating sum of the scaled samples (R167): what a voice presents by the format of its
clip, its share of a channel by its route, and the sum. -/

namespace Sys2Proof.Machine

/-! ### The sample a voice presents -/

theorem State.currentSample_of_u8 {s : State} {p : Playing} {id : Nat} {c : Clip}
    (hid : p.utterance.clips[p.index]? = some id) (hc : s.clip id = some c) (hf : c.format = .u8) :
    s.currentSample p = (((s.clipByte c p.sample).toNat : Int) - 128) * 2 ^ 8 := by
  simp [State.currentSample, hid, hc, hf]

theorem State.currentSample_of_s16 {s : State} {p : Playing} {id : Nat} {c : Clip}
    (hid : p.utterance.clips[p.index]? = some id) (hc : s.clip id = some c) (hf : c.format = .s16) :
    s.currentSample p = (s.clipByte c (2 * p.sample + 1) ++ s.clipByte c (2 * p.sample)).toInt := by
  simp [State.currentSample, hid, hc, hf]

/-! ### Scaling by a volume -/

theorem scaled_full_volume (z : Int) : scaled z 15 = z := Int.mul_tdiv_cancel z (by decide)

theorem scaled_zero_volume (z : Int) : scaled z 0 = 0 := by
  simp [scaled]

/-! ### A voice's share of a channel -/

theorem shareChannel_iff {r q : BitVec 3} : shareChannel r q = true ↔ r &&& q ≠ 0 := bne_iff_ne

theorem State.voiceSample_of_apart {s : State} {ch : Channel} {p : Playing} (h : p.utterance.route &&& ch.route = 0) :
    s.voiceSample ch (some p) = 0 :=
  if_neg fun hr => shareChannel_iff.1 hr h

theorem State.voiceSample_of_routed {s : State} {ch : Channel} {p : Playing} (h : p.utterance.route &&& ch.route ≠ 0) :
    s.voiceSample ch (some p) = scaled (s.currentSample p) (s.volume ch) :=
  if_pos (shareChannel_iff.2 h)

/-- The rule's value `z` of what voice `v` gives channel `ch`: 0 when the voice is FREE or not routed to the channel, and
the scaled sample of its clip otherwise. -/
def State.CarriesScaled (s : State) (ch : Channel) (v : Voice) (z : Int) : Prop :=
  (s.voice v = none → z = 0) ∧
  ∀ p, s.voice v = some p →
    (p.utterance.route &&& ch.route = 0 → z = 0) ∧
    (p.utterance.route &&& ch.route ≠ 0 → ∃ id c, p.utterance.clips[p.index]? = some id ∧ s.clip id = some c ∧
      (c.format = .u8 → z = scaled ((((s.clipByte c p.sample).toNat : Int) - 128) * 2 ^ 8) (s.volume ch)) ∧
      (c.format = .s16 →
        z = scaled (s.clipByte c (2 * p.sample + 1) ++ s.clipByte c (2 * p.sample)).toInt (s.volume ch)))

/-- A voice's share of a channel in the model is the one value that the rule gives it. -/
theorem State.CarriesScaled.eq_voiceSample {s : State} {ch : Channel} {v : Voice} {z : Int}
    (h : s.CarriesScaled ch v z) : z = s.voiceSample ch (s.voice v) := by
  obtain ⟨free, playing⟩ := h
  cases hv : s.voice v with
  | none => exact free hv
  | some p =>
    obtain ⟨apart, routed⟩ := playing p hv
    by_cases hr : p.utterance.route &&& ch.route = 0
    · rw [apart hr, State.voiceSample_of_apart hr]
    · obtain ⟨id, c, hid, hc, u8, s16⟩ := routed hr
      rw [State.voiceSample_of_routed hr]
      cases hf : c.format with
      | u8 => rw [u8 hf, State.currentSample_of_u8 hid hc hf]
      | s16 => rw [s16 hf, State.currentSample_of_s16 hid hc hf]

/-! ### The sum -/

theorem State.channelSample_eq_of_carriesScaled {s : State} {ch : Channel} {x y : Int}
    (hx : s.CarriesScaled ch .v0 x) (hy : s.CarriesScaled ch .v1 y) :
    s.channelSample ch = max (-32768) (min 32767 (x + y)) := by
  rw [hx.eq_voiceSample, hy.eq_voiceSample]
  rfl

/-- Settles O41: the hypothesis of the statement gives both voices their values by the rule. -/
theorem channelsCarryScaledSamples : Obligations.ChannelsCarryScaledSamples :=
  ⟨fun _ _ x y h => State.channelSample_eq_of_carriesScaled (h .v0 x (.inl ⟨rfl, rfl⟩)) (h .v1 y (.inr ⟨rfl, rfl⟩)),
    fun z => ⟨scaled_full_volume z, scaled_zero_volume z⟩⟩

end Sys2Proof.Machine
end

section
/-! The ready line follows the reply queue (R207): out of reset its level is one comparison with the queue's length, from
which the high range, the low range and the level after power-on follow. -/

namespace Sys2Proof.Machine

/-- Only a held reset pin overrides the queue (R216). -/
theorem State.readyHigh_eq_of_released {s : State} (released : s.resetHeld = false) :
    s.readyHigh = decide (s.lp.replies.length ≤ 2) := by
  rw [State.readyHigh, released, Bool.not_false, Bool.true_and]

theorem State.readyHigh_of_length_le {s : State} (released : s.resetHeld = false) (few : s.lp.replies.length ≤ 2) :
    s.readyHigh = true :=
  (State.readyHigh_eq_of_released released).trans (decide_eq_true few)

theorem State.readyLow_of_lt_length {s : State} (released : s.resetHeld = false) (many : 2 < s.lp.replies.length) :
    s.readyHigh = false :=
  (State.readyHigh_eq_of_released released).trans (decide_eq_false many.not_ge)

/-- Settles O10: the counts that the rule names lie on the two sides of the comparison, and power-on leaves the reset pin
released and the queue empty. -/
theorem readyLineFollowsReplyQueue : Obligations.ReadyLineFollowsReplyQueue := by
  refine ⟨fun s released => ⟨fun few => ?high, fun many => ?low⟩, ?powerOn⟩
  case high => exact State.readyHigh_of_length_le released (by omega)
  case low => exact State.readyLow_of_lt_length released (by omega)
  case powerOn => exact State.readyHigh_of_length_le rfl (Nat.zero_le 2)

end Sys2Proof.Machine
end

section
/-! The law of the Word Table, piece by piece: what each block has to hold for it, what each update of a block has to show,
and the tasks that carry a key to be judged. -/

namespace Sys2Proof.Machine

/-! ### The law, block by block -/

/-- The duel record's part of the law of mistake codes. -/
def DuelRecord.lettersLawful (d : DuelRecord) : Prop :=
  mistakeGood d.mistake ∧ ∀ x j, d.judgements.get x = some j → mistakeGood j.mistake

/-- The Word Table's part of the law: 96 slots, lawful entries, no word id in two slots. -/
def tableLawful (wt : List Slot) : Prop :=
  wt.length = Config.slots ∧ (∀ (n : Nat) (e : WordEntry) (p : Bool), wt[n]? = some (.occupied e p) → e.lawful) ∧
  ∀ (m n : Nat) (e f : WordEntry) (p q : Bool), wt[m]? = some (.occupied e p) → wt[n]? = some (.occupied f q) →
    e.wordId = f.wordId → m = n

/-- The key scanner's part of the law: letter codes in the key maps and the key queues. -/
def KeyScanner.lettersLawful (ks : KeyScanner) : Prop :=
  (∀ k ∈ ks.map0.entries ++ ks.map1.entries, k.lawful) ∧ (∀ k ∈ ks.seats.a.keys, k.lawful) ∧
    ∀ k ∈ ks.seats.b.keys, k.lawful

theorem State.entry_eq_some_iff {s : State} {n : Nat} {e : WordEntry} :
    s.entry n = some e ↔ ∃ p, s.wt[n]? = some (.occupied e p) := by
  unfold State.entry State.slot
  rw [List.getD_eq_getElem?_getD]
  cases s.wt[n]? with
  | none => simp
  | some v => cases v <;> simp

theorem State.wordLaw_iff (s : State) : s.wordLaw ↔
    tableLawful s.wt ∧ s.ks.lettersLawful ∧ s.ae.a.lettersLawful ∧ s.ae.b.lettersLawful ∧ s.dc.lettersLawful := by
  unfold State.wordLaw State.mistakeLaw tableLawful KeyScanner.lettersLawful DuelRecord.lettersLawful
  simp only [State.entry_eq_some_iff, State.ctx, State.seat]
  constructor
  · rintro ⟨slots, lawful, unique, maps, keys, contexts, duel⟩
    exact ⟨⟨slots, fun n e p h => lawful n e ⟨p, h⟩, fun m n e f p q he hf => unique m n e f ⟨p, he⟩ ⟨q, hf⟩⟩,
      ⟨maps, keys .a, keys .b⟩, contexts .a, contexts .b, duel⟩
  · rintro ⟨⟨slots, lawful, unique⟩, ⟨maps, ka, kb⟩, ca, cb, duel⟩
    refine ⟨slots, fun n e ⟨p, h⟩ => lawful n e p h, fun m n e f ⟨p, he⟩ ⟨q, hf⟩ => unique m n e f p q he hf, maps,
      fun x => ?_, fun x => ?_, duel⟩
    · cases x
      exacts [ka, kb]
    · cases x
      exacts [ca, cb]

section Parts
variable {s : State} (law : s.wordLaw)
include law

theorem State.wordLaw.table : tableLawful s.wt := ((State.wordLaw_iff s).1 law).1
theorem State.wordLaw.scanner : s.ks.lettersLawful := ((State.wordLaw_iff s).1 law).2.1
theorem State.wordLaw.duel : s.dc.lettersLawful := ((State.wordLaw_iff s).1 law).2.2.2.2

theorem State.wordLaw.ctx (x : Seat) : (s.ctx x).lettersLawful := by
  obtain ⟨-, -, ca, cb, -⟩ := (State.wordLaw_iff s).1 law
  cases x
  exacts [ca, cb]

theorem State.wordLaw.keys (x : Seat) : ∀ k ∈ (s.seat x).keys, k.lawful := by
  obtain ⟨-, ka, kb⟩ := law.scanner
  cases x
  exacts [ka, kb]

theorem State.wordLaw.entry {n : Nat} {e : WordEntry} (h : s.entry n = some e) : e.lawful := by
  obtain ⟨p, hp⟩ := State.entry_eq_some_iff.1 h
  exact law.table.2.1 n e p hp

/-- The law speaks of the Word Table, the key scanner, the contexts and the duel record alone. -/
theorem State.wordLaw.congr {t : State} (wt : t.wt = s.wt) (ks : t.ks = s.ks) (ae : t.ae = s.ae) (dc : t.dc = s.dc) :
    t.wordLaw := by
  rw [State.wordLaw_iff, wt, ks, ae, dc]
  exact (State.wordLaw_iff s).1 law

theorem State.wordLaw.setTable {wt : List Slot} (h : tableLawful wt) : State.wordLaw { s with wt := wt } :=
  (State.wordLaw_iff _).2 ⟨h, ((State.wordLaw_iff s).1 law).2⟩

theorem State.wordLaw.setScanner {ks : KeyScanner} (h : ks.lettersLawful) : State.wordLaw { s with ks := ks } :=
  (State.wordLaw_iff _).2 ⟨law.table, h, ((State.wordLaw_iff s).1 law).2.2⟩

theorem State.wordLaw.setLessons {ae : Pair Context} {dc : DuelRecord} {ps : WordQueues}
    (h : ae.a.lettersLawful ∧ ae.b.lettersLawful ∧ dc.lettersLawful) :
    State.wordLaw { s with ae := ae, dc := dc, ps := ps } :=
  (State.wordLaw_iff _).2 ⟨law.table, law.scanner, h⟩

theorem State.wordLaw.setSeat {x : Seat} {r : SeatRecord} (h : ∀ k ∈ r.keys, k.lawful) : (s.setSeat x r).wordLaw := by
  obtain ⟨maps, ka, kb⟩ := law.scanner
  refine law.setScanner (ks := { s.ks with seats := s.ks.seats.set x r }) ⟨maps, ?_⟩
  cases x
  exacts [⟨h, kb⟩, ⟨ka, h⟩]

end Parts

/-! ### Contexts and the duel record -/

/-- What the law asks of a context. -/
def Context.letters (c : Context) : Option TargetCopy × List Nat × Nat × Option MistakeCode :=
  (c.copy, c.typed, c.cursor, c.lastMistake)

theorem Context.lettersLawful.of_letters {c d : Context} (h : c.lettersLawful) (same : d.letters = c.letters) :
    d.lettersLawful := by
  simp only [Context.letters, Prod.mk.injEq] at same
  obtain ⟨copy, typed, cursor, mistake⟩ := same
  unfold Context.lettersLawful
  rw [copy, typed, cursor, mistake]
  exact h

/-- What of the duel record most acts leave: the scores, the mistake and the judgements. -/
def DuelRecord.standing (d : DuelRecord) : Pair Nat × Option MistakeCode × Pair (Option Judgement) :=
  (d.scores, d.mistake, d.judgements)

theorem DuelRecord.lettersLawful.of_standing {d e : DuelRecord} (h : d.lettersLawful) (same : e.standing = d.standing) :
    e.lettersLawful := by
  simp only [DuelRecord.standing, Prod.mk.injEq] at same
  obtain ⟨-, mistake, judgements⟩ := same
  unfold DuelRecord.lettersLawful
  rw [mistake, judgements]
  exact h

/-- A context without a target copy: what it typed, its cursor and its last mistake stay. -/
theorem Context.lettersLawful.clear {c : Context} (h : c.lettersLawful) {d : Context} (copy : d.copy = none)
    (typed : d.typed = c.typed) (cursor : d.cursor = c.cursor) (mistake : d.lastMistake = c.lastMistake) :
    d.lettersLawful := by
  obtain ⟨-, rest⟩ := h
  unfold Context.lettersLawful
  rw [copy, typed, cursor, mistake]
  exact ⟨nofun, rest⟩

/-- A context whose typed list is emptied. -/
theorem Context.lettersLawful.emptied {c : Context} (h : c.lettersLawful) {d : Context} (copy : d.copy = c.copy)
    (typed : d.typed = []) (cursor : d.cursor = c.cursor) (mistake : d.lastMistake = c.lastMistake) :
    d.lettersLawful := by
  obtain ⟨spelling, -, rest⟩ := h
  unfold Context.lettersLawful
  rw [copy, typed, cursor, mistake]
  exact ⟨spelling, ⟨Nat.zero_le _, by simp⟩, rest⟩

theorem mistakeGood_none : mistakeGood none := nofun

theorem lettersGood_nil : lettersGood [] := ⟨Nat.zero_le _, by simp⟩

/-- A context at the beginning of an attempt on a lawful entry. -/
theorem Context.newAttempt_lettersLawful {e : WordEntry} (h : e.lawful) (c : Context) (n : Nat) :
    (c.newAttempt n e).lettersLawful := by
  obtain ⟨-, -, -, spelling, -⟩ := h
  refine ⟨fun k hk => ?_, lettersGood_nil, Nat.zero_le _, mistakeGood_none⟩
  cases hk
  exact spelling

theorem Context.lettersLawful.spelling {c : Context} (h : c.lettersLawful) : lettersGood c.spelling := by
  unfold Context.spelling
  split
  · rename_i t ht
    exact h.1 t ht
  · exact lettersGood_nil

/-- A judgement made stale keeps its mistake. -/
theorem DuelRecord.lettersLawful.stale {d : DuelRecord} (h : d.lettersLawful) {s : State} (hs : s.dc = d) :
    s.staleJudgements.dc.lettersLawful := by
  obtain ⟨mistake, judgements⟩ := h
  subst hs
  refine ⟨mistake, fun x j hj => ?_⟩
  have key : ∀ q : Option Judgement, q.map (fun j => { j with live := false }) = some j →
      ∃ i, q = some i ∧ j.mistake = i.mistake := by
    rintro (_ | i) hq
    · cases hq
    · cases hq
      exact ⟨i, rfl, rfl⟩
  cases x
  all_goals
    obtain ⟨i, hi, same⟩ := key _ hj
    rw [same]
  · exact judgements .a i hi
  · exact judgements .b i hi

/-- A duel record with a judgement taken off the way. -/
theorem DuelRecord.lettersLawful.taken {d : DuelRecord} (h : d.lettersLawful) (x : Seat) {e : DuelRecord}
    (mistake : mistakeGood e.mistake) (judgements : e.judgements = d.judgements.set x none) : e.lettersLawful := by
  refine ⟨mistake, fun y j hj => ?_⟩
  rw [judgements, Pair.get_set] at hj
  split at hj
  · cases hj
  · exact h.2 y j hj

/-! ### Key codes -/

/-- An entry of a key map is a key code. -/
theorem State.wordLaw.mapEntry {s : State} (law : s.wordLaw) (x : Seat) (row step : Nat) :
    (s.mapEntry x row step).lawful := by
  obtain ⟨maps, -, -⟩ := law.scanner
  unfold State.mapEntry State.keyMap
  split
  · rename_i slot _
    rw [List.getD_eq_getElem?_getD]
    cases hk : (if slot = 0 then s.ks.map0 else s.ks.map1).entries[7 * row + step]? with
    | none => exact nofun
    | some k =>
      refine maps k ?_
      have mem := List.mem_of_getElem? hk
      split at mem
      · exact List.mem_append_left _ mem
      · exact List.mem_append_right _ mem
  · exact nofun

/-! ### The Word Table -/

/-- An update of an entry under the box law. -/
def ProgressUpdate.lawful (u : ProgressUpdate) : Prop :=
  u.streak ≤ 15 ∧ u.attempts ≤ 255 ∧ u.misses ≤ 255 ∧ mistakeGood u.lastMistake

theorem storeProgress_lawful {u : ProgressUpdate} {e : WordEntry} (hu : u.lawful) (he : e.lawful) :
    (storeProgress u e).lawful := by
  obtain ⟨streak, attempts, misses, mistake⟩ := hu
  obtain ⟨id0, id1, len, spelling, w0, w1, sentence, hint, -, -, -, -, rest, -, last⟩ := he
  refine ⟨id0, id1, len, spelling, w0, w1, sentence, hint, Nat.min_le_right _ _, streak, attempts, misses, rest,
    fun h => ?_, ?_⟩
  · simp only [storeProgress, Bool.and_eq_true, decide_eq_true_eq] at h
    exact h.2
  · show mistakeGood (match u.lastMistake with
      | some m => some m
      | none => e.lastMistake)
    split
    · rename_i m hm
      exact hm ▸ mistake
    · exact last

theorem progressOf_lawful (o : AttemptEnd) (streak : Nat) {m : Option MistakeCode} {e : WordEntry}
    (hm : mistakeGood m) (he : e.lawful) : (progressOf o streak m e).lawful := by
  obtain ⟨-, -, -, -, -, -, -, -, -, -, -, misses, -⟩ := he
  refine ⟨?_, ?_, ?_, hm⟩
  all_goals
    unfold progressOf satSucc
    cases o <;> dsimp only <;> omega

theorem State.progressFor_lawful {s : State} (law : s.wordLaw) {n : Nat} {o : AttemptEnd} {m : Option MistakeCode}
    (hm : mistakeGood m) : ∀ u, s.progressFor n o m = some u → u.lawful := by
  intro u h
  unfold State.progressFor at h
  split at h
  · cases he : s.entry n with
    | none => simp [he] at h
    | some e =>
      rw [he] at h
      cases h
      exact progressOf_lawful o _ hm (law.entry he)
  · cases h

/-- A table in which one slot is written: lawful if the entry written is, and no other slot has its word id. -/
theorem tableLawful.set {wt : List Slot} (h : tableLawful wt) {n : Nat} {v : Slot}
    (lawful : ∀ e p, v = .occupied e p → e.lawful)
    (unique : ∀ e p, v = .occupied e p → ∀ m f q, m ≠ n → wt[m]? = some (.occupied f q) → f.wordId ≠ e.wordId) :
    tableLawful (wt.set n v) := by
  obtain ⟨slots, entries, ids⟩ := h
  have read : ∀ {m : Nat} {f : WordEntry} {q : Bool}, (wt.set n v)[m]? = some (.occupied f q) →
      m = n ∧ v = .occupied f q ∨ m ≠ n ∧ wt[m]? = some (.occupied f q) := by
    intro m f q hm
    rw [List.getElem?_set] at hm
    split at hm
    · rename_i hmn
      split at hm
      · cases hm
        exact .inl ⟨hmn.symm, rfl⟩
      · cases hm
    · rename_i hmn
      exact .inr ⟨Ne.symm hmn, hm⟩
  refine ⟨by simpa using slots, fun m f q hm => ?_, fun m k f g p q hm hk same => ?_⟩
  · obtain ⟨-, hv⟩ | ⟨-, hm⟩ := read hm
    · exact lawful f q hv
    · exact entries m f q hm
  · obtain ⟨hmn, hv⟩ | ⟨hmn, hm⟩ := read hm <;> obtain ⟨hkn, hw⟩ | ⟨hkn, hk⟩ := read hk
    · rw [hmn, hkn]
    · exact absurd same.symm (unique f p hv k g q hkn hk)
    · exact absurd same (unique g q hw m f p hmn hm)
    · exact ids m k f g p q hm hk same

/-- A slot that holds no entry adds nothing to the table. -/
theorem State.wordLaw.setSlot_gone {s : State} (law : s.wordLaw) (n : Nat) {v : Slot} (h : ∀ e p, v ≠ .occupied e p) :
    (s.setSlot n v).wordLaw :=
  law.setTable (law.table.set (fun e p hv => absurd hv (h e p)) fun e p hv => absurd hv (h e p))

/-- An entry written over one with the same word id. -/
theorem State.wordLaw.setSlot_same {s : State} (law : s.wordLaw) {n : Nat} {e f : WordEntry} {p q : Bool}
    (old : s.slot n = .occupied e p) (hf : f.lawful) (same : f.wordId = e.wordId) :
    (s.setSlot n (.occupied f q)).wordLaw := by
  have slot : s.wt[n]? = some (.occupied e p) := by
    unfold State.slot at old
    rw [List.getD_eq_getElem?_getD] at old
    cases h : s.wt[n]? with
    | none => simp [h] at old
    | some v => simpa [h] using old
  refine law.setTable (law.table.set (fun g r hv => ?_) fun g r hv m k c hmn hm hid => ?_)
  · cases hv
    exact hf
  · cases hv
    exact hmn (law.table.2.2 m n k e c p hm slot (hid.trans same))

theorem restSlot_lawful {n : Nat} {o : Owner} {i : Nat} {v : Slot} {f : WordEntry} {q : Bool}
    (h : restSlot n o i v = .occupied f q) :
    ∃ e p, v = .occupied e p ∧ f.wordId = e.wordId ∧ (e.lawful → f.lawful) := by
  cases v with
  | empty => cases h
  | damaged => cases h
  | occupied e p =>
    refine ⟨e, p, rfl, ?_⟩
    have rests : ∀ r, r ≤ 255 → e.lawful → ({ e with rest := r } : WordEntry).lawful := by
      rintro r hr ⟨id0, id1, len, spelling, w0, w1, sentence, hint, box, streak, attempts, misses, -, last⟩
      exact ⟨id0, id1, len, spelling, w0, w1, sentence, hint, box, streak, attempts, misses, hr, last⟩
    simp only [restSlot] at h
    split at h
    · cases h
      exact ⟨rfl, rests 0 (Nat.zero_le _)⟩
    · split at h
      · cases h
        exact ⟨rfl, rests _ (Nat.min_le_right _ _)⟩
      · cases h
        exact ⟨rfl, id⟩

theorem State.wordLaw.updateRests {s : State} (law : s.wordLaw) (n : Nat) (o : Owner) : (s.updateRests n o).wordLaw := by
  obtain ⟨slots, entries, ids⟩ := law.table
  have read : ∀ {m : Nat} {f : WordEntry} {q : Bool}, (s.wt.mapIdx (restSlot n o))[m]? = some (.occupied f q) →
      ∃ e p, s.wt[m]? = some (.occupied e p) ∧ f.wordId = e.wordId ∧ (e.lawful → f.lawful) := by
    intro m f q hm
    rw [List.getElem?_mapIdx, Option.map_eq_some_iff] at hm
    obtain ⟨v, hv, hr⟩ := hm
    obtain ⟨e, p, rfl, rest⟩ := restSlot_lawful hr
    exact ⟨e, p, hv, rest⟩
  refine law.setTable ⟨by simpa using slots, fun m f q hm => ?_, fun m k f g p q hm hk same => ?_⟩
  · obtain ⟨e, p, he, -, lawful⟩ := read hm
    exact lawful (entries m e p he)
  · obtain ⟨e, p, he, ide, -⟩ := read hm
    obtain ⟨e', p', he', ide', -⟩ := read hk
    exact ids m k e e' p p' he he' (by rw [← ide, ← ide', same])

/-- The entry that a presentation read gives is lawful. -/
theorem State.wordLaw.readTarget {s s' : State} (law : s.wordLaw) {n : Nat} {b : Bool} {e : WordEntry}
    (h : s.readTarget n b = (s', some e)) : e.lawful := by
  unfold State.readTarget at h
  split at h
  · rename_i f hf
    cases h
    exact law.entry (n := n) (by simp [State.entry, hf])
  all_goals cases h

/-! ### Tasks that carry a key -/

/-- A key on its way to be judged carries a letter code if it is a letter. -/
def Task.lawful : Task → Prop
  | .judge _ k => k.lawful
  | _ => True

/-- Every key on its way to be judged is a key code. -/
def tasksLawful (ts : List Task) : Prop := ∀ t ∈ ts, t.lawful

@[simp] theorem tasksLawful_nil : tasksLawful [] := nofun

@[simp] theorem tasksLawful_cons (t : Task) (ts : List Task) : tasksLawful (t :: ts) ↔ t.lawful ∧ tasksLawful ts := by
  simp [tasksLawful]

@[simp] theorem tasksLawful_append (ts us : List Task) :
    tasksLawful (ts ++ us) ↔ tasksLawful ts ∧ tasksLawful us := by
  simp [tasksLawful, or_imp, forall_and]

theorem tasksLawful_map {α : Type} {f : α → Task} (h : ∀ a, (f a).lawful) (l : List α) : tasksLawful (l.map f) := by
  intro task ht
  obtain ⟨a, -, rfl⟩ := List.mem_map.1 ht
  exact h a

end Sys2Proof.Machine
end

section
/-! What a cascade can do, said once: each task of SE, AE, DC and RL is a chain of a few elementary moves. A proof about
every task then looks at the moves alone. -/

namespace Sys2Proof.Machine

/-! ### Recording a fault changes the banks and the pending causes -/

theorem State.recordFault_only (s : State) (c : FaultCode) (k : FaultContext) (d : Nat) (r : Option Bool) :
    s.recordFault c k d r =
      { s with fb := (s.recordFault c k d r).fb, au := (s.recordFault c k d r).au } := by
  unfold State.recordFault
  dsimp only
  split <;> rfl

section Fault

variable (s : State) (c : FaultCode) (k : FaultContext) (d : Nat) (r : Option Bool)

@[simp] theorem State.recordFault_resetHeld : (s.recordFault c k d r).resetHeld = s.resetHeld := by
  rw [State.recordFault_only]
@[simp] theorem State.recordFault_lp : (s.recordFault c k d r).lp = s.lp := by rw [State.recordFault_only]
@[simp] theorem State.recordFault_cfg : (s.recordFault c k d r).cfg = s.cfg := by rw [State.recordFault_only]
@[simp] theorem State.recordFault_tb : (s.recordFault c k d r).tb = s.tb := by rw [State.recordFault_only]
@[simp] theorem State.recordFault_ks : (s.recordFault c k d r).ks = s.ks := by rw [State.recordFault_only]
@[simp] theorem State.recordFault_wt : (s.recordFault c k d r).wt = s.wt := by rw [State.recordFault_only]
@[simp] theorem State.recordFault_ps : (s.recordFault c k d r).ps = s.ps := by rw [State.recordFault_only]
@[simp] theorem State.recordFault_ae : (s.recordFault c k d r).ae = s.ae := by rw [State.recordFault_only]
@[simp] theorem State.recordFault_dc : (s.recordFault c k d r).dc = s.dc := by rw [State.recordFault_only]
@[simp] theorem State.recordFault_rl : (s.recordFault c k d r).rl = s.rl := by rw [State.recordFault_only]
@[simp] theorem State.recordFault_se : (s.recordFault c k d r).se = s.se := by rw [State.recordFault_only]
@[simp] theorem State.recordFault_cs : (s.recordFault c k d r).cs = s.cs := by rw [State.recordFault_only]
@[simp] theorem State.recordFault_pending : (s.recordFault c k d r).pending = s.pending := by
  rw [State.recordFault_only]

end Fault

/-! ### Evaluating the threshold and appending change the log and the pending causes -/

theorem State.evaluateThreshold_only (s : State) : s.evaluateThreshold =
    { s with rl := { s.rl with threshold := decide (s.cfg.logThreshold < s.rl.records.length) },
             au := s.evaluateThreshold.au } := by
  unfold State.evaluateThreshold
  dsimp only
  split <;> rfl

theorem State.appendRecord_only (s : State) (r : ResultRecord) : s.appendRecord r =
    { s with
      rl := { s.rl with
        records := s.rl.records ++ [{ r with number := some s.rl.counter }]
        counter := wrapSucc s.rl.counter
        threshold := decide (s.cfg.logThreshold < s.rl.records.length + 1) }
      au := (s.appendRecord r).au } := by
  have appended : ∀ u : State, ∀ b : Bool, (if b then u.raise .logFull else u) =
      { u with au := (if b then u.raise .logFull else u).au } := fun u b => by
    cases b <;> rfl
  have evaluated := State.evaluateThreshold_only { s with rl := { s.rl with
    records := s.rl.records ++ [{ r with number := some s.rl.counter }], counter := wrapSucc s.rl.counter } }
  unfold State.appendRecord
  dsimp only at evaluated ⊢
  split <;> (rw [evaluated]; simp [State.raise])

section Appending

variable (s : State) (r : ResultRecord)

@[simp] theorem State.appendRecord_cfg : (s.appendRecord r).cfg = s.cfg := by rw [State.appendRecord_only]
@[simp] theorem State.appendRecord_tb : (s.appendRecord r).tb = s.tb := by rw [State.appendRecord_only]
@[simp] theorem State.appendRecord_ks : (s.appendRecord r).ks = s.ks := by rw [State.appendRecord_only]
@[simp] theorem State.appendRecord_wt : (s.appendRecord r).wt = s.wt := by rw [State.appendRecord_only]
@[simp] theorem State.appendRecord_ps : (s.appendRecord r).ps = s.ps := by rw [State.appendRecord_only]
@[simp] theorem State.appendRecord_ae : (s.appendRecord r).ae = s.ae := by rw [State.appendRecord_only]
@[simp] theorem State.appendRecord_dc : (s.appendRecord r).dc = s.dc := by rw [State.appendRecord_only]
@[simp] theorem State.appendRecord_se : (s.appendRecord r).se = s.se := by rw [State.appendRecord_only]
@[simp] theorem State.appendRecord_cs : (s.appendRecord r).cs = s.cs := by rw [State.appendRecord_only]
@[simp] theorem State.appendRecord_fb : (s.appendRecord r).fb = s.fb := by rw [State.appendRecord_only]
@[simp] theorem State.appendRecord_lp : (s.appendRecord r).lp = s.lp := by rw [State.appendRecord_only]
@[simp] theorem State.appendRecord_records : (s.appendRecord r).rl.records =
    s.rl.records ++ [{ r with number := some s.rl.counter }] := by rw [State.appendRecord_only]
@[simp] theorem State.appendRecord_counter : (s.appendRecord r).rl.counter = wrapSucc s.rl.counter := by
  rw [State.appendRecord_only]
@[simp] theorem State.appendRecord_waiting : (s.appendRecord r).rl.waiting = s.rl.waiting := by
  rw [State.appendRecord_only]
@[simp] theorem State.appendRecord_threshold : (s.appendRecord r).rl.threshold =
    decide (s.cfg.logThreshold < s.rl.records.length + 1) := by
  rw [State.appendRecord_only]

end Appending

/-! ### The moves -/

/-- One act of SE in a cascade: an utterance of a seat or the duel is accepted, one is withdrawn, started or ended, or an
announcement's end is noted. -/
inductive SpeechMove : State → State → Prop
  | note (s : State) (h : Nat) (st : EndStatus) : SpeechMove s (s.noteAnnouncement h st)
  | acceptSeat {s t : State} {x : Seat} {cls : SpeechClass} {clips : List Nat} {k : Nat}
      (accepted : s.acceptSeat x cls clips = some (k, t)) : SpeechMove s t
  | acceptDuel {s t : State} {cls : SpeechClass} {clips : List Nat} {k : Nat}
      (accepted : s.acceptDuel cls clips = some (k, t)) : SpeechMove s t
  | cancel (s : State) (p : Utterance → Bool) : SpeechMove s (s.cancel p)
  | start (s : State) (v : Voice) (u : Utterance) (fill : s.voiceToFill = some v) (best : s.bestHead v = some u) :
      SpeechMove s (s.startUtterance v u)
  | free (s : State) (v : Voice) : SpeechMove s (s.freeVoice v)

/-- One act within a cascade that began in the state `o`. The scores change in no cascade, a key queue loses keys only, and
letters, mistake codes and word entries stay in their ranges if they are at the beginning. -/
inductive Move (o : State) : State → State → Prop
  | speech {s t : State} (h : SpeechMove s t) : Move o s t
  | lessons (s : State) (ae : Pair Context) (dc : DuelRecord) (ps : WordQueues) (scores : dc.scores = s.dc.scores)
      (letters : o.wordLaw → s.wordLaw → ae.a.lettersLawful ∧ ae.b.lettersLawful ∧ dc.lettersLawful) :
      Move o s { s with ae := ae, dc := dc, ps := ps }
  | words (s : State) (wt : List Slot) (lawful : o.wordLaw → s.wordLaw → tableLawful wt) : Move o s { s with wt := wt }
  | attention (s : State) (au : Attention) : Move o s { s with au := au }
  | append (s : State) (r : ResultRecord) (room : s.logHasRoom = true) : Move o s (s.appendRecord r)
  | waiting (s : State) (l : List Seat) : Move o s { s with rl := { s.rl with waiting := l } }
  | fault (s : State) (code : FaultCode) (context : FaultContext) (detail : Nat) (resumable : Option Bool) :
      Move o s (s.recordFault code context detail resumable)
  | holdEntered (s : State) : Move o s { s with fb := { s.fb with holdDue := false } }
  | keys (s : State) (x : Seat) (n : Nat) : Move o s (s.setSeat x { s.seat x with keys := (s.seat x).keys.drop n })

/-- A chain of moves from its beginning. -/
abbrev Moves (s : State) : State → Prop := Relation.ReflTransGen (Move s) s

/-! ### Moves of SE change SE, the clips and the pending causes -/

theorem SpeechOnly.makeRoom {s t : State} {x : Seat} {cls : SpeechClass} (h : s.makeRoom x cls = some t) :
    SpeechOnly s t := by
  unfold State.makeRoom at h
  dsimp only at h
  split at h
  · cases h
  · split at h
    · cases h
      exact SpeechOnly.trans (t := s.setSpeechQueue _ _) (by cases x <;> rfl) (.unpinAll _ _)
    · cases h
      exact .refl s

theorem SpeechMove.only {s t : State} (h : SpeechMove s t) : SpeechOnly s t := by
  cases h with
  | note => rfl
  | acceptSeat accepted =>
    unfold State.acceptSeat at accepted
    split at accepted
    · split at accepted
      · rename_i u room
        have made := SpeechOnly.makeRoom room
        cases accepted
        exact made.trans (.enqueue _ _ _ _ _)
      · cases accepted
    · cases accepted
  | acceptDuel accepted =>
    unfold State.acceptDuel at accepted
    split at accepted
    · cases accepted
      exact .enqueue _ _ _ _ _
    · cases accepted
  | cancel => exact .cancel _ _
  | start v u =>
    unfold State.startUtterance
    cases hr : u.requester <;> cases v <;> rfl
  | free => exact .freeVoice _ _

/-- A move of SE leaves what no cascade changes. -/
theorem SpeechMove.fixed {s t : State} (h : SpeechMove s t) : t.fixed = s.fixed := by
  cases h with
  | note => rfl
  | acceptSeat accepted => exact State.fixed_acceptSeat _ _ _ _ _ _ accepted
  | acceptDuel accepted => exact State.fixed_acceptDuel _ _ _ _ _ accepted
  | cancel => exact State.fixed_cancel _ _
  | start => exact State.fixed_startUtterance _ _ _
  | free => exact State.fixed_freeVoice _ _

/-! ### What every move keeps, a chain keeps -/

theorem Moves.keeps {P : State → Prop} (each : ∀ {o s t : State}, Move o s t → P s → P t) {s t : State} (h : Moves s t)
    (hs : P s) : P t := by
  induction h with
  | refl => exact hs
  | tail _ m ih => exact each m ih

/-- Every move keeps the law of the Word Table, if it holds where the cascade began. -/
theorem Move.keeps_wordLaw {o s t : State} (m : Move o s t) (began : o.wordLaw) (law : s.wordLaw) : t.wordLaw := by
  cases m with
  | speech m => exact law.congr m.only.wt m.only.ks m.only.ae m.only.dc
  | lessons ae dc ps scores letters => exact law.setLessons (letters began law)
  | words wt lawful => exact law.setTable (lawful began law)
  | append r => exact law.congr (by simp) (by simp) (by simp) (by simp)
  | fault => exact law.congr (by simp) (by simp) (by simp) (by simp)
  | keys x n => exact law.setSeat fun k hk => law.keys x k (List.mem_of_mem_drop hk)
  | attention | waiting | holdEntered => exact law

theorem Moves.wordLaw {s t : State} (h : Moves s t) (law : s.wordLaw) : t.wordLaw := by
  induction h with
  | refl => exact law
  | tail _ m ih => exact m.keeps_wordLaw law ih

/-! ### Operations as chains of moves

Each lemma carries a chain on over one operation, so that a composed operation is the chain of its parts. -/

section Operations

variable {s t : State} (h : Moves s t)
include h

theorem Moves.lessons {ae : Pair Context} {dc : DuelRecord} {ps : WordQueues} (scores : dc.scores = t.dc.scores)
    (letters : s.wordLaw → t.wordLaw → ae.a.lettersLawful ∧ ae.b.lettersLawful ∧ dc.lettersLawful) :
    Moves s { t with ae := ae, dc := dc, ps := ps } := h.tail (.lessons t ae dc ps scores letters)

theorem Moves.setAe {ae : Pair Context} (letters : s.wordLaw → t.wordLaw → ae.a.lettersLawful ∧ ae.b.lettersLawful) :
    Moves s { t with ae := ae } :=
  h.lessons (dc := t.dc) (ps := t.ps) rfl fun began law => ⟨(letters began law).1, (letters began law).2, law.duel⟩

theorem Moves.setDc {dc : DuelRecord} (scores : dc.scores = t.dc.scores)
    (letters : s.wordLaw → t.wordLaw → dc.lettersLawful) : Moves s { t with dc := dc } :=
  h.lessons (ae := t.ae) (ps := t.ps) scores fun began law => ⟨law.ctx .a, law.ctx .b, letters began law⟩

theorem Moves.setRecord {ae : Pair Context} {dc : DuelRecord} (scores : dc.scores = t.dc.scores)
    (letters : s.wordLaw → t.wordLaw → ae.a.lettersLawful ∧ ae.b.lettersLawful ∧ dc.lettersLawful) :
    Moves s { t with ae := ae, dc := dc } := h.lessons (ps := t.ps) scores letters

theorem Moves.setCtx {x : Seat} {c : Context} (letters : s.wordLaw → t.wordLaw → c.lettersLawful) :
    Moves s (t.setCtx x c) := by
  refine h.setAe (ae := t.ae.set x c) fun began law => ?_
  cases x
  · exact ⟨letters began law, law.ctx .b⟩
  · exact ⟨law.ctx .a, letters began law⟩

/-! An update that leaves the letters and mistake codes as they are. -/

theorem Moves.keepAe {ae : Pair Context}
    (same : ae.a.letters = t.ae.a.letters ∧ ae.b.letters = t.ae.b.letters) : Moves s { t with ae := ae } :=
  h.setAe fun _ law => ⟨(law.ctx .a).of_letters same.1, (law.ctx .b).of_letters same.2⟩

theorem Moves.keepDc {dc : DuelRecord} (same : dc.standing = t.dc.standing) : Moves s { t with dc := dc } :=
  h.setDc (congrArg (·.1) same) fun _ law => law.duel.of_standing same

theorem Moves.keepRecord {ae : Pair Context} {dc : DuelRecord}
    (same : ae.a.letters = t.ae.a.letters ∧ ae.b.letters = t.ae.b.letters ∧ dc.standing = t.dc.standing) :
    Moves s { t with ae := ae, dc := dc } :=
  h.setRecord (congrArg (·.1) same.2.2) fun _ law =>
    ⟨(law.ctx .a).of_letters same.1, (law.ctx .b).of_letters same.2.1, law.duel.of_standing same.2.2⟩

theorem Moves.keepCtx {x : Seat} {c : Context} (same : c.letters = (t.ctx x).letters) : Moves s (t.setCtx x c) :=
  h.setCtx fun _ law => (law.ctx x).of_letters same

theorem Moves.setRound {x : Seat} {r : SeatRound} : Moves s (t.setRound x r) := h.keepDc (by rfl)

theorem Moves.setWordQueue {q : WordQueue} {l : List Nat} : Moves s (t.setWordQueue q l) := by
  cases q
  case practice => exact h.lessons (ae := t.ae) (dc := t.dc) rfl fun _ law => ⟨law.ctx .a, law.ctx .b, law.duel⟩
  case duel => exact h.lessons (ae := t.ae) (dc := t.dc) rfl fun _ law => ⟨law.ctx .a, law.ctx .b, law.duel⟩

theorem Moves.setSlot {n : Nat} {v : Slot} (lawful : s.wordLaw → t.wordLaw → (t.setSlot n v).wordLaw) :
    Moves s (t.setSlot n v) := h.tail (.words t _ fun began law => (lawful began law).table)

theorem Moves.raise {c : Cause} : Moves s (t.raise c) := h.tail (.attention t _)

theorem Moves.recordFault {code : FaultCode} {context : FaultContext} {detail : Nat} {r : Option Bool} :
    Moves s (t.recordFault code context detail r) := h.tail (.fault t _ _ _ _)

theorem Moves.appendRecord {r : ResultRecord} (room : t.logHasRoom = true) : Moves s (t.appendRecord r) :=
  h.tail (.append t r room)

theorem Moves.note {k : Nat} {st : EndStatus} : Moves s (t.noteAnnouncement k st) := h.tail (.speech (.note t k st))

theorem Moves.cancel {p : Utterance → Bool} : Moves s (t.cancel p) := h.tail (.speech (.cancel t p))

theorem Moves.cancelSeat {x : Seat} : Moves s (t.cancelSeat x) := h.cancel

theorem Moves.cancelLessons : Moves s t.cancelLessons := h.cancel

theorem Moves.cancelHandle {k : Option Nat} : Moves s (t.cancelHandle k) := by
  cases k
  case none => exact h
  case some => exact h.cancel

theorem Moves.freeVoice {v : Voice} : Moves s (t.freeVoice v) := h.tail (.speech (.free t v))

theorem Moves.dropKey {x : Seat} : Moves s (t.dropKey x) := h.tail (.keys t x 1)

theorem Moves.clearKeys {x : Seat} : Moves s (t.clearKeys x) := by
  have := Move.keys (o := s) t x (t.seat x).keys.length
  rw [List.drop_length] at this
  exact h.tail this

/-! Words. -/

theorem Moves.readTarget {n : Nat} {b : Bool} : Moves s (t.readTarget n b).1 := by
  unfold State.readTarget
  split
  · exact h
  · exact Moves.recordFault (h.setSlot fun _ law => law.setSlot_gone n fun e p hv => by cases hv)
  all_goals exact h

theorem Moves.updateRests {n : Nat} {o : Owner} : Moves s (t.updateRests n o) :=
  h.tail (.words t _ fun _ law => (law.updateRests n o).table)

theorem Moves.applyUpdate {n : Nat} {u : Option ProgressUpdate} (good : s.wordLaw → ∀ v, u = some v → v.lawful) :
    Moves s (t.applyUpdate n u) := by
  cases u
  case none => exact h
  case some u =>
    show Moves s (t.applyProgress n u)
    unfold State.applyProgress
    split
    · rename_i e p old
      exact h.setSlot fun began law => law.setSlot_same old
        (storeProgress_lawful (good began u rfl) (law.entry (n := n) (by simp [State.entry, old]))) rfl
    all_goals exact h

omit h in
theorem Moves.draw (q : WordQueue) (limit : Nat) : ∀ (k : Nat) {t : State}, Moves s t → Moves s (State.draw q limit k t)
  | 0, _, h => h
  | k + 1, t, h => by
    unfold State.draw
    split
    · split
      · exact Moves.draw q limit k h.setWordQueue
      · exact h
    · exact h

theorem Moves.refillSeat {x : Seat} : Moves s (t.refillSeat x) := by
  unfold State.refillSeat
  split
  · exact Moves.draw _ _ _ h
  · exact h

theorem Moves.refillDuel : Moves s t.refillDuel := by
  unfold State.refillDuel
  split
  · exact Moves.draw _ _ _ h
  · exact h

theorem Moves.reinsert {q : WordQueue} {n : Nat} {r : Reinsert} : Moves s (t.reinsert q n r) := by
  unfold State.reinsert
  split
  · exact h
  · exact h
  all_goals exact h.setWordQueue

/-! The log. -/

theorem Moves.waitForLog {x : Seat} {r : ResultRecord} : Moves s (t.waitForLog x r) :=
  (h.keepCtx (by rfl)).tail (.waiting _ _)

theorem Moves.appendWaiting : Moves s t.appendWaiting.1 := by
  unfold State.appendWaiting
  split
  · exact h
  · split
    · rename_i room
      split
      · exact Moves.appendRecord (Moves.keepCtx (h.tail (.waiting t _)) (by rfl)) room
      · exact h.tail (.waiting t _)
    · exact h

theorem Moves.appendAllWaiting : Moves s t.appendAllWaiting.1 := by
  have one := h.appendWaiting
  unfold State.appendAllWaiting
  split
  case h_1 s1 h1 =>
    rw [h1] at one
    exact one
  case h_2 s1 x h1 =>
    rw [h1] at one
    have two := Moves.appendWaiting one
    split
    · rename_i h2
      rw [h2] at two
      exact two
    · rename_i h2
      rw [h2] at two
      exact two

/-! The Attempt Engine. -/

theorem Moves.completePrompt {x : Seat} : Moves s (t.completePrompt x) := by
  unfold State.completePrompt
  dsimp only
  split
  · exact h.keepCtx (by rfl)
  · exact h

theorem Moves.bargeIn {x : Seat} : Moves s (t.bargeIn x) := (h.cancelHandle.keepCtx (by rfl)).completePrompt

theorem Moves.startRePrompt {x : Seat} : Moves s (t.startRePrompt x).1 := h.keepCtx (by rfl)

theorem Moves.takeKey {x : Seat} : Moves s (t.takeKey x).1 := by
  unfold State.takeKey
  split
  · exact h
  · split
    · exact h
    · exact h.dropKey
    · exact h.dropKey
    · exact h.dropKey.bargeIn

theorem Moves.handJudgement {x : Seat} {c : Context} {e : Bool} (good : s.wordLaw → t.wordLaw → c.lettersLawful) :
    Moves s (t.handJudgement x c e) := by
  have stopped : Moves s (t.setCtx x { c with idleRunning := false }) := h.setCtx fun began law => good began law
  refine stopped.setDc (by rfl) (fun began law => ⟨law.duel.1, fun y j hj => ?_⟩)
  have mistake : mistakeGood c.lastMistake := (good began (h.wordLaw began)).2.2.2
  have others := law.duel.2 y j
  rw [Pair.get_set] at hj
  split at hj
  · cases hj
    exact mistake
  · exact others hj

/-- The cursor moves on within a spelling of at most 16 letters. -/
theorem Moves.advanceCursor {x : Seat} {c : Context} {said : List Task}
    (good : s.wordLaw → t.wordLaw → c.lettersLawful ∧ c.cursor < c.spelling.length) :
    Moves s (t.advanceCursor x c said).1 := by
  refine h.setCtx fun began law => ?_
  obtain ⟨lawful, inside⟩ := good began law
  have short : c.spelling.length ≤ 16 := lawful.spelling.1
  obtain ⟨copy, typed, -, mistake⟩ := lawful
  exact ⟨copy, typed, by show c.cursor + 1 ≤ 16; omega, mistake⟩

theorem Moves.letterwiseLetter {x : Seat} {l : Nat} (good : s.wordLaw → letterGood l) :
    Moves s (t.letterwiseLetter x l).1 := by
  unfold State.letterwiseLetter
  dsimp only
  split
  · exact h
  · rename_i inside
    have wrong : s.wordLaw → t.wordLaw → mistakeGood (some (classifyLetter (t.ctx x).spelling (t.ctx x).cursor l)) := by
      rintro began law _ ⟨⟩
      exact classifyLetter_lawful (law.ctx x).spelling (law.ctx x).2.2.1 (good began)
    split
    · exact h.advanceCursor fun _ law => ⟨law.ctx x, by omega⟩
    · split
      · refine h.advanceCursor fun began law => ⟨?_, by exact Nat.lt_of_not_le inside⟩
        obtain ⟨copy, typed, cursor, -⟩ := law.ctx x
        exact ⟨copy, typed, cursor, wrong began law⟩
      · refine h.setCtx fun began law => ?_
        obtain ⟨copy, typed, cursor, -⟩ := law.ctx x
        exact ⟨copy, typed, cursor, wrong began law⟩

theorem Moves.repeatKey {x : Seat} : Moves s (t.repeatKey x).1 := by
  unfold State.repeatKey
  dsimp only
  split
  · exact (h.keepCtx (by rfl)).startRePrompt
  · exact h

theorem Moves.wordwiseLetter {x : Seat} {l : Nat} (good : s.wordLaw → letterGood l) :
    Moves s (t.wordwiseLetter x l).1 := by
  unfold State.wordwiseLetter
  dsimp only
  split
  · rename_i room
    refine h.setCtx fun began law => ?_
    obtain ⟨copy, typed, rest⟩ := law.ctx x
    refine ⟨copy, ⟨by simpa using room, fun k hk => ?_⟩, rest⟩
    obtain hk | hk := List.mem_append.1 hk
    · exact typed.2 k hk
    · rw [List.mem_singleton.1 hk]
      exact good began
  · exact h

theorem Moves.wordwiseBack {x : Seat} : Moves s (t.wordwiseBack x).1 := by
  unfold State.wordwiseBack
  dsimp only
  split
  · exact h
  · refine h.setCtx fun _ law => ?_
    obtain ⟨copy, ⟨few, letters⟩, rest⟩ := law.ctx x
    refine ⟨copy, ⟨?_, fun k hk => letters k (List.mem_of_mem_dropLast hk)⟩, rest⟩
    rw [List.length_dropLast]
    omega

theorem Moves.wordwiseHint {x : Seat} : Moves s (t.wordwiseHint x).1 := by
  unfold State.wordwiseHint
  dsimp only
  split
  · exact h.keepCtx (by rfl)
  · split
    · exact h.keepCtx (by rfl)
    · exact h

omit h in
/-- An unequal submission's mistake is in its ranges. -/
theorem Context.lettersLawful.missed {c : Context} (lawful : c.lettersLawful) {d : Context} (copy : d.copy = c.copy)
    (typed : d.typed = c.typed) (cursor : d.cursor = c.cursor)
    (mistake : d.lastMistake = some (classifyWord c.spelling c.typed)) : d.lettersLawful := by
  obtain ⟨hcopy, htyped, hcursor, -⟩ := id lawful
  unfold Context.lettersLawful
  rw [copy, typed, cursor, mistake]
  refine ⟨hcopy, htyped, hcursor, ?_⟩
  rintro _ ⟨⟩
  exact classifyWord_lawful lawful.spelling htyped

theorem Moves.wordwiseEnter {x : Seat} : Moves s (t.wordwiseEnter x).1 := by
  unfold State.wordwiseEnter
  dsimp only
  split
  · exact h
  · split
    · refine h.handJudgement fun _ law => ?_
      split
      · exact law.ctx x
      · exact (law.ctx x).missed rfl rfl rfl rfl
    · split
      · exact h.keepCtx (by rfl)
      · split
        · exact h.setCtx fun _ law => Context.lettersLawful.emptied ((law.ctx x).missed (d := { t.ctx x with
            lastMistake := some (classifyWord (t.ctx x).spelling (t.ctx x).typed) }) rfl rfl rfl rfl) rfl rfl rfl rfl
        · exact h.setCtx fun _ law => (law.ctx x).missed rfl rfl rfl rfl

theorem Moves.handleKey {x : Seat} {k : KeyCode} (good : s.wordLaw → k.lawful) : Moves s (t.handleKey x k).1 := by
  unfold State.handleKey
  split
  · exact h
  · exact h.repeatKey
  · exact h.letterwiseLetter fun began => good began _ rfl
  · exact h
  · exact h
  · exact h.keepCtx (by rfl)
  · exact h.wordwiseLetter fun began => good began _ rfl
  · exact h.wordwiseBack
  · exact h.wordwiseEnter
  · exact h.wordwiseHint

theorem Moves.judgeKey {x : Seat} {k : KeyCode} (good : s.wordLaw → k.lawful) : Moves s (t.judgeKey x k).1 := by
  have done : Moves s ((t.consumeKey x).handleKey x k).1 := Moves.handleKey (h.keepCtx (by rfl)) good
  unfold State.judgeKey afterKey
  split
  · exact done.keepCtx (by rfl)
  · exact done

theorem Moves.releaseTarget {x : Seat} {n : Nat} {r : Reinsert} : Moves s (t.releaseTarget x n r) :=
  have cleared : Moves s (t.setCtx x { t.ctx x with target := none, copy := none }) :=
    h.setCtx fun _ law => (law.ctx x).clear rfl rfl rfl rfl
  cleared.reinsert.refillSeat

theorem Moves.endSolo {x : Seat} {o : AttemptEnd} : Moves s (t.endSolo x o).1 := by
  unfold State.endSolo
  dsimp only
  split
  · rename_i n _ _ _
    have updated : Moves s (((t.setCtx x { t.ctx x with idleRunning := false, firm := none }).applyUpdate n
        (t.progressFor n o (t.ctx x).lastMistake)).releaseTarget x n o.reinsert) :=
      Moves.releaseTarget (Moves.applyUpdate (h.keepCtx (by rfl)) fun began =>
        State.progressFor_lawful (h.wordLaw began) ((h.wordLaw began).ctx x).2.2.2)
    split <;> exact updated.keepCtx (by rfl)
  · exact h

theorem Moves.idleSeat {x : Seat} : Moves s (t.idleSeat x).1 :=
  h.setCtx fun _ law => (law.ctx x).clear rfl rfl rfl rfl

theorem Moves.appendSolo {x : Seat} : Moves s (t.appendSolo x).1 := by
  unfold State.appendSolo
  split
  · exact h
  · split
    · rename_i room
      exact (h.keepCtx (by rfl)).appendRecord room
    · exact h.waitForLog

theorem Moves.goOnSolo {x : Seat} : Moves s (t.goOnSolo x).1 := by
  unfold State.goOnSolo
  split
  · exact h.idleSeat
  · exact h

theorem Moves.startAttempt {x : Seat} {n : Nat} {e : WordEntry} (lawful : s.wordLaw → e.lawful) :
    Moves s (t.startAttempt x n e).1 := by
  have begun : Moves s ((t.updateRests n e.owner).setCtx x
      { ((t.updateRests n e.owner).ctx x).newAttempt n e with state := .prompting }) :=
    h.updateRests.setCtx fun began _ => Context.newAttempt_lettersLawful (lawful began) ((t.updateRests n e.owner).ctx x) n
  unfold State.startAttempt
  dsimp only
  split
  · exact begun
  · exact begun.recordFault

theorem Moves.presentSolo {x : Seat} : Moves s (t.presentSolo x).1 := by
  unfold State.presentSolo
  dsimp only
  split
  · exact h.setCtx fun _ law => (law.ctx x).clear rfl rfl rfl rfl
  · split
    · exact (h.refillSeat.keepCtx (by rfl)).raise
    · rename_i n rest _
      have drawn := (h.refillSeat (x := x)).setWordQueue (q := .practice x) (l := rest)
      have read := drawn.readTarget (n := n) (b := true)
      split
      · rename_i s2 hr
        rw [hr] at read
        exact read
      · rename_i s2 e hr
        rw [hr] at read
        exact read.startAttempt fun began => (drawn.wordLaw began).readTarget hr

theorem Moves.resumeSolo {x : Seat} : Moves s (t.resumeSolo x).1 := by
  unfold State.resumeSolo
  dsimp only
  split
  · rename_i n _
    have read := h.keepCtx (x := x) (c := { t.ctx x with pauseCause := none }) rfl |>.readTarget (n := n) (b := false)
    split
    · rename_i s2 e hr
      rw [hr] at read
      exact read.startRePrompt
    · rename_i s2 hr
      rw [hr] at read
      exact read
  · split <;> exact h.keepCtx (by rfl)

theorem Moves.resumeHeld {x : Seat} : Moves s (t.resumeHeld x).1 := by
  unfold State.resumeHeld
  dsimp only
  split <;> exact h

theorem Moves.expireSolo {x : Seat} : Moves s (t.expireSolo x).1 := by
  unfold State.expireSolo
  dsimp only
  split
  · exact (h.keepCtx (by rfl)).startRePrompt
  · exact h

theorem Moves.leaveSolo {x : Seat} {byHost : Bool} : Moves s (t.leaveSolo x byHost).1 := by
  unfold State.leaveSolo
  dsimp only
  split
  · exact h
  · exact h.idleSeat
  · exact h.keepCtx (by rfl)
  · exact (h.keepCtx (by rfl)).cancelSeat
  · exact (h.keepCtx (by rfl)).cancelSeat
  · exact (h.keepCtx (by rfl)).cancelSeat
  · split
    · exact (h.keepCtx (by rfl)).cancelSeat
    · split
      · exact h.idleSeat
      · split
        · exact h.keepCtx (by rfl)
        · exact (h.keepCtx (by rfl)).cancelSeat

/-! The Duel Controller. -/

theorem Moves.endDuelAttempt {x : Seat} {o : AttemptEnd} : Moves s (t.endDuelAttempt x o) := (h.keepCtx (by rfl)).setRound

theorem Moves.staleJudgements : Moves s t.staleJudgements := h.setDc (by rfl) (fun _ law => law.duel.stale rfl)

omit h in
theorem Context.lettersLawful.afterDuel {c : Context} (lawful : c.lettersLawful) : c.afterDuel.lettersLawful := by
  unfold Context.afterDuel
  split
  · exact lawful
  · exact lawful.clear rfl rfl rfl rfl

theorem Moves.finishDuel {r : FinishReason} : Moves s (t.finishDuel r).1 :=
  ((h.keepDc (by rfl)).staleJudgements.raise (c := .duelEnd)).setAe fun _ law => ⟨(law.ctx .a).afterDuel, (law.ctx .b).afterDuel⟩

theorem Moves.beginRound {n : Nat} {e : WordEntry} (lawful : s.wordLaw → e.lawful) : Moves s (t.beginRound n e) := by
  have begun : Moves s { t with
      dc := { t.dc with
        round := t.dc.round + 1, target := some n, copy := some e.copy, seats := ⟨SeatRound.begun, SeatRound.begun⟩
        winner := none, mistake := none, result := none, update := none }
      ae := ⟨t.ae.a.newAttempt n e, t.ae.b.newAttempt n e⟩ } :=
    h.setRecord (by rfl) (fun began law => ⟨Context.newAttempt_lettersLawful (lawful began) t.ae.a n,
      Context.newAttempt_lettersLawful (lawful began) t.ae.b n, mistakeGood_none, law.duel.2⟩)
  exact begun.updateRests

theorem Moves.openRound : Moves s t.openRound := h.keepRecord (by exact ⟨rfl, rfl, rfl⟩)

theorem Moves.silentRound {n : Nat} : Moves s (t.silentRound n).1 :=
  ((h.recordFault.endDuelAttempt.endDuelAttempt).keepAe (by exact ⟨rfl, rfl⟩)).setRound.setRound

theorem Moves.presentRound : Moves s t.presentRound.1 := by
  unfold State.presentRound
  dsimp only
  split
  · exact h.setRecord (by rfl) (fun _ law =>
      ⟨(law.ctx .a).clear rfl rfl rfl rfl, (law.ctx .b).clear rfl rfl rfl rfl, law.duel⟩)
  · split
    · exact h.refillDuel.finishDuel
    · rename_i n rest _
      have drawn := h.refillDuel.setWordQueue (q := .duel) (l := rest)
      have read := drawn.readTarget (n := n) (b := true)
      split
      · rename_i s2 hr
        rw [hr] at read
        exact read
      · rename_i s2 e hr
        rw [hr] at read
        have begun := read.beginRound (n := n) fun began => (drawn.wordLaw began).readTarget hr
        split
        · exact begun.openRound
        · exact begun.silentRound

theorem Moves.dropDuelFirm : Moves s t.dropDuelFirm :=
  h.cancelHandle.keepDc (by rfl)

theorem Moves.placeDuelFirm {cls : SpeechClass} {clips : List Nat} : Moves s (t.placeDuelFirm cls clips).1 := by
  have dropped := h.dropDuelFirm
  unfold State.placeDuelFirm
  dsimp only
  split
  · exact dropped
  · split
    · rename_i k s2 accepted
      exact Moves.keepDc (dropped.tail (.speech (.acceptDuel accepted))) (by rfl)
    · exact dropped

theorem Moves.startRace {x : Seat} : Moves s (t.startRace x) := by
  unfold State.startRace
  split
  · exact h.completePrompt
  · exact h

theorem Moves.completeDuelFirm {cls : SpeechClass} : Moves s (t.completeDuelFirm cls).1 := by
  unfold State.completeDuelFirm
  split
  · exact h
  · split
    · exact (h.keepDc (by rfl)).startRace.startRace
    · exact h

/-- The other seat has won: a beaten seat's attempt ends and its utterances go. -/
theorem Moves.beat {x : Seat} : Moves s (t.beat x) := by
  have beaten : Moves s ((t.endDuelAttempt x .beaten).setRound x
      { (t.endDuelAttempt x .beaten).round x with status := some .beaten }) := h.endDuelAttempt.setRound
  refine Moves.cancelSeat (beaten.setCtx fun _ law => ?_)
  exact (law.ctx x).emptied rfl rfl rfl rfl

theorem Moves.seatOut {x : Seat} {o : AttemptEnd} : Moves s (t.seatOut x o).1 := h.endDuelAttempt.setRound

theorem Moves.expireDuel {x : Seat} : Moves s (t.expireDuel x).1 := by
  unfold State.expireDuel
  split
  · exact h.seatOut
  · exact h

theorem Moves.checkSettled : Moves s t.checkSettled.1 := by
  unfold State.checkSettled
  dsimp only
  split <;> split <;> exact h

theorem Moves.clearRoundTarget : Moves s t.clearRoundTarget :=
  h.setRecord (by rfl) (fun _ law =>
    ⟨(law.ctx .a).clear rfl rfl rfl rfl, (law.ctx .b).clear rfl rfl rfl rfl, law.duel⟩)

theorem Moves.releaseRound {n : Nat} {r : RoundResult} : Moves s (t.releaseRound n r) :=
  h.clearRoundTarget.reinsert.refillDuel

omit h in
theorem State.roundProgress_lawful {s : State} (law : s.wordLaw) {n : Nat} {r : RoundResult} :
    ∀ u, s.roundProgress n r = some u → u.lawful := by
  unfold State.roundProgress
  split
  · exact State.progressFor_lawful law law.duel.1
  · exact nofun

theorem Moves.settleRound {silent : Bool} : Moves s (t.settleRound silent).1 := by
  unfold State.settleRound
  dsimp only
  have good : ∀ n, s.wordLaw → ∀ u, t.roundProgress n (t.roundResult silent) = some u → u.lawful := fun n began =>
    State.roundProgress_lawful (h.wordLaw began)
  split
  · split
    · exact Moves.releaseRound (Moves.applyUpdate (h.keepDc (by rfl)) (good _))
    · exact h.keepDc (by rfl)
  · split
    · split
      · exact Moves.dropDuelFirm (Moves.releaseRound (Moves.applyUpdate (h.keepDc (by rfl)) (good _)))
      · exact Moves.releaseRound (Moves.applyUpdate (h.keepDc (by rfl)) (good _))
    · split
      · exact (h.keepDc (by rfl)).dropDuelFirm
      · exact h.keepDc (by rfl)

theorem Moves.handRecord {x : Seat} {r : ResultRecord} : Moves s (t.handRecord x r) := by
  unfold State.handRecord
  split
  · rename_i room
    exact ((h.keepCtx (by rfl)).appendRecord room).setRound
  · exact h.waitForLog.setRound

theorem Moves.handBoth : Moves s t.handBoth := (h.keepAe (by exact ⟨rfl, rfl⟩)).handRecord.handRecord

theorem Moves.closeRound : Moves s t.closeRound.1 := by
  unfold State.closeRound
  split
  · exact h.handBoth
  · exact h

theorem Moves.afterRecords : Moves s t.afterRecords.1 := by
  unfold State.afterRecords
  dsimp only
  split
  · split
    · exact h.staleJudgements.finishDuel
    · exact h.staleJudgements
  · exact h

theorem Moves.duelAppended {x : Seat} : Moves s (t.duelAppended x).1 := by
  unfold State.duelAppended
  dsimp only
  split
  · exact h.setRound.keepCtx (by rfl)
  · exact h.setRound.idleSeat

theorem Moves.abandonSeat {x : Seat} : Moves s (t.abandonSeat x) := by
  unfold State.abandonSeat
  split
  · exact h.endDuelAttempt
  · exact h

theorem Moves.emptyTyped {x : Seat} : Moves s (t.emptyTyped x) := by
  unfold State.emptyTyped
  split
  · exact h.setCtx fun _ law => (law.ctx x).emptied rfl rfl rfl rfl
  · exact h

theorem Moves.breakAttempt {x : Seat} : Moves s (t.breakAttempt x) := by
  unfold State.breakAttempt
  dsimp only
  split
  · exact (h.emptyTyped.abandonSeat.keepCtx (by rfl)).clearKeys
  · exact h

theorem Moves.abandonRound : Moves s t.abandonRound := by
  unfold State.abandonRound
  dsimp only
  split
  · exact h
  · split
    · exact Moves.releaseRound (h.keepDc (by rfl))
    · exact h.keepDc (by rfl)

theorem Moves.cancelRound : Moves s t.cancelRound :=
  (h.keepRecord (by exact ⟨rfl, rfl, rfl⟩)).cancelHandle.cancelSeat.cancelSeat

theorem Moves.breakOff : Moves s t.breakOff := by
  unfold State.breakOff
  split
  · exact h
  · exact h.cancelRound.breakAttempt.breakAttempt.abandonRound.handBoth

theorem Moves.stopDuelNow : Moves s t.stopDuelNow.1 := h.breakOff.finishDuel

theorem Moves.forfeit {x : Seat} : Moves s (t.forfeit x).1 := h.breakOff.setRound.finishDuel

omit h in
theorem Context.lettersLawful.holdDuel {c : Context} (lawful : c.lettersLawful) (record : RecordStatus) :
    (c.holdDuel record).lettersLawful := by
  unfold Context.holdDuel
  dsimp only
  repeat' split
  all_goals exact lawful

omit h in
theorem Context.lettersLawful.rePrompted {c : Context} (lawful : c.lettersLawful) (races : Bool) :
    (c.rePrompted races).lettersLawful := by
  unfold Context.rePrompted
  split
  all_goals exact lawful

theorem Moves.holdDuelContexts : Moves s t.holdDuelContexts := by
  unfold State.holdDuelContexts
  split
  · exact h.setRecord (by rfl) (fun _ law => ⟨(law.ctx .a).holdDuel _, (law.ctx .b).holdDuel _, law.duel⟩)
  · exact h

theorem Moves.rePromptRound : Moves s t.rePromptRound.1 :=
  h.setRecord (by rfl) (fun _ law => ⟨(law.ctx .a).rePrompted _, (law.ctx .b).rePrompted _, law.duel⟩)

theorem Moves.closeAfterHold : Moves s t.closeAfterHold.1 := h.keepAe (by exact ⟨rfl, rfl⟩)

theorem Moves.loseRound : Moves s t.loseRound.1 :=
  ((h.abandonSeat.abandonSeat.abandonRound).keepDc (by rfl)).staleJudgements.closeAfterHold

theorem Moves.resumeDuel : Moves s t.resumeDuel.1 := by
  have reread : ∀ n, Moves s (match t.readTarget n false with
      | (s1, some _) => s1.rePromptRound
      | (s1, none) => s1.loseRound).1 := fun n => by
    have read := h.readTarget (n := n) (b := false)
    split
    · rename_i s1 e hr
      rw [hr] at read
      exact read.rePromptRound
    · rename_i s1 hr
      rw [hr] at read
      exact read.loseRound
  unfold State.resumeDuel
  split
  · split
    · exact h
    · exact reread _
    · exact reread _
    · split
      · exact h.closeAfterHold
      · exact h
    · exact h
  · exact h

/-! Tasks. -/

theorem Moves.startUtterance {v : Voice} {u : Utterance} (fill : t.voiceToFill = some v) (best : t.bestHead v = some u) :
    Moves s (t.startUtterance v u) := h.tail (.speech (.start t v u fill best))

theorem Moves.arbitrate : Moves s t.arbitrate.1 := by
  unfold State.arbitrate
  split
  · exact h
  · rename_i v fill
    split
    · exact h
    · rename_i u best
      have started := h.startUtterance fill best
      dsimp only
      split
      · split
        · exact started.freeVoice
        · exact started
      · exact started

theorem Moves.placeDisposable {x : Seat} {cls : SpeechClass} {clips : List Nat} :
    Moves s (t.placeDisposable x cls clips).1 := by
  unfold State.placeDisposable
  split
  · exact h
  · split
    · rename_i accepted
      exact h.tail (.speech (.acceptSeat accepted))
    · exact h

theorem Moves.placeFirm {x : Seat} {cls : SpeechClass} {clips : List Nat} : Moves s (t.placeFirm x cls clips).1 := by
  unfold State.placeFirm
  split
  · exact h
  · split
    · rename_i accepted
      exact Moves.keepCtx (h.tail (.speech (.acceptSeat accepted))) (by rfl)
    · exact h

theorem Moves.completeFirm {x : Seat} {cls : SpeechClass} : Moves s (t.completeFirm x cls).1 := by
  unfold State.completeFirm
  split
  · split <;> exact h
  · exact h.completePrompt

theorem Moves.reportToSeat {x : Seat} {cls : SpeechClass} {k : Nat} : Moves s (t.reportToSeat x cls k).1 := by
  unfold State.reportToSeat
  split
  · exact h.keepCtx (by rfl)
  · exact h

theorem Moves.reportToDuel {cls : SpeechClass} {k : Nat} : Moves s (t.reportToDuel cls k).1 := by
  unfold State.reportToDuel
  split
  · exact h.keepDc (by rfl)
  · exact h

theorem Moves.loseSeat {x : Seat} : Moves s (t.loseSeat x).1 := by
  unfold State.loseSeat
  split
  · split
    · exact h.forfeit
    · exact h
  · exact h.leaveSolo
  · exact h

theorem Moves.recordAppended {x : Seat} : Moves s (t.recordAppended x).1 := by
  unfold State.recordAppended
  split
  · exact h.duelAppended
  · exact h.goOnSolo

theorem Moves.holdSolo {x : Seat} : Moves s (t.holdSolo x) := by
  unfold State.holdSolo
  split
  · split
    any_goals exact h.keepCtx (by rfl)
    all_goals exact h
  · exact h

theorem Moves.enterHold : Moves s t.enterHold.1 := by
  unfold State.enterHold
  dsimp only
  split
  · exact (Moves.holdSolo (h.tail (.holdEntered t))).holdSolo.holdDuelContexts.cancelLessons
  · exact h

end Operations

/-! ### Cascades -/

/-- Every task carries a chain of moves on, if the key it judges is a key code. -/
theorem Moves.runTask {s t : State} (here : Moves s t) (task : Task) (good : s.wordLaw → task.lawful) :
    Moves s (runTask task t).1 := by
  unfold Sys2Proof.Machine.runTask
  split
  · exact here
  · unfold runLessonTask
    split
    · exact here.arbitrate
    · exact here.reportToSeat
    · exact here.reportToDuel
    · exact here.note
    · exact here.placeDisposable
    · exact here.placeFirm
    · exact here.completeFirm
    · exact here.takeKey
    · exact here.judgeKey good
    · exact here.endSolo
    · exact here.appendSolo
    · exact here.goOnSolo
    · exact here.presentSolo
    · exact here.recordAppended
    · exact here.resumeSolo
    · exact here.resumeHeld
    · exact here.loseSeat
    · exact here.placeDuelFirm
    · exact here.completeDuelFirm
    · exact here.presentRound
    · exact here.checkSettled
    · exact here.settleRound
    · exact here.closeRound
    · exact here.afterRecords
    · exact here.resumeDuel
    · exact here.enterHold

/-! Keys on their way to be judged come from a key queue alone. -/

section Tasks
variable {s : State} {x : Seat}

theorem tasksLawful_takeKey (law : s.wordLaw) : tasksLawful (s.takeKey x).2 := by
  unfold State.takeKey
  split
  · exact tasksLawful_nil
  · rename_i k ks hk
    have lawful : k.lawful := law.keys x k (by simp [hk])
    split <;> simp [Task.lawful, lawful]

theorem tasksLawful_letterwiseLetter {l : Nat} : tasksLawful (s.letterwiseLetter x l).2 := by
  unfold State.letterwiseLetter State.advanceCursor
  dsimp only
  repeat' split
  all_goals simp [Task.lawful, State.sayCue, State.sayLetter]

theorem tasksLawful_repeatKey : tasksLawful (s.repeatKey x).2 := by
  unfold State.repeatKey State.startRePrompt
  dsimp only
  split <;> simp [Task.lawful, State.sayCue]

theorem tasksLawful_wordwiseLetter {l : Nat} : tasksLawful (s.wordwiseLetter x l).2 := by
  unfold State.wordwiseLetter
  dsimp only
  repeat' split
  all_goals simp [Task.lawful, State.sayCue]

theorem tasksLawful_wordwiseBack : tasksLawful (s.wordwiseBack x).2 := by
  unfold State.wordwiseBack
  dsimp only
  split <;> simp [Task.lawful, State.sayCue]

theorem tasksLawful_wordwiseHint : tasksLawful (s.wordwiseHint x).2 := by
  unfold State.wordwiseHint
  dsimp only
  repeat' split
  all_goals simp [Task.lawful, State.sayCue, State.sayLetter]

theorem tasksLawful_wordwiseEnter : tasksLawful (s.wordwiseEnter x).2 := by
  unfold State.wordwiseEnter
  dsimp only
  repeat' split
  all_goals simp [Task.lawful, State.sayCue]

theorem tasksLawful_judgeKey {k : KeyCode} : tasksLawful (s.judgeKey x k).2 := by
  have handled : ∀ u : State, tasksLawful (u.handleKey x k).2 := by
    intro u
    unfold State.handleKey
    split
    · exact tasksLawful_nil
    · exact tasksLawful_repeatKey
    · exact tasksLawful_letterwiseLetter
    · simp [Task.lawful, State.sayCue]
    · simp [Task.lawful, State.sayCue]
    · simp [Task.lawful, State.sayLetter, State.letterwiseHint]
    · exact tasksLawful_wordwiseLetter
    · exact tasksLawful_wordwiseBack
    · exact tasksLawful_wordwiseEnter
    · exact tasksLawful_wordwiseHint
  unfold State.judgeKey afterKey
  split <;> exact handled _

theorem tasksLawful_endSolo {o : AttemptEnd} : tasksLawful (s.endSolo x o).2 := by
  unfold State.endSolo
  dsimp only
  repeat' split
  all_goals simp [Task.lawful]

theorem tasksLawful_appendSolo : tasksLawful (s.appendSolo x).2 := by
  unfold State.appendSolo
  repeat' split
  all_goals simp [Task.lawful]

theorem tasksLawful_goOnSolo : tasksLawful (s.goOnSolo x).2 := by
  unfold State.goOnSolo State.idleSeat
  split <;> simp [Task.lawful]

theorem tasksLawful_presentSolo : tasksLawful (s.presentSolo x).2 := by
  unfold State.presentSolo State.startAttempt
  dsimp only
  repeat' split
  all_goals simp [Task.lawful]

theorem tasksLawful_resumeSolo : tasksLawful (s.resumeSolo x).2 := by
  unfold State.resumeSolo State.startRePrompt
  dsimp only
  repeat' split
  all_goals simp [Task.lawful]

theorem tasksLawful_resumeHeld : tasksLawful (s.resumeHeld x).2 := by
  unfold State.resumeHeld
  dsimp only
  split <;> simp [Task.lawful]

theorem tasksLawful_expireSolo : tasksLawful (s.expireSolo x).2 := by
  unfold State.expireSolo State.startRePrompt
  dsimp only
  split <;> simp [Task.lawful]

theorem tasksLawful_leaveSolo {byHost : Bool} : tasksLawful (s.leaveSolo x byHost).2 := by
  unfold State.leaveSolo State.idleSeat
  dsimp only
  repeat' split
  all_goals simp [Task.lawful]

theorem tasksLawful_finishDuel {r : FinishReason} : tasksLawful (s.finishDuel r).2 := by
  simp [State.finishDuel, Task.lawful]

theorem tasksLawful_silentRound {n : Nat} : tasksLawful (s.silentRound n).2 :=
  (tasksLawful_append _ _).2 ⟨tasksLawful_map (f := Task.takeKeys) (fun _ => trivial) _, by simp [Task.lawful]⟩

theorem tasksLawful_presentRound : tasksLawful s.presentRound.2 := by
  unfold State.presentRound
  dsimp only
  repeat' split
  all_goals simp [Task.lawful, tasksLawful_finishDuel, tasksLawful_silentRound]

theorem tasksLawful_placeDuelFirm {cls : SpeechClass} {clips : List Nat} :
    tasksLawful (s.placeDuelFirm cls clips).2 := by
  unfold State.placeDuelFirm
  dsimp only
  repeat' split
  all_goals simp [Task.lawful]

theorem tasksLawful_completeDuelFirm {cls : SpeechClass} : tasksLawful (s.completeDuelFirm cls).2 := by
  unfold State.completeDuelFirm
  repeat' split
  all_goals simp [Task.lawful]

theorem tasksLawful_checkSettled : tasksLawful s.checkSettled.2 := by
  unfold State.checkSettled
  dsimp only
  split <;> split <;> simp [Task.lawful]

theorem tasksLawful_settleRound {silent : Bool} : tasksLawful (s.settleRound silent).2 := by
  unfold State.settleRound
  dsimp only
  repeat' split
  all_goals simp [Task.lawful]

theorem tasksLawful_closeRound : tasksLawful s.closeRound.2 := by
  unfold State.closeRound
  split <;> simp [Task.lawful]

theorem tasksLawful_afterRecords : tasksLawful s.afterRecords.2 := by
  unfold State.afterRecords
  dsimp only
  repeat' split
  all_goals simp [Task.lawful, tasksLawful_finishDuel]

theorem tasksLawful_recordAppended : tasksLawful (s.recordAppended x).2 := by
  unfold State.recordAppended State.duelAppended State.idleSeat
  dsimp only
  repeat' split
  all_goals simp [Task.lawful, tasksLawful_goOnSolo]

theorem tasksLawful_stopDuelNow : tasksLawful s.stopDuelNow.2 := by
  simp [State.stopDuelNow, Task.lawful, tasksLawful_finishDuel]

theorem tasksLawful_loseSeat : tasksLawful (s.loseSeat x).2 := by
  unfold State.loseSeat State.forfeit
  dsimp only
  repeat' split
  all_goals simp [Task.lawful, tasksLawful_finishDuel, tasksLawful_leaveSolo]

theorem tasksLawful_resumeDuel : tasksLawful s.resumeDuel.2 := by
  unfold State.resumeDuel State.rePromptRound State.loseRound State.closeAfterHold
  repeat' split
  all_goals simp [Task.lawful]

theorem tasksLawful_arbitrate : tasksLawful s.arbitrate.2 := by
  unfold State.arbitrate State.failStart
  dsimp only
  repeat' split
  all_goals simp [Task.lawful]

theorem tasksLawful_placeDisposable {cls : SpeechClass} {clips : List Nat} :
    tasksLawful (s.placeDisposable x cls clips).2 := by
  unfold State.placeDisposable
  repeat' split
  all_goals simp [Task.lawful]

theorem tasksLawful_placeFirm {cls : SpeechClass} {clips : List Nat} : tasksLawful (s.placeFirm x cls clips).2 := by
  unfold State.placeFirm
  repeat' split
  all_goals simp [Task.lawful]

theorem tasksLawful_completeFirm {cls : SpeechClass} : tasksLawful (s.completeFirm x cls).2 := by
  unfold State.completeFirm
  repeat' split
  all_goals simp [Task.lawful]

theorem tasksLawful_reportToSeat {cls : SpeechClass} {k : Nat} : tasksLawful (s.reportToSeat x cls k).2 := by
  unfold State.reportToSeat
  split <;> simp [Task.lawful]

theorem tasksLawful_reportToDuel {cls : SpeechClass} {k : Nat} : tasksLawful (s.reportToDuel cls k).2 := by
  unfold State.reportToDuel
  split <;> simp [Task.lawful]

theorem tasksLawful_enterHold : tasksLawful s.enterHold.2 := by
  unfold State.enterHold
  dsimp only
  split <;> simp [Task.lawful]

end Tasks

/-- A task leads to the judging of key codes only. -/
theorem tasksLawful_runTask {s : State} (law : s.wordLaw) (task : Task) : tasksLawful (runTask task s).2 := by
  unfold runTask
  split
  · exact tasksLawful_nil
  · unfold runLessonTask
    split
    · exact tasksLawful_arbitrate
    · exact tasksLawful_reportToSeat
    · exact tasksLawful_reportToDuel
    · exact tasksLawful_nil
    · exact tasksLawful_placeDisposable
    · exact tasksLawful_placeFirm
    · exact tasksLawful_completeFirm
    · exact tasksLawful_takeKey law
    · exact tasksLawful_judgeKey
    · exact tasksLawful_endSolo
    · exact tasksLawful_appendSolo
    · exact tasksLawful_goOnSolo
    · exact tasksLawful_presentSolo
    · exact tasksLawful_recordAppended
    · exact tasksLawful_resumeSolo
    · exact tasksLawful_resumeHeld
    · exact tasksLawful_loseSeat
    · exact tasksLawful_placeDuelFirm
    · exact tasksLawful_completeDuelFirm
    · exact tasksLawful_presentRound
    · exact tasksLawful_checkSettled
    · exact tasksLawful_settleRound
    · exact tasksLawful_closeRound
    · exact tasksLawful_afterRecords
    · exact tasksLawful_resumeDuel
    · exact tasksLawful_enterHold

/-- A cascade is a chain of moves. -/
theorem Moves.carryOut {s t : State} (h : Moves s t) (ts : List Task)
    (good : s.wordLaw → tasksLawful ts) : Moves s (t.carryOut ts) :=
  drain_keeps_tasks (P := Moves s) (Q := fun task => s.wordLaw → task.lawful)
    (fun task _ lawful hu =>
      ⟨hu.runTask task lawful, fun next hn began => tasksLawful_runTask (hu.wordLaw began) task next hn⟩)
    Config.cascade ts t (fun task ht began => good began task ht) h

theorem Moves.done {s : State} {a : Act} (h : Moves s a.1) (good : tasksLawful a.2) : Moves s a.done :=
  h.carryOut a.2 fun _ => good

end Sys2Proof.Machine
end

section
/-! What one command can do, said once: the owner of every request but RESTART FULL and the act of every event of a block
are chains of elementary changes. Power-on and RESTART FULL set the part afresh, and the link is changed by its own events
alone. -/

namespace Sys2Proof.Machine

/-! ### The changes -/

/-- What may become of a clip that stays: its run, its length and its pins stand; it does not go back to LOADING or
VERIFYING, and it becomes RETIRING with a pin only. -/
def Clip.becomes (c d : Clip) : Prop :=
  d.firstBlock = c.firstBlock ∧ d.blockCount = c.blockCount ∧ d.length = c.length ∧ d.pins = c.pins ∧
  ((d.state = .loading ∨ d.state = .verifying) → c.state = .loading ∨ c.state = .verifying) ∧
  (d.state = .retiring → c.state = .retiring ∨ 0 < c.pins)

/-- What OPEN_CLIP makes of an ABSENT id: a clip without a pin on the first run that is long enough (R172, R173). -/
def Clip.fits (c : Clip) (s : State) (id : Nat) : Prop :=
  s.clip id = none ∧ 1 ≤ id ∧ id ≤ Config.clips ∧ firstFit s.cs.blocks c.blockCount = some c.firstBlock ∧
  c.blockCount = blocksFor c.length ∧ 0 < c.length ∧ c.state = .loading ∧ c.pins = 0

/-- The tick divider's count is below the divisor in use, and the divisor to come is at least 1 (R141, R142, R210). -/
def State.tickLaw (s : State) : Prop := s.tb.count < s.tb.divisorInUse ∧ 0 < s.cfg.tickDivisor

/-- One act of a command, on anything but the link, the reset pin and the commands that wait. The scores may change if `R`
holds. -/
inductive Change (R : Prop) : State → State → Prop
  | move {s t : State} (h : Moves s t) : Change R s t
  | announce (s : State) (route : BitVec 3) (ids : List Nat) (ready : ids.all s.clipReady = true)
      (room : s.se.announceQueue.length < Config.announcements) :
      Change R s (s.enqueue .announce .announce route ids).2
  | duel (s : State) (dc : DuelRecord) (scores : R ∨ dc.scores = s.dc.scores) (letters : s.wordLaw → dc.lettersLawful) : Change R s { s with dc := dc }
  | timebase (s : State) (tb : Timebase) (below : s.tickLaw → tb.count < tb.divisorInUse) : Change R s { s with tb := tb }
  | configure (s : State) (c : Configuration) (positive : 0 < c.tickDivisor) :
      Change R s ({ s with cfg := c }).evaluateThreshold
  | scanner (s : State) (ks : KeyScanner) (lawful : s.seatLaw → ({ s with ks := ks }).seatLaw)
      (letters : s.wordLaw → ks.lettersLawful) : Change R s { s with ks := ks }
  | remove (s : State) (k : Nat) : Change R s (s.removeOldest k)
  | settings (s : State) (routes : Pair RouteSetting) (cues letters : List (Option Nat)) :
      Change R s { s with se := { s.se with routes := routes, cues := cues, letters := letters } }
  | volume (s : State) (c : Channel) (n : Nat) (range : n ≤ 15) : Change R s (s.setVolumeTo c n)
  | position (s : State) (v : Voice) (p q : Playing) (playing : s.voice v = some p) (same : q.utterance = p.utterance) :
      Change R s (s.setVoice v (some q))
  | verifyUnit (s : State) (v : Option Verify) : Change R s { s with cs := { s.cs with verify := v } }
  | store (s : State) (address : Nat) (bytes : List Byte) : Change R s (s.storeBytes address bytes)
  | clip (s : State) (id : Nat) (c d : Clip) (present : s.clip id = some c) (becomes : c.becomes d) :
      Change R s (s.setClip id (some d))
  | openClip (s : State) (id : Nat) (c : Clip) (fits : c.fits s id) : Change R s (s.openRun id c)
  | drop (s : State) (id : Nat) (c : Clip) (present : s.clip id = some c)
      (loose : c.state = .loading ∨ c.state = .verifying ∨ c.pins = 0) : Change R s (s.dropClip id)
  | banks (s : State) (fb : FaultBanks) (condition : fb.condition = s.fb.condition) (holdDue : fb.holdDue = s.fb.holdDue)
      (lockdownDue : fb.lockdownDue = s.fb.lockdownDue) (frozen : fb.frozen = s.fb.frozen) : Change R s { s with fb := fb }
  | normal (s : State) (h : s.fb.condition ≠ .lockdown) :
      Change R s { s with fb := { s.fb with condition := .normal, holdDue := false } }
  | lockdown (s : State) (h : s.fb.lockdownDue = true) :
      Change R s { s with fb := { s.fb with holdDue := false, lockdownDue := false, frozen := true } }

/-- A chain of changes. -/
abbrev Changes (R : Prop) : State → State → Prop := Relation.ReflTransGen (Change R)

/-! ### Seat records under their law -/

theorem State.seatLaw_setSeat {s : State} {x : Seat} {r : SeatRecord} (h : s.seatLaw) (hr : r.lawful) :
    (s.setSeat x r).seatLaw := by
  obtain ⟨seats, map0, map1⟩ := h
  refine ⟨fun y => ?_, map0, map1⟩
  rw [State.seat_setSeat]
  split
  · exact hr
  · exact seats y

theorem SeatRecord.lawful.setRow {r : SeatRecord} (h : r.lawful) (n : Nat) (v : RowRecord) : (r.setRow n v).lawful := by
  obtain ⟨rows, rest⟩ := h
  exact ⟨by simpa [SeatRecord.setRow] using rows, rest⟩

/-- A seat record without keys, a fault or a map slot is lawful in EMPTY and IDENTIFYING. -/
theorem SeatRecord.forgotten_lawful (r : SeatRecord) {st : SeatState} (h : st = .empty ∨ st = .identifying) :
    ({ r.forgotten with state := st }).lawful := by
  obtain rfl | rfl := h <;> simp [SeatRecord.lawful, SeatRecord.forgotten, Config.keyQueue]

/-! ### Operations as chains of changes -/

section Operations

variable {R : Prop} {s t : State} (h : Changes R s t)
include h

theorem Changes.move {u : State} (hu : Moves t u) : Changes R s u := h.tail (.move hu)

omit h in
theorem Changes.done {a : Act} (ha : Changes R s a.1) (good : tasksLawful a.2) : Changes R s a.done :=
  ha.move (Moves.carryOut .refl a.2 fun _ => good)

theorem Changes.carryOut {ts : List Task} (good : tasksLawful ts) : Changes R s (t.carryOut ts) :=
  h.move (Moves.carryOut .refl ts fun _ => good)

theorem Changes.setTb {tb : Timebase}
    (below : t.tickLaw → tb.count < tb.divisorInUse) : Changes R s { t with tb := tb } :=
  h.tail (.timebase t tb below)

/-- An update of the Timebase that leaves the tick divider as it is. -/
theorem Changes.keepTb {tb : Timebase}
    (same : tb.count = t.tb.count ∧ tb.divisorInUse = t.tb.divisorInUse) : Changes R s { t with tb := tb } :=
  h.setTb fun law => by
    rw [same.1, same.2]
    exact law.1

theorem Changes.recordFault {code : FaultCode} {context : FaultContext} {detail : Nat} {r : Option Bool} :
    Changes R s (t.recordFault code context detail r) := h.move (Moves.recordFault .refl)

theorem Changes.raise {c : Cause} : Changes R s (t.raise c) := h.move (Moves.raise .refl)

theorem Changes.setSeat {x : Seat} {r : SeatRecord} (lawful : t.seatLaw → r.lawful)
    (letters : t.wordLaw → ∀ k ∈ r.keys, k.lawful) : Changes R s (t.setSeat x r) :=
  h.tail (.scanner t _ (fun law => State.seatLaw_setSeat law (lawful law)) fun law =>
    (law.setSeat (x := x) (letters law)).scanner)

/-- An update of a seat record that leaves its keys as they are. -/
theorem Changes.updateSeat {x : Seat} {r : SeatRecord} (same : r.keys = (t.seat x).keys)
    (lawful : t.seatLaw → r.lawful) : Changes R s (t.setSeat x r) :=
  h.setSeat lawful fun law => same ▸ law.keys x

theorem Changes.setScan {sc : Option Scan} : Changes R s { t with ks := { t.ks with scan := sc } } :=
  h.tail (.scanner t _ (fun law => law) fun law => law.scanner)

theorem Changes.setRow {x : Seat} {n : Nat} {v : RowRecord} : Changes R s (t.setSeat x ((t.seat x).setRow n v)) :=
  h.updateSeat rfl fun law => (law.1 x).setRow n v

/-! Key scanning. -/

theorem Changes.giveAlert {x : Seat} {n : Nat} : Changes R s (t.giveAlert x n) := by
  unfold State.giveAlert
  dsimp only
  refine Changes.raise (h.setSeat (fun law => ?_) fun law => ?_)
  · have row := (law.1 x).setRow n { (t.seat x).row n with alerted := true, due := false }
    split
    all_goals exact row
  · split
    all_goals exact law.keys x

theorem Changes.giveDue {x : Seat} {n : Nat} : Changes R s (t.giveDue x n) := by
  unfold State.giveDue
  split
  · exact h.giveAlert
  · exact h

theorem Changes.giveAllDue {x : Seat} : Changes R s (t.giveAllDue x) := by
  have each : ∀ (l : List Nat) (u : State), Changes R s u → Changes R s (l.foldl (fun s n => s.giveDue x n) u) := by
    intro l
    induction l with
    | nil => exact fun _ hu => hu
    | cons n l ih => exact fun u hu => ih _ hu.giveDue
  exact each _ _ h

theorem Changes.tickSeat {x : Seat} : Changes R s (t.tickSeat x) := by
  unfold State.tickSeat
  dsimp only
  split
  · refine h.updateSeat rfl fun law => ?_
    obtain ⟨rows, rest⟩ := law.1 x
    exact ⟨by simpa using rows, rest⟩
  · exact h

theorem Changes.appendKey {x : Seat} {k : KeyCode} (ready : (t.seat x).state = .ready)
    (lawful : t.wordLaw → k.lawful) : Changes R s (t.appendKey x k).1 := by
  unfold State.appendKey
  dsimp only
  split
  · rename_i room
    refine h.setSeat (fun law => ?_) fun law key hk => ?_
    · obtain ⟨rows, keys, noKeys, rest⟩ := law.1 x
      exact ⟨rows, by simpa using room, fun no => absurd ready no, rest⟩
    · obtain hk | hk := List.mem_append.1 hk
      · exact law.keys x key hk
      · rw [List.mem_singleton.1 hk]
        exact lawful law
  · exact h.recordFault

theorem Changes.debounce {x : Seat} {n : Nat} {d : Decode} : Changes R s (t.debounce x n d).1 := by
  unfold State.debounce
  dsimp only
  split
  · have seen := h.setRow (x := x) (n := n) (v := ((t.seat x).row n).see d)
      |>.giveDue (x := x) (n := n)
    have settled := seen.setRow (x := x) (n := n)
      (v := (((t.setSeat x ((t.seat x).setRow n (((t.seat x).row n).see d))).giveDue x n).seat x).row n |>.settle)
    split
    · unfold State.keyDown
      split
      · rename_i ready
        exact Changes.appendKey settled ready.1 fun law => law.mapEntry x _ _
      · exact settled
    · exact settled
  · exact h.setRow

theorem Changes.mapScan {f : Scan → Scan} : Changes R s (t.mapScan f) := h.setScan

theorem Changes.seatToEmpty {x : Seat} : Changes R s (t.seatToEmpty x).1 :=
  (h.giveAllDue.mapScan.setSeat (fun _ => SeatRecord.forgotten_lawful _ (.inl rfl)) fun _ => nofun).raise

theorem Changes.seatToIdentifying {x : Seat} : Changes R s (t.seatToIdentifying x).1 :=
  h.giveAllDue.mapScan.setSeat (fun _ => SeatRecord.forgotten_lawful _ (.inr rfl)) fun _ => nofun

theorem Changes.settleSense {x : Seat} : Changes R s (t.settleSense x).1 := by
  have settled : Changes R s (t.setSeat x { t.seat x with settled := (t.seat x).senseLine, settleTimer := none }) :=
    h.updateSeat rfl fun law => law.1 x
  unfold State.settleSense
  dsimp only
  split
  · split
    · rename_i empty
      refine settled.updateSeat rfl fun law => ?_
      obtain ⟨rows, keys, noKeys, fault, map⟩ := law.1 x
      simp only [State.seat_setSeat_self, empty] at rows keys noKeys fault ⊢
      exact ⟨rows, keys, fun _ => noKeys (by simp), by simpa using fault, by simp⟩
    · exact settled
  · split
    · exact settled
    · exact settled.seatToEmpty

/-- A seat that is not READY may become FAULTED: it has no keys. -/
theorem Changes.faultSeat {x : Seat} {cause : SeatFault} {row : Option Nat} (st : (t.seat x).state ≠ .ready) :
    Changes R s (t.faultSeat x cause row) := by
  refine Changes.raise (h.updateSeat (by rfl) fun law => ?_)
  obtain ⟨rows, keys, noKeys, fault, map⟩ := law.1 x
  exact ⟨rows, keys, fun _ => noKeys st, by simp, by simp⟩

theorem Changes.failRead {x : Seat} {cause : SeatFault} {code : FaultCode} {detail : Nat}
    (st : (t.seat x).state = .identifying) : Changes R s (t.failRead x cause code detail) := by
  have ks : ∀ r : Option Bool, (t.recordFault code (.seat x) detail r).seat x = t.seat x := fun r => by
    unfold State.recordFault
    dsimp only
    split <;> rfl
  have recorded : Changes R s (t.recordFault code (.seat x) detail none) := h.recordFault
  unfold State.failRead
  dsimp only
  split
  · exact recorded.updateSeat rfl fun law => law.1 x
  · refine Changes.faultSeat (recorded.updateSeat (by rfl) (by exact fun law => law.1 x)) ?_
    rw [State.seat_setSeat_self, ks none]
    simp [st]

theorem Changes.matchMap {x : Seat} {i : Identity} (st : (t.seat x).state = .identifying) :
    Changes R s (t.matchMap x i) := by
  have named : Changes R s (t.setSeat x { t.seat x with identity := some i }) :=
    h.updateSeat rfl fun law => law.1 x
  unfold State.matchMap
  dsimp only
  split
  · rename_i slot hslot
    have slot_le : slot ≤ 1 := by
      unfold State.matchingMap at hslot
      split at hslot
      · cases hslot
      · split at hslot
        · cases hslot
          exact Nat.zero_le 1
        · split at hslot <;> cases hslot
          exact le_rfl
    refine Changes.mapScan (named.updateSeat (by rfl) fun law => ?_)
    obtain ⟨rows, keys, noKeys, fault, map⟩ := law.1 x
    simp only [State.seat_setSeat_self, st] at keys noKeys fault ⊢
    exact ⟨by simp, keys, fun _ => noKeys (by simp), by simpa using fault, fun _ => ⟨slot, rfl, slot_le⟩⟩
  · refine Changes.faultSeat (named.updateSeat (by rfl) fun law => ?_) (by simp [st])
    obtain ⟨rows, keys, noKeys, fault, map⟩ := law.1 x
    simp only [State.seat_setSeat_self, st] at rows keys noKeys fault ⊢
    exact ⟨rows, keys, noKeys, fault, by simp⟩

theorem Changes.readDone {x : Seat} {answer : Option Identity} : Changes R s (t.readDone x answer) := by
  unfold State.readDone
  split
  · rename_i st
    unfold State.completeRead
    split
    · exact h.failRead st
    · split
      · exact h.matchMap st
      · exact h.failRead st
  · exact h

theorem Changes.countScan {x : Seat} {ta : Tally} (st : (t.seat x).state = .checking) :
    Changes R s (t.countScan x ta) := by
  have evaluated : ∀ r : SeatRecord, r.state = .checking → r.keys = (t.seat x).keys → (t.seatLaw → r.lawful) →
      Changes R s (if r.idleRun = Config.ladderPass then (t.setSeat x { r with state := .ready }).raiseSeatChange x
        else if r.scansCounted = Config.ladderScans then (t.setSeat x r).faultSeat x .ladder r.lastBusyRow
        else t.setSeat x r) := by
    intro r checking same lawful
    have keys : t.wordLaw → ∀ k ∈ r.keys, k.lawful := fun law => same ▸ law.keys x
    split
    · refine Changes.raise (h.setSeat (fun law => ?_) (by exact keys))
      obtain ⟨rows, keys, noKeys, fault, map⟩ := lawful law
      exact ⟨rows, keys, by simp, by simpa [checking] using fault, fun _ => map (.inl checking)⟩
    · split
      · exact Changes.faultSeat (h.setSeat lawful keys) (by simp [checking])
      · exact h.setSeat lawful keys
  exact evaluated _ st rfl (by exact fun law => law.1 x)

theorem Changes.ladderCheck {x : Seat} {n : Nat} {ta : Tally} : Changes R s (t.ladderCheck x n ta) := by
  unfold State.ladderCheck
  split
  · rename_i checking
    exact h.countScan checking.1
  · exact h

theorem Changes.completeRow {sc : Scan} {level : Nat} : Changes R s (t.completeRow sc level).1 := by
  unfold State.completeRow
  split
  · exact h.setScan
  · exact Changes.setScan (Changes.ladderCheck h.debounce)

theorem Changes.changeLine {x : Seat} {keyboard : Bool} {timer : Option Nat} :
    Changes R s (t.setSeat x { t.seat x with senseLine := keyboard, settleTimer := timer }) :=
  h.updateSeat rfl fun law => law.1 x

/-! The Timebase. -/

theorem Changes.scanStart : Changes R s t.scanStart := by
  have ticked : Changes R s t.loadGenerator.countScanStart := by
    unfold State.countScanStart
    split
    · have seats := ((h.keepTb (tb := t.loadGenerator.tb) ⟨rfl, rfl⟩).setTb (tb := { t.loadGenerator.tb with
        count := 0, counter := wrapSucc t.tb.counter, divisorInUse := t.cfg.tickDivisor }) fun law => law.2).tickSeat (x := .a)
          |>.tickSeat (x := .b)
      unfold State.lessonTick State.tickContexts
      dsimp only
      split
      · exact seats
      · exact seats.move (Moves.keepAe .refl (by exact ⟨rfl, rfl⟩))
    · rename_i below
      exact h.setTb fun _ => Nat.lt_of_not_le fun le => below (decide_eq_true le)
  unfold State.scanStart
  split
  · unfold State.issueScanStart State.takeScanStart
    split
    · exact ticked.setScan
    · exact ticked.recordFault
  · exact h

theorem Changes.tickStart : Changes R s t.tickStart := by
  unfold State.tickStart
  split
  · exact h.scanStart
  · exact h

/-! Clips and speech. -/

theorem Changes.completeVerify : Changes R s t.completeVerify := by
  unfold State.completeVerify
  split
  · exact h
  · rename_i v _
    split
    · exact h.tail (.verifyUnit t none)
    · rename_i c hc
      dsimp only
      split
      · refine Changes.raise ((h.tail (.clip t v.clip c _ hc ?_)).tail (.verifyUnit _ none))
        simp [Clip.becomes]
      · refine Changes.raise (Changes.recordFault ((h.tail (.clip t v.clip c _ hc ?_)).tail (.verifyUnit _ none)))
        simp [Clip.becomes]

theorem Changes.endPlaying {v : Voice} {u : Utterance} {st : EndStatus} : Changes R s (t.endPlaying v u st) :=
  h.move ((Moves.freeVoice .refl).carryOut _ fun _ => by simp [Task.lawful])

theorem Changes.voiceDone {v : Voice} : Changes R s (t.voiceDone v) := by
  unfold State.voiceDone
  split
  · exact h.endPlaying
  · exact h

theorem Changes.advanceVoice {v : Voice} : Changes R s (t.advanceVoice v) := by
  unfold State.advanceVoice
  split
  · rename_i p playing
    split
    · split
      · exact h.endPlaying
      · exact h.tail (.position t v p _ playing rfl)
    · exact h
  · exact h

omit h in
/-- CS's act on a parity report and the release of the voice touch different blocks. -/
theorem State.reportClipParity_setVoice (t : State) (v : Voice) (id : Nat) :
    (t.setVoice v none).reportClipParity id = (t.reportClipParity id).setVoice v none := by
  have same : (t.setVoice v none).clip id = t.clip id := by cases v <;> cases id <;> rfl
  unfold State.reportClipParity
  rw [same]
  split
  · split
    · cases v <;> cases id <;> rfl
    · rfl
  · rfl

omit h in
theorem State.voice_reportClipParity (t : State) (v : Voice) (id : Nat) :
    (t.reportClipParity id).voice v = t.voice v := by
  unfold State.reportClipParity
  split
  · split
    · cases v <;> cases id <;> rfl
    · rfl
  · rfl

theorem Changes.reportClipParity {id : Nat} : Changes R s (t.reportClipParity id) := by
  unfold State.reportClipParity
  split
  · rename_i c hc
    split
    · exact h.tail (.clip t id c _ hc (by simp [Clip.becomes]))
    · exact h
  · exact h

theorem Changes.parityError {v : Voice} {holdFirst : Bool} : Changes R s (t.parityError v holdFirst) := by
  unfold State.parityError
  split
  · rename_i p playing
    split
    · rename_i id _
      dsimp only
      have freed : ((t.setVoice v none).reportClipParity id).unpinAll p.utterance.clips =
          (t.reportClipParity id).freeVoice v := by
        rw [State.reportClipParity_setVoice, State.freeVoice, State.voice_reportClipParity, playing]
      rw [freed]
      refine Changes.carryOut (Changes.recordFault (h.reportClipParity.move (Moves.freeVoice .refl))) ?_
      unfold State.parityTasks
      split <;> simp [Task.lawful]
    · exact h
  · exact h

/-! Judgements and the entries. -/

theorem Changes.winRound {x : Seat} (scored : R) : Changes R s (t.winRound x).1 := by
  have won : Changes R s { (t.endDuelAttempt x (t.ctx x).finished).setRound x
      { (t.endDuelAttempt x (t.ctx x).finished).round x with status := some .solved } with
      dc := { ((t.endDuelAttempt x (t.ctx x).finished).setRound x
        { (t.endDuelAttempt x (t.ctx x).finished).round x with status := some .solved }).dc with
        winner := some x, scores := t.dc.scores.set x (t.dc.scores.get x + 1) } } :=
    (h.move (Moves.setRound (Moves.endDuelAttempt .refl))).tail (.duel _ _ (.inl scored) (by exact fun law => law.duel))
  unfold State.winRound
  dsimp only
  split
  · exact won.move (Moves.beat .refl)
  · exact won

theorem Changes.takeJudgement {x : Seat} {j : Judgement} (scored : R) (good : t.wordLaw → mistakeGood j.mistake) :
    Changes R s (t.takeJudgement x j).1 := by
  have taken : Changes R s { t with dc := { t.dc with judgements := t.dc.judgements.set x none } } :=
    h.tail (.duel t _ (.inr rfl) fun law => law.duel.taken x law.duel.1 rfl)
  have mistaken : Changes R s
      { t with dc := { t.dc with judgements := t.dc.judgements.set x none, mistake := j.mistake } } :=
    h.tail (.duel t _ (.inr rfl) fun law => law.duel.taken x (good law) rfl)
  have disregarded : Changes R s
      (({ t with dc := { t.dc with judgements := t.dc.judgements.set x none } } : State).disregard x).1 := by
    unfold State.disregard
    dsimp only
    split
    · exact Changes.move taken (Moves.keepCtx .refl (by rfl))
    · exact taken
  unfold State.takeJudgement
  dsimp only
  split
  · split
    · split
      · exact taken.winRound scored
      · split
        · exact Changes.move mistaken (Moves.seatOut .refl)
        · refine Changes.move mistaken (Moves.setCtx .refl fun _ law => ?_)
          split
          all_goals exact (law.ctx x).emptied rfl rfl rfl rfl
    · split
      · exact taken.move (Moves.setRound .refl)
      · exact disregarded
    all_goals exact disregarded
  · exact disregarded

omit h in
theorem tasksLawful_takeJudgement {x : Seat} {j : Judgement} : tasksLawful (t.takeJudgement x j).2 := by
  unfold State.takeJudgement State.winRound State.seatOut State.tryAgain State.disregard
  dsimp only
  repeat' split
  all_goals simp [Task.lawful, State.sayCue]

theorem Changes.takeInFlight {x : Seat} (scored : R) : Changes R s (t.takeInFlight x) := by
  unfold State.takeInFlight
  split
  · split
    · exact h
    · rename_i j hj _
      exact Changes.done (h.takeJudgement scored fun law => law.duel.2 x j hj) tasksLawful_takeJudgement
  · exact h

theorem Changes.expireIdle {x : Seat} : Changes R s (t.expireIdle x).1 := by
  unfold State.expireIdle
  dsimp only
  split
  · exact h.move (Moves.expireDuel (Moves.keepCtx .refl (by rfl)))
  · exact h.move (Moves.expireSolo (Moves.keepCtx .refl (by rfl)))
  · exact h.move (Moves.keepCtx .refl (by rfl))

theorem Changes.enterLockdown (due : t.fb.lockdownDue = true) : Changes R s t.enterLockdown := by
  have cancelled : Changes R s t.stopGenerator.cancelAll :=     (h.keepTb (tb := t.stopGenerator.tb) ⟨rfl, rfl⟩).move (Moves.cancel .refl)
  refine cancelled.tail (.lockdown _ ?_)
  have same : t.stopGenerator.cancelAll.fb = t.fb := (SpeechOnly.cancel t.stopGenerator _).fb
  rw [same]
  exact due

end Operations

end Sys2Proof.Machine
end

section
/-! What one step can do: the owner of each request and the act of each event as a chain of changes, and from that the
induction principle for a law that every step keeps. -/

namespace Sys2Proof.Machine

/-! ### What follows a command carries no key -/

theorem tasksLawful_departure {was : SeatState} {x : Seat} : tasksLawful (departure was x) := by
  unfold departure
  split <;> simp [Task.lawful]

theorem tasksLawful_settleSense {s : State} {x : Seat} : tasksLawful (s.settleSense x).2 := by
  unfold State.settleSense State.seatToEmpty
  dsimp only
  repeat' split
  all_goals first | exact tasksLawful_nil | exact tasksLawful_departure

theorem tasksLawful_completeRow {s : State} {sc : Scan} {level : Nat} : tasksLawful (s.completeRow sc level).2 := by
  unfold State.completeRow State.debounce State.keyDown State.appendKey
  dsimp only
  repeat' split
  all_goals simp [Task.lawful]

theorem tasksLawful_expireIdle {s : State} {x : Seat} : tasksLawful (s.expireIdle x).2 := by
  unfold State.expireIdle State.expireDuel State.seatOut
  dsimp only
  repeat' split
  all_goals simp [Task.lawful, tasksLawful_expireSolo]

/-! ### Owners of requests -/

section Answers

variable {R : Prop} {s : State}

theorem Changes.refuseIf {failed : Bool} {st : Status} {a : Answer} (h : failed = false → Changes R s a.1) :
    Changes R s (s.refuseIf failed st a).1 := by
  cases failed
  case true => exact .refl
  case false => exact h rfl

theorem Changes.forSeat {v : Byte} {owner : Seat → State → Answer} (h : ∀ x, Changes R s (owner x s).1) :
    Changes R s (forSeat v owner s).1 := by
  unfold Sys2Proof.Machine.forSeat
  split
  · exact h _
  · exact .refl

theorem Changes.forClip {v : Byte} {owner : Nat → State → Answer} (h : ∀ id, Changes R s (owner id s).1) :
    Changes R s (forClip v owner s).1 := by
  unfold Sys2Proof.Machine.forClip
  split
  · exact h _
  · exact .refl

end Answers

variable {R : Prop}

theorem State.fb_giveAllDue (s : State) (x : Seat) : (s.giveAllDue x).fb = s.fb := by
  have due : ∀ (t : State) (n : Nat), (t.giveDue x n).fb = t.fb := fun t n => by
    unfold State.giveDue
    split <;> rfl
  simp only [State.giveAllDue, List.range, List.range.loop, List.foldl_cons, List.foldl_nil, due]

theorem SeatRecord.restarted_lawful {r : SeatRecord} (h : r.lawful) : r.restarted.lawful := by
  obtain ⟨rows, keys, noKeys, rest⟩ := h
  exact ⟨by simp [SeatRecord.restarted], by simp [SeatRecord.restarted, Config.keyQueue], fun _ => rfl, rest⟩

theorem Context.restarted_lettersLawful (c : Context) : c.restarted.lettersLawful :=
  ⟨nofun, lettersGood_nil, Nat.zero_le _, mistakeGood_none⟩

theorem DuelRecord.fresh_lettersLawful : DuelRecord.fresh.lettersLawful :=
  ⟨mistakeGood_none, fun x _ hj => by cases x <;> cases hj⟩

/-- RESTART LESSON behind its cancellation and its alerts: each block is set back in turn. -/
theorem Changes.lessonsReset {s t : State} (h : Changes R s t) (set : R) (unlocked : t.fb.condition ≠ .lockdown) :
    Changes R s { t with
      ae := ⟨t.ae.a.restarted, t.ae.b.restarted⟩
      dc := DuelRecord.fresh
      rl := { t.rl with waiting := [] }
      ps := { practice := ⟨[], []⟩, duel := [] }
      ks := { t.ks with seats := ⟨t.ks.seats.a.restarted, t.ks.seats.b.restarted⟩ }
      fb := { t.fb with condition := .normal, holdDue := false } } := by
  have lessons : Changes R s { t with
      ae := ⟨t.ae.a.restarted, t.ae.b.restarted⟩, ps := { practice := ⟨[], []⟩, duel := [] } } :=
    h.move (.single (.lessons t _ t.dc _ rfl fun _ law =>
      ⟨Context.restarted_lettersLawful _, Context.restarted_lettersLawful _, law.duel⟩))
  have duel := lessons.tail (.duel _ DuelRecord.fresh (.inl set) fun _ => DuelRecord.fresh_lettersLawful)
  have seats := (Changes.move duel (.single (.waiting _ []))).tail
    (.scanner _ { t.ks with seats := ⟨t.ks.seats.a.restarted, t.ks.seats.b.restarted⟩ } ?lawful fun law =>
      ⟨law.scanner.1, nofun, nofun⟩)
  · exact seats.tail (.normal _ unlocked)
  case lawful =>
    rintro ⟨law, maps⟩
    refine ⟨fun x => ?_, maps⟩
    have seat : (t.seat x).lawful := law x
    cases x <;> exact SeatRecord.restarted_lawful seat

theorem restartLessonOwner_changes {s : State} (set : R) (h : s.fb.condition ≠ .lockdown) :
    Changes R s (restartLessonOwner s).1 := by
  have cleared : Changes R s ((s.cancelAll.giveAllDue .a).giveAllDue .b) :=
    (Changes.move .refl (Moves.cancel .refl)).giveAllDue.giveAllDue
  refine cleared.lessonsReset set ?_
  rw [State.fb_giveAllDue, State.fb_giveAllDue, State.cancelAll, (SpeechOnly.cancel s _).fb]
  exact h

theorem configureOwner_changes (im : ConfigImage) (s : State) : Changes R s (configureOwner im s).1 :=
  .refuseIf fun valid => .single (.configure s _ (by
    simp only [Bool.not_eq_false', Configuration.valid, inRange, Bool.and_eq_true, decide_eq_true_eq] at valid
    omega))

theorem clipIdOf_range {v : Byte} {id : Nat} (h : clipIdOf v = some id) : 1 ≤ id ∧ id ≤ Config.clips := by
  unfold clipIdOf at h
  split at h
  · cases h
  · rename_i range
    cases h
    omega

theorem clipRefOf_range {v : Byte} {r : Option Nat} (h : clipRefOf v = some r) :
    ∀ id, r = some id → 1 ≤ id ∧ id ≤ Config.clips := by
  unfold clipRefOf at h
  split at h
  · cases h
  · split at h <;> cases h
    · exact nofun
    · rintro _ ⟨⟩
      omega

theorem letterRefOf_good {v : Byte} {r : Option Nat} (h : letterRefOf v = some r) : ∀ l, r = some l → letterGood l := by
  unfold letterRefOf at h
  split at h
  · cases h
  · split at h <;> cases h
    · exact nofun
    · rintro _ ⟨⟩
      exact ⟨by omega, by omega⟩

theorem mistakeOf_good {k p x t : Byte} {m : Option MistakeCode} (h : mistakeOf k p x t = some m) : mistakeGood m := by
  unfold mistakeOf at h
  dsimp only at h
  split at h
  · cases h
    exact mistakeGood_none
  · split at h
    · rename_i hx ht
      split at h
      · rename_i range
        cases h
        rintro _ ⟨⟩
        exact ⟨range, letterRefOf_good hx, letterRefOf_good ht⟩
      · cases h
    · cases h

theorem imageSpelling_good {w : WordImage} {l : List Nat} (h : imageSpelling w = some l) :
    0 < w.length.toNat ∧ l = (w.letters.take w.length.toNat).map (·.toNat) ∧ lettersGood l := by
  unfold imageSpelling at h
  dsimp only at h
  split at h
  · rename_i good
    cases h
    obtain ⟨low, high, letters⟩ := good
    refine ⟨low, rfl, ?_, fun k hk => ?_⟩
    · simp only [List.length_map, List.length_take, Config.typedLetters]
      omega
    · simpa [letterGood] using List.all_eq_true.1 letters k hk
  · cases h

/-- The entry that a PUT_WORD image of 16 letters spells is lawful. -/
theorem imageEntry_lawful {w : WordImage} (full : w.letters.length = 16) {e : WordEntry} (h : imageEntry w = some e) :
    e.lawful := by
  unfold imageEntry at h
  split at h
  · rename_i spelling wordClip sentence hint mistake _ hs hw hsc hh hm
    obtain ⟨some', ls, letters⟩ := imageSpelling_good hs
    obtain ⟨low, high⟩ := clipIdOf_range hw
    split at h
    · rename_i good
      obtain ⟨named, progress⟩ := good
      simp only [imageProgressGood, Bool.and_eq_true, decide_eq_true_eq, Bool.or_eq_true, beq_iff_eq] at progress
      obtain ⟨⟨⟨box, streak⟩, -⟩, law⟩ := progress
      cases h
      refine ⟨Nat.pos_of_ne_zero named, w.wordId.isLt, ?_, letters, low, high, clipRefOf_range hsc, clipRefOf_range hh,
        box, streak, Nat.le_of_lt_succ w.attempts.isLt, Nat.le_of_lt_succ w.misses.isLt, Nat.le_of_lt_succ w.rest.isLt,
        fun m => ?_, mistakeOf_good hm⟩
      · show 0 < spelling.length
        rw [ls, List.length_map, List.length_take]
        omega
      · have one : w.mastered.toNat = 1 := by simpa using m
        exact law.resolve_left (by omega)
    · cases h
  · cases h

/-- A word id that no other slot holds. -/
theorem State.wordIdElsewhere_false {s : State} (law : s.wordLaw) {n id : Nat} (h : s.wordIdElsewhere n id = false)
    {m : Nat} {f : WordEntry} {q : Bool} (hmn : m ≠ n) (hf : s.wt[m]? = some (.occupied f q)) : f.wordId ≠ id := by
  have inside : m < Config.slots := law.table.1 ▸ (List.getElem?_eq_some_iff.1 hf).1
  have entry : s.entry m = some f := State.entry_eq_some_iff.2 ⟨q, hf⟩
  simp only [State.wordIdElsewhere, List.any_eq_false, List.mem_range] at h
  simpa [hmn, entry] using h m inside

theorem putWordOwner_changes (slot : Byte) (w : WordImage) (s : State) (full : w.letters.length = 16) :
    Changes R s (putWordOwner slot w s).1 := by
  unfold putWordOwner
  dsimp only
  split
  · exact .refl
  · rename_i e image
    refine .refuseIf fun _ => .refuseIf fun _ => .refuseIf fun elsewhere => Changes.move .refl (Moves.setSlot .refl ?_)
    refine fun _ law => law.setTable (law.table.set (fun f p h => ?_) fun f p h m g q hmn hg => ?_)
    · cases h
      exact imageEntry_lawful full image
    · cases h
      exact State.wordIdElsewhere_false law elsewhere hmn hg

theorem dropWordOwner_changes (slot : Byte) (s : State) : Changes R s (dropWordOwner slot s).1 :=
  .refuseIf fun _ => .refuseIf fun _ => .refuseIf fun _ => Changes.move .refl (Moves.setSlot .refl fun _ law =>
    law.setSlot_gone _ fun _ _ h => by cases h)

theorem queueWordOwner_changes (queue slot position : Byte) (s : State) :
    Changes R s (queueWordOwner queue slot position s).1 := by
  unfold queueWordOwner
  split
  · split
    · unfold State.queueWordAt
      split
      · exact .refl
      · split
        · exact .refl
        · exact .refuseIf fun _ => .refuseIf fun _ => .refuseIf fun _ => Changes.move .refl (Moves.setWordQueue .refl)
    · exact .refl
  · exact .refl

theorem clearQueueOwner_changes (queue : Byte) (s : State) : Changes R s (clearQueueOwner queue s).1 := by
  unfold clearQueueOwner
  split
  · exact .refl
  · exact .refuseIf fun _ => Changes.move .refl (Moves.setWordQueue .refl)

theorem startSoloOwner_changes (seat style options : Byte) (s : State) :
    Changes R s (startSoloOwner seat style options s).1 := by
  unfold startSoloOwner
  split
  · exact .refuseIf fun _ => Changes.move .refl ((Moves.keepCtx .refl (by rfl)).refillSeat.carryOut _ fun _ => by simp [Task.lawful])
  · exact .refl

theorem startDuelOwner_changes (zeroed : R) (rounds options : Byte) (s : State) : Changes R s (startDuelOwner rounds options s).1 := by
  refine .refuseIf fun _ => .refuseIf fun _ => ?_
  have set : Changes R s (s.setDuel rounds.toNat (options.getLsbD 0) (options.getLsbD 2)) :=
    .tail (b := { s with ae := ⟨s.ae.a.startDuel _ _, s.ae.b.startDuel _ _⟩ })
      (Changes.move .refl (Moves.setAe .refl (by exact fun _ law => ⟨law.ctx .a, law.ctx .b⟩)))
      (.duel _ _ (.inl zeroed) (by exact fun law => ⟨mistakeGood_none, law.duel.2⟩))
  exact set.move ((Moves.refillDuel .refl).carryOut _ fun _ => by simp [Task.lawful])

theorem releaseResultsOwner_changes (k : Byte) (s : State) : Changes R s (releaseResultsOwner k s).1 := by
  refine .refuseIf fun _ => ?_
  have removed : Changes R s (s.removeOldest k.toNat) := .single (.remove s _)
  exact removed.move ((Moves.appendAllWaiting .refl).carryOut _ fun _ => tasksLawful_map (f := Task.appended) (fun _ => trivial) _)

theorem length_keyCodes : ∀ (bytes : List Byte) (ks : List KeyCode), keyCodes bytes = some ks → ks.length = bytes.length
  | [], ks, h => by
    cases h
    rfl
  | v :: vs, ks, h => by
    unfold keyCodes at h
    split at h
    · rename_i k rest _ hrest
      cases h
      simp [length_keyCodes vs rest hrest]
    · cases h

/-- A byte that spells a letter spells a letter code. -/
theorem keyOf_lawful {v : Byte} {k : KeyCode} (h : keyOf v = some k) : k.lawful := by
  unfold keyOf at h
  dsimp only at h
  rintro l rfl
  split at h
  · cases h
  · split at h
    · cases h
      exact ⟨by omega, by assumption⟩
    · repeat' split at h
      all_goals cases h

theorem keyCodes_lawful : ∀ {bytes : List Byte} {ks : List KeyCode}, keyCodes bytes = some ks → ∀ k ∈ ks, k.lawful
  | [], ks, h => by
    cases h
    exact nofun
  | v :: vs, ks, h => by
    unfold keyCodes at h
    split at h
    · rename_i k rest hk hrest
      cases h
      intro key mem
      obtain rfl | mem := List.mem_cons.1 mem
      · exact keyOf_lawful hk
      · exact keyCodes_lawful hrest key mem
    · cases h

/-- Key codes written into a key map of key codes. -/
theorem State.wordLaw.setKeyMap {s : State} (law : s.wordLaw) {n tag start : Nat} {ks : List KeyCode}
    (h : ∀ k ∈ ks, k.lawful) :
    (s.setKeyMap n ⟨tag, writeEntries (s.keyMap n).entries start ks⟩).ks.lettersLawful := by
  obtain ⟨maps, keys⟩ := law.scanner
  have written : ∀ m : KeyMap, (∀ k ∈ m.entries, k.lawful) → ∀ k ∈ writeEntries m.entries start ks, k.lawful := by
    intro m hm k hk
    unfold writeEntries at hk
    obtain hk | hk := List.mem_append.1 hk
    · obtain hk | hk := List.mem_append.1 hk
      · exact hm k (List.mem_of_mem_take hk)
      · exact h k hk
    · exact hm k (List.mem_of_mem_drop hk)
  have map0 := written s.ks.map0 fun k hk => maps k (List.mem_append_left _ hk)
  have map1 := written s.ks.map1 fun k hk => maps k (List.mem_append_right _ hk)
  unfold State.setKeyMap State.keyMap
  split
  · refine ⟨fun k hk => ?_, keys⟩
    obtain hk | hk := List.mem_append.1 hk
    · exact map0 k hk
    · exact maps k (List.mem_append_right _ hk)
  · refine ⟨fun k hk => ?_, keys⟩
    obtain hk | hk := List.mem_append.1 hk
    · exact maps k (List.mem_append_left _ hk)
    · exact map1 k hk

/-- Entries written within a map leave its length. -/
theorem length_writeEntries {entries new : List KeyCode} {start : Nat} (h : start + new.length ≤ entries.length) :
    (writeEntries entries start new).length = entries.length := by
  simp [writeEntries]
  omega

theorem State.seatLaw_setKeyMap {s : State} {slot : Nat} {m : KeyMap} (law : s.seatLaw) (h : m.entries.length = 56) :
    (s.setKeyMap slot m).seatLaw := by
  obtain ⟨seats, map0, map1⟩ := law
  unfold State.setKeyMap
  split
  · exact ⟨seats, h, map1⟩
  · exact ⟨seats, map0, h⟩

theorem loadKeyMapOwner_changes (slot kind first rows : Byte) (keys : List Byte) (s : State)
    (h : keys.length = 7 * rows.toNat) : Changes R s (loadKeyMapOwner slot kind first rows keys s).1 := by
  unfold loadKeyMapOwner
  split
  · rename_i n ks _ hks
    refine .refuseIf fun range => .refuseIf fun _ => .refuseIf fun _ => ?_
    have len := length_keyCodes keys ks hks
    have map : ∀ m, (s.setKeyMap n m) = { s with ks := (s.setKeyMap n m).ks } := fun m => by
      unfold State.setKeyMap
      split <;> rfl
    have set := Change.scanner (R := R) s (s.setKeyMap n ⟨kind.toNat, writeEntries (s.keyMap n).entries (7 * first.toNat) ks⟩).ks
      (fun law => by
        rw [← map]
        have entries : (s.keyMap n).entries.length = 56 := by
          unfold State.keyMap
          split
          · exact law.2.1
          · exact law.2.2
        refine State.seatLaw_setKeyMap law ?_
        simp only [decide_eq_false_iff_not, not_or, not_lt] at range
        rw [length_writeEntries (by omega), entries])
      fun law => law.setKeyMap (keyCodes_lawful hks)
    rw [← map] at set
    exact .single set
  · exact .refl

theorem setRouteOwner_changes (seat setting : Byte) (s : State) : Changes R s (setRouteOwner seat setting s).1 := by
  unfold setRouteOwner
  split
  · exact .single (.settings s _ s.se.cues s.se.letters)
  · exact .refl

theorem setCuesOwner_changes (clips : List Byte) (s : State) : Changes R s (setCuesOwner clips s).1 := by
  unfold setCuesOwner
  split
  · exact .single (.settings s s.se.routes _ s.se.letters)
  · exact .refl

theorem setLettersOwner_changes (clips : List Byte) (s : State) : Changes R s (setLettersOwner clips s).1 := by
  unfold setLettersOwner
  split
  · exact .single (.settings s s.se.routes s.se.cues _)
  · exact .refl

theorem setVolumeOwner_changes (channel level : Byte) (s : State) : Changes R s (setVolumeOwner channel level s).1 := by
  unfold setVolumeOwner
  split
  · exact .refuseIf fun range => .single (.volume s _ _ (by simpa using range))
  · exact .refl

theorem announceOwner_changes (route count : Byte) (clips : List Byte) (s : State) :
    Changes R s (announceOwner route count clips s).1 := by
  unfold announceOwner
  split
  · refine .refuseIf fun _ => .refuseIf fun ready => .refuseIf fun room => ?_
    exact Changes.move (.single (.announce s _ _ (by simpa using ready) (by simpa using room)))
      (Moves.carryOut .refl _ fun _ => by simp [Task.lawful])
  · exact .refl

theorem cancelAnnounceOwner_changes (selector handle : Byte) (s : State) :
    Changes R s (cancelAnnounceOwner selector handle s).1 := by
  have cancelled : ∀ p, Changes R s (s.cancelAnd p) := fun p => Changes.move .refl ((Moves.cancel .refl).carryOut _ fun _ => by simp [Task.lawful])
  unfold cancelAnnounceOwner
  split
  · exact .refuseIf fun _ => .refuseIf fun _ => cancelled _
  · exact cancelled _
  · exact .refl

theorem openClipOwner_changes (id format rate : Byte) (length crc : Word16) (s : State) :
    Changes R s (openClipOwner id format rate length crc s).1 := by
  unfold openClipOwner
  split
  · rename_i n f r hid _ _
    refine .refuseIf fun good => .refuseIf fun absent => ?_
    split
    · exact .refl
    · rename_i b fit
      obtain ⟨low, high⟩ := clipIdOf_range hid
      have positive : 0 < length.toNat := by
        simp only [lengthGood, Bool.not_eq_false', Bool.and_eq_true, bne_iff_ne] at good
        exact Nat.pos_of_ne_zero good.1
      exact .single (.openClip s n _ ⟨by simpa using absent, low, high, fit, rfl, positive, rfl, rfl⟩)
  · exact .refl

theorem clipDataOwner_changes (id : Byte) (offset : Word16) (count : Byte) (bytes : List Byte) (s : State) :
    Changes R s (clipDataOwner id offset count bytes s).1 := by
  unfold clipDataOwner
  split
  · rename_i n _
    refine .refuseIf fun _ => ?_
    unfold State.clipDataAt
    split
    · exact .refl
    · rename_i c hc
      refine .refuseIf fun _ => .refuseIf fun _ => .refuseIf fun _ => ?_
      have stored : Changes R s (s.storeBytes (c.address c.fill) bytes) := .single (.store s _ _)
      exact stored.tail (.clip _ n c _ hc ⟨rfl, rfl, rfl, rfl, fun h => h, .inl⟩)
  · exact .refl

theorem commitClipAt_changes (s : State) (id : Nat) : Changes R s (s.commitClipAt id).1 := by
  unfold State.commitClipAt
  split
  · exact .refl
  · rename_i c hc
    refine .refuseIf fun loading => .refuseIf fun _ => .refuseIf fun _ => ?_
    have state : c.state = .loading := by simpa using loading
    have set : Changes R s (s.setClip id (some { c with state := .verifying })) :=
      .single (.clip s id c _ hc (by simp [Clip.becomes, state]))
    exact set.tail (.verifyUnit _ _)

theorem deleteClipOwner_changes (id : Nat) (s : State) : Changes R s (deleteClipOwner id s).1 := by
  have deleted : ∀ c, s.clip id = some c → (c.state = .loading ∨ c.state = .verifying ∨ c.pins = 0) →
      Changes R s (s.deleteNow id) := fun c hc loose =>
    (Relation.ReflTransGen.single (Change.verifyUnit s _)).tail (.drop _ id c hc loose)
  unfold deleteClipOwner
  split
  · exact .refl
  · rename_i c hc
    split
    · rename_i state
      exact deleted c hc (.inl state)
    · rename_i state
      exact deleted c hc (.inr (.inl state))
    · split
      · rename_i unpinned
        exact deleted c hc (.inr (.inr unpinned))
      · rename_i pinned
        exact .single (.clip s id c _ hc (by simp [Clip.becomes]; omega))
    · split
      · rename_i unpinned
        exact deleted c hc (.inr (.inr unpinned))
      · rename_i pinned
        exact .single (.clip s id c _ hc (by simp [Clip.becomes]; omega))
    · exact .refl

theorem mapBank_changes (s : State) (b : Bank) (f : FaultBank → FaultBank) : Changes R s (s.mapBank b f) := by
  refine .single (.banks s _ ?_ ?_ ?_ ?_) <;> cases b <;> rfl

theorem clearHoldOwner_changes (s : State) : Changes R s (clearHoldOwner s).1 := by
  refine .refuseIf fun hold => ?_
  have normal : Changes R s { s with fb := { s.fb with condition := .normal, holdDue := false } } := by
    refine .single (.normal s ?_)
    have : s.fb.condition = .hold := by simpa using hold
    simp [this]
  exact normal.carryOut (by simp [Task.lawful])

/-- The scores of a duel are set by START_DUEL and RESTART LESSON, and by a judgement; RESTART FULL and power-on apart. -/
def setsScores : Instr → Bool
  | .startDuel .. | .restartLesson .. | .judgementTaken .. => true
  | _ => false

/-- The owner of a request that is taken, RESTART FULL apart, is a chain of changes. -/
theorem requestOwner_changes (c : Instr) {s : State} (may : setsScores c = true → R) (taken : s.takes c) (partial' : ∀ tag, c ≠ .restartFull tag) :
    Changes R s (requestOwner c s).1 := by
  obtain ⟨-, -, wellFormed, unlocked⟩ := taken
  have here : Changes R s s := .refl
  cases c
  all_goals simp only [requestOwner]
  case restartLesson => exact restartLessonOwner_changes (may rfl) fun locked => by cases unlocked locked
  case restartFull tag => exact absurd rfl (partial' tag)
  case configure => exact configureOwner_changes _ _
  case putWord => exact putWordOwner_changes _ _ _ (by simpa [Instr.wellFormed] using wellFormed)
  case dropWord => exact dropWordOwner_changes _ _
  case queueWord => exact queueWordOwner_changes _ _ _ _
  case clearQueue => exact clearQueueOwner_changes _ _
  case startSolo => exact startSoloOwner_changes _ _ _ _
  case stopSeat => exact .forSeat fun x => .refuseIf fun _ => .done (here.move (Moves.leaveSolo .refl)) tasksLawful_leaveSolo
  case pauseSeat => exact .forSeat fun x => .refuseIf fun _ => here.move ((Moves.keepCtx .refl (by rfl)).cancelSeat.carryOut _ fun _ => by simp [Task.lawful])
  case resumeSeat => exact .forSeat fun x => .refuseIf fun _ => .done (here.move (Moves.resumeSolo .refl)) tasksLawful_resumeSolo
  case skipWord => exact .forSeat fun x => .refuseIf fun _ => here.move ((Moves.keepCtx .refl (by rfl)).cancelHandle.carryOut _ fun _ => by simp [Task.lawful])
  case startDuel => exact startDuelOwner_changes (may rfl) _ _ _
  case stopDuel => exact .refuseIf fun _ => .done (here.move (Moves.stopDuelNow .refl)) tasksLawful_stopDuelNow
  case releaseResults => exact releaseResultsOwner_changes _ _
  case readAttention => exact here.move (.single (.attention s _))
  case setAttentionEnable => exact .refuseIf fun _ => here.move (.single (.attention s _))
  case flushKeys =>
    refine .forSeat fun x => .refuseIf fun _ => here.setSeat (fun law => ?_) fun _ => nofun
    obtain ⟨rows, keys, noKeys, rest⟩ := law.1 x
    exact ⟨by simpa [SeatRecord.flushed] using rows, by simp [SeatRecord.flushed, Config.keyQueue], fun _ => rfl, rest⟩
  case loadKeyMap =>
    simp only [Instr.wellFormed, Bool.and_eq_true, beq_iff_eq] at wellFormed
    exact loadKeyMapOwner_changes _ _ _ _ _ _ wellFormed.1
  case checkSeat => exact .forSeat fun x => .refuseIf fun _ => .refuseIf fun _ => .done here.seatToIdentifying tasksLawful_departure
  case readSeats =>
    exact (here.updateSeat (by rfl) (by exact fun law => law.1 .a)).updateSeat (by rfl) (by exact fun law => law.1 .b)
  case scanStart =>
    unfold scanStartOwner
    dsimp only
    split
    · exact .refl
    · exact here.keepTb ⟨rfl, rfl⟩
  case scanStop => exact here.keepTb ⟨rfl, rfl⟩
  case setRoute => exact setRouteOwner_changes _ _ _
  case setCues => exact setCuesOwner_changes _ _
  case setLetters => exact setLettersOwner_changes _ _
  case setVolume => exact setVolumeOwner_changes _ _ _
  case announce => exact announceOwner_changes _ _ _ _
  case cancelAnnounce => exact cancelAnnounceOwner_changes _ _ _
  case openClip => exact openClipOwner_changes _ _ _ _ _ _
  case clipData => exact clipDataOwner_changes _ _ _ _ _
  case commitClip => exact .forClip fun id => commitClipAt_changes s id
  case deleteClip => exact .forClip fun id => deleteClipOwner_changes id s
  case clearFault =>
    unfold clearFaultOwner
    split
    · exact mapBank_changes s _ fun k => { k with held := none }
    · exact .refl
  case setFaultEnable =>
    unfold setFaultEnableOwner
    split
    · exact .refuseIf fun _ => mapBank_changes s _ fun k => { k with mask := _ }
    · exact .refl
  case clearHold => exact clearHoldOwner_changes _
  case getWord => exact .refuseIf fun _ => here
  case peekResults => exact .refuseIf fun _ => here
  case readQueue =>
    unfold readQueueOwner
    split <;> exact here
  case readSpeech =>
    unfold readSpeechOwner
    split <;> exact here
  case readFaults =>
    unfold readFaultsOwner
    split <;> exact here
  case readAttempt => exact .forSeat fun _ => here
  case clipStatus => exact .forClip fun _ => here
  all_goals exact here

/-! ### Events and clock periods -/

/-- The event acts on the link. -/
def actsOnLink : Instr → Bool
  | .gapTimerExpiry | .linkBreak | .replySent => true
  | _ => false

theorem actsOnLink_cases {c : Instr} (h : actsOnLink c = true) : c = .gapTimerExpiry ∨ c = .linkBreak ∨ c = .replySent := by
  cases c <;> simp [actsOnLink] at h ⊢

/-- The act of an event, the events of the link apart, is a chain of changes. -/
theorem eventAct_changes (c : Instr) (s : State) (may : setsScores c = true → R) (h : actsOnLink c = false) : Changes R s (eventAct c s) := by
  have here : Changes R s s := .refl
  cases c
  case gapTimerExpiry | linkBreak | replySent => cases h
  case scanStartIssued => exact here.scanStart
  case lessonTick => exact here.tickStart
  case rowConversionComplete level =>
    show Changes R s (s.rowDone level.toNat)
    unfold State.rowDone
    split
    · exact .done here.completeRow tasksLawful_completeRow
    · exact here
  case converterTimeout =>
    show Changes R s s.rowTimedOut
    unfold State.rowTimedOut
    split
    · exact Changes.keepTb here.setScan.recordFault ⟨rfl, rfl⟩
    · exact here
  case senseSettled x =>
    show Changes R s (s.senseDone x)
    unfold State.senseDone
    split
    · exact .done here.settleSense tasksLawful_settleSense
    · exact here
  case identityReadComplete => exact here.readDone
  case holdAlert => exact here.giveDue
  case idleExpiry x =>
    show Changes R s (if s.idleExpired x then (s.expireIdle x).done else s)
    split
    · exact .done here.expireIdle tasksLawful_expireIdle
    · exact here
  case utteranceDone => exact here.voiceDone
  case clipAdvance => exact here.advanceVoice
  case clipParity => exact here.parityError
  case verifyComplete => exact here.completeVerify
  case judgementTaken => exact here.takeInFlight (may rfl)
  case holdEntry => exact here.carryOut (by simp [Task.lawful])
  case lockdownEntry =>
    show Changes R s (if s.fb.lockdownDue then s.enterLockdown else s)
    split
    · rename_i due
      exact here.enterLockdown due
    · exact here
  all_goals exact here

/-- A voice's period moves its position alone. -/
theorem State.voicePeriod_position (s t : State) (v : Voice) (h : t.voice v = s.voice v) :
    Changes R t (t.setVoice v (s.voicePeriod (s.voice v))) := by
  cases hv : s.voice v with
  | none =>
    have : t.setVoice v none = t := by
      rw [hv] at h
      cases v <;> simp only [State.voice] at h <;> simp only [State.setVoice, ← h]
    rw [State.voicePeriod, this]
  | some p =>
    rw [hv] at h
    unfold State.voicePeriod
    dsimp only
    repeat' split
    all_goals exact .single (.position t v p _ h rfl)

/-- A master-clock period changes timers only, and the link's by itself. -/
theorem clockPeriod_changes (s : State) : Changes R s { s.clockPeriod with lp := s.lp } := by
  have unit : Changes R s s.verifyPeriod := by
    unfold State.verifyPeriod
    split
    · exact .refl
    · split
      · exact .refl
      · exact .single (.verifyUnit s _)
  have timers : Changes R s { s.verifyPeriod with
      tb := { s.verifyPeriod.tb with generator := s.verifyPeriod.tb.generator.period }
      ks := { s.verifyPeriod.ks with
        seats := ⟨s.verifyPeriod.ks.seats.a.period, s.verifyPeriod.ks.seats.b.period⟩ } } := by
    refine (unit.keepTb (tb := { s.verifyPeriod.tb with generator := s.verifyPeriod.tb.generator.period }) ⟨rfl, rfl⟩).tail
      (.scanner _ { s.verifyPeriod.ks with
        seats := ⟨s.verifyPeriod.ks.seats.a.period, s.verifyPeriod.ks.seats.b.period⟩ } ?_ fun law => law.scanner)
    rintro ⟨law, maps⟩
    refine ⟨fun x => ?_, maps⟩
    have seat : (s.verifyPeriod.seat x).lawful := law x
    cases x <;> exact seat
  have lp : s.verifyPeriod.lp = s.lp := by
    unfold State.verifyPeriod
    repeat' split
    all_goals rfl
  have v0 := timers.trans (State.voicePeriod_position s.verifyPeriod _ .v0 rfl)
  have v1 := v0.trans (State.voicePeriod_position s.verifyPeriod _ .v1 rfl)
  unfold State.clockPeriod
  rw [← lp]
  exact v1

/-! ### The link -/

/-- One act on the link port: a reply is queued or sent, a byte is taken, or the gap timer counts (R201, R202, R206). -/
inductive LinkMove : LinkPort → LinkPort → Prop
  | reply (p : LinkPort) (r : Reply) (room : p.replies.length < Config.replyQueue) :
      LinkMove p { p with replies := p.replies ++ [r] }
  | hunt (p : LinkPort) : LinkMove p { p with assembler := .hunting, gapTimer := none }
  | start (p : LinkPort) :
      LinkMove p { p with assembler := .inFrame [Config.startByte], gapTimer := some Config.gapPeriods }
  | extend (p : LinkPort) (bytes : List Byte) (v : Byte) (inFrame : p.assembler = .inFrame bytes)
      (incomplete : frameCompletes bytes = false) (short : ¬ (bytes.length = 1 ∧ Config.payload < v.toNat)) :
      LinkMove p { p with assembler := .inFrame (bytes ++ [v]), gapTimer := some Config.gapPeriods }
  | line (p : LinkPort) (l : ReceiveLine) : LinkMove p { p with line := l }
  | broken (p : LinkPort) : LinkMove p { assembler := .hunting, gapTimer := none, replies := [], line := .space }
  | sent (p : LinkPort) : LinkMove p { p with replies := p.replies.drop 1 }

/-- Only a request is in a frame. -/
theorem runRequest_event {c : Instr} (h : c.isRequest = false) (s : State) : runRequest c s = .next s := by
  cases c
  case powerOn | frameComplete | gapTimerExpiry | linkBreak | replySent | scanStartIssued | lessonTick
    | rowConversionComplete | converterTimeout | senseChange | senseSettled | identityReadComplete | holdAlert
    | idleExpiry | utteranceDone | clipAdvance | clipParity | verifyComplete | judgementTaken | holdEntry
    | lockdownEntry | byteReceived | resetPinAsserted => rfl
  all_goals simp [Instr.isRequest, Instr.kind] at h

/-! ### Laws that every step keeps -/

/-- The command is `d`, or a byte that completes the frame of the request `d`. -/
def State.runs (s : State) (c d : Instr) : Prop :=
  c = d ∨ d.isRequest = true ∧ ∃ v, (c = .frameComplete v ∨ c = .byteReceived ⟨v, .mark⟩) ∧
    frameCompletes s.partialFrame = true ∧ s.requestAt v = .request d

/-- What a law has to keep, on every way in which the commands of which `R` holds can change the part. -/
structure KeptOutside (R : Instr → Prop) (P : State → Prop) : Prop where
  held : ∀ s : State, P s → P { s with resetHeld := true }
  link : ∀ (s : State) (lp : LinkPort), LinkMove s.lp lp → P s → P { s with lp := lp }
  powerUp : R .powerOn → ∀ s : State, P s → P s.powerUp
  restart : ∀ tag, R (.restartFull tag) → ∀ s : State, P s → P (restartFullOwner s).1
  fault : ∀ (s : State) (code : FaultCode) (context : FaultContext) (detail : Nat) (r : Option Bool), P s →
    P (s.recordFault code context detail r)
  sense : ∀ (s : State) (x : Seat) (line : Bool) (timer : Option Nat), P s →
    P (s.setSeat x { s.seat x with senseLine := line, settleTimer := timer })
  owner : ∀ (c : Instr) (s : State), R c → s.takes c → (∀ tag, c ≠ .restartFull tag) → P s → P (requestOwner c s).1
  act : ∀ (c : Instr) (s : State), R c → actsOnLink c = false → P s → P (eventAct c s)

section Keeping

variable {R : Instr → Prop} {P : State → Prop} (k : KeptOutside R P)
include k

theorem KeptOutside.hunt {s : State} (h : P s) : P s.hunt := k.link s _ (.hunt s.lp) h

theorem KeptOutside.line {s : State} (l : ReceiveLine) (h : P s) : P (s.setLine l) := k.link s _ (.line s.lp l) h

theorem KeptOutside.reply {s : State} {r : Reply} (room : s.repliesFull = false) (h : P s) :
    P { s with lp := { s.lp with replies := s.lp.replies ++ [r] } } :=
  k.link s _ (.reply s.lp r (by simpa [State.repliesFull] using room)) h

theorem KeptOutside.request {c : Instr} {s t : State} (hc : c.isRequest = true) (may : R c)
    (h : P s) (ht : exec c s = .next t) : P t := by
  rw [exec_request c hc s] at ht
  refine serve_keeps ht h (k.fault s _ _ _ _ h) (fun u st contents hu room same => ?_) (requestOwner_plain c s).1 ?_
  · exact k.reply (by rw [State.repliesFull, same]; exact room) hu
  intro taken
  by_cases full : ∃ tag, c = .restartFull tag
  · obtain ⟨tag, rfl⟩ := full
    exact k.restart tag may s h
  · exact k.owner c s may taken (fun tag e => full ⟨tag, e⟩) h

theorem KeptOutside.frame {s t : State} {bytes : List Byte}
    (may : ∀ d, d.isRequest = true →
      parseRequest (bytes.getD 2 0) (bytes.getD 3 0) (framePayload bytes) = .request d → R d)
    (h : P s) (ht : s.completeFrame runRequest bytes = .next t) : P t := by
  have hunting := k.hunt h
  unfold State.completeFrame at ht
  dsimp only at ht
  split at ht
  · cases ht
    exact k.fault _ _ _ _ _ hunting
  · rename_i room
    simp only [Bool.not_eq_true] at room
    split at ht
    · cases ht
      exact k.fault _ _ _ _ _ (k.reply room hunting)
    · split at ht
      · cases ht
        exact k.reply room hunting
      · cases ht
        exact k.reply room hunting
      · cases ht
        exact k.reply room hunting
      · rename_i c parsed
        cases hc : c.isRequest
        · rw [runRequest_event hc] at ht
          cases ht
          exact hunting
        · rw [runRequest_eq c hc] at ht
          exact k.request hc (may c hc parsed) hunting ht

theorem KeptOutside.huntByte {s : State} (v : Byte) (h : P s) : P (s.huntByte v) := by
  unfold State.huntByte
  split
  · rename_i start
    rw [start]
    exact k.link s _ (.start s.lp) h
  · exact h

theorem KeptOutside.byte {s t : State} {v : Byte}
    (may : ∀ bytes, s.lp.assembler = .inFrame bytes → frameCompletes bytes = true →
      ∀ d, d.isRequest = true → parseRequest ((bytes ++ [v]).getD 2 0) ((bytes ++ [v]).getD 3 0)
        (framePayload (bytes ++ [v])) = .request d → R d)
    (h : P s) (ht : s.receiveByte v = .next t) : P t := by
  unfold State.receiveByte at ht
  split at ht
  · cases ht
    exact k.huntByte v h
  · rename_i bytes inFrame
    split at ht
    · rename_i complete
      exact k.frame (may bytes inFrame complete) h ht
    · rename_i incomplete
      cases ht
      unfold State.frameByte
      split
      · exact k.huntByte v (k.hunt h)
      · rename_i short
        exact k.link s _ (.extend s.lp bytes v inFrame (by simpa using incomplete) short) h

/-- Every command keeps the law. -/
theorem KeptOutside.exec {c : Instr} {s t : State} (may : ∀ d, s.runs c d → R d) (h : P s) (ht : exec c s = .next t) : P t := by
  obtain hc | hc | ⟨v, rfl⟩ | ⟨v, rfl⟩ | rfl | rfl | ⟨x, line, rfl⟩ := command_sort c
  · exact k.request hc (may c (.inl rfl)) h ht
  · rw [hc] at ht
    refine event_keeps ht h fun _ => ?_
    cases hl : actsOnLink c
    · exact k.act c s (may c (.inl rfl)) hl h
    · obtain rfl | rfl | rfl := actsOnLink_cases hl
      · show P s.gapExpired
        unfold State.gapExpired
        split
        · exact k.fault _ _ _ _ _ (k.hunt h)
        · exact h
      · exact k.link s _ (.broken s.lp) h
      · exact k.link s _ (.sent s.lp) h
  · change execFrameComplete v s = .next t at ht
    unfold execFrameComplete at ht
    split at ht
    · cases ht
      exact h
    · rename_i taken
      rw [not_or, Bool.not_eq_false] at taken
      exact k.frame (fun d hd parsed => may d (.inr ⟨hd, v, .inl rfl, taken.2, parsed⟩)) (k.line .mark h) ht
  · change execByteReceived v s = .next t at ht
    unfold execByteReceived at ht
    split at ht
    · cases ht
      exact h
    · obtain ⟨bits, stop⟩ := v
      cases stop
      · refine k.byte (fun bytes inFrame complete d hd parsed => may d (.inr ⟨hd, bits, .inr rfl, ?_⟩)) (k.line .mark h) ht
        have partialFrame : s.partialFrame = bytes := by
          unfold State.partialFrame
          rw [show s.lp.assembler = .inFrame bytes from inFrame]
        refine ⟨by rwa [partialFrame], ?_⟩
        rw [State.requestAt, partialFrame]
        exact parsed
      · cases ht
        exact k.line _ h
  · cases ht
    exact k.powerUp (may _ (.inl rfl)) s h
  · cases ht
    exact k.held _ (k.line (s := s.hunt) _ (k.hunt h))
  · cases ht
    split
    · exact k.sense s x line (s.seat x).settleTimer h
    · unfold State.changeSense
      dsimp only
      split
      · exact h
      · exact k.sense s x line _ h

/-- Every step keeps a law that every command and every clock period keep. -/
theorem KeptOutside.step (may : ∀ d, R d) (waiting : ∀ (s : State) (rest : List Instr), P s → P { s with pending := rest })
    (period : ∀ s : State, P s → P s.clockPeriod) {s t : State} (h : P s) (ht : step s = .next t) : P t := by
  unfold Sys2Proof.Machine.step at ht
  split at ht
  · cases ht
    split
    · exact h
    · exact period s h
  · exact k.exec (fun d _ => may d) (waiting s _ h) ht

end Keeping

theorem Changes.keeps {P : State → Prop} (each : ∀ s t, Change R s t → P s → P t) {s t : State} (h : Changes R s t)
    (hs : P s) : P t := by
  induction h with
  | refl => exact hs
  | tail _ c ih => exact each _ _ c ih

/-- Every step keeps a law that every change and power-on keep, and that does not speak of the link, the reset pin or the
commands that wait. -/
theorem step_keeps_of_change {P : State → Prop} (each : ∀ s t, Change True s t → P s → P t)
    (outer : ∀ (s : State) (held : Bool) (lp : LinkPort) (pending : List Instr), P s →
      P { s with resetHeld := held, lp := lp, pending := pending })
    (powerUp : ∀ s : State, P s → P s.powerUp) {s t : State} (h : P s) (ht : step s = .next t) : P t := by
  have kept : KeptOutside (fun _ => True) P :=
    { held := fun s => outer s true s.lp s.pending
      link := fun s lp _ => outer s s.resetHeld lp s.pending
      powerUp := fun _ => powerUp
      restart := fun _ _ s h => outer _ s.powerUp.resetHeld _ s.powerUp.pending (powerUp s h)
      fault := fun s _ _ _ _ => (Changes.recordFault (.refl (a := s))).keeps each
      sense := fun s _ _ _ => (Changes.changeLine (.refl (a := s))).keeps each
      owner := fun c s _ taken other => (requestOwner_changes c (fun _ => trivial) taken other).keeps each
      act := fun c s _ inside => (eventAct_changes c s (fun _ => trivial) inside).keeps each }
  exact kept.step (fun _ => trivial) (fun s rest => outer s s.resetHeld s.lp rest)
    (fun s hs => outer _ s.clockPeriod.resetHeld s.clockPeriod.lp s.clockPeriod.pending
      ((clockPeriod_changes s).keeps each hs)) h ht

end Sys2Proof.Machine
end

section
/-! Every step keeps the laws of the clip bytes, of the log, of the seats and of the part condition: each by the changes
that touch its block. -/

namespace Sys2Proof.Machine

/-! ### The clip bytes -/

theorem State.memoryLaw_of_bytes {s t : State} (bytes : t.cs.bytes = s.cs.bytes) (parity : t.cs.parity = s.cs.parity)
    (h : s.memoryLaw) : t.memoryLaw := by
  unfold State.memoryLaw
  rw [bytes, parity]
  exact h

/-- Bytes written side by side with their marks keep every byte beside its mark. -/
theorem read_writeAll_marks : ∀ (vs : List Byte) (m p : List Host.Cell) (at' : Nat),
    Memory.wf m = true → Memory.wf p = true → (∀ a, Memory.read p a = parityMark (Memory.read m a)) →
    ∀ a, Memory.read (Memory.writeAll p at' (vs.map parityMark)) a =
      parityMark (Memory.read (Memory.writeAll m at' vs) a)
  | [], _, _, _, _, _, marks => marks
  | v :: vs, m, p, at', hm, hp, marks => by
    refine read_writeAll_marks vs _ _ (at' + 1) (Memory.wf_write m at' v hm) (Memory.wf_write p at' _ hp) fun a => ?_
    by_cases here : a = at'
    · subst here
      rw [Memory.read_write_self m 0 a v hm (Nat.zero_le a), Memory.read_write_self p 0 a _ hp (Nat.zero_le a)]
    · rw [Memory.read_write_ne m at' a v here, Memory.read_write_ne p at' a _ here, marks]

theorem State.memoryLaw_storeBytes {s : State} (h : s.memoryLaw) (at' : Nat) (vs : List Byte) :
    (s.storeBytes at' vs).memoryLaw := by
  obtain ⟨bytes, parity, marks⟩ := h
  exact ⟨Memory.wf_writeAll _ _ _ bytes, Memory.wf_writeAll _ _ _ parity,
    read_writeAll_marks vs _ _ at' bytes parity marks⟩

theorem State.bytes_setClip (s : State) (id : Nat) (c : Option Clip) :
    (s.setClip id c).cs.bytes = s.cs.bytes ∧ (s.setClip id c).cs.parity = s.cs.parity := by
  cases id <;> exact ⟨rfl, rfl⟩

theorem State.memoryLaw_of_fixed {s t : State} (h : t.fixed = s.fixed) (law : s.memoryLaw) : t.memoryLaw := by
  simp only [State.fixed, Prod.mk.injEq] at h
  obtain ⟨-, -, ⟨bytes, parity, -⟩, -⟩ := h
  exact State.memoryLaw_of_bytes bytes parity law

theorem Move.keeps_memoryLaw {o s t : State} (m : Move o s t) (h : s.memoryLaw) : t.memoryLaw := by
  cases m with
  | speech m => exact State.memoryLaw_of_fixed m.fixed h
  | append r => exact State.memoryLaw_of_fixed (State.fixed_appendRecord s r) h
  | fault => exact State.memoryLaw_of_fixed (State.fixed_recordFault s _ _ _ _) h
  | lessons | words | attention | waiting | holdEntered | keys => exact h

theorem Change.keeps_memoryLaw {R : Prop} {s t : State} (c : Change R s t) (h : s.memoryLaw) : t.memoryLaw := by
  cases c with
  | move m => exact m.keeps (fun m => m.keeps_memoryLaw) h
  | announce => exact State.memoryLaw_of_fixed (State.fixed_enqueue _ _ _ _ _) h
  | store => exact State.memoryLaw_storeBytes h _ _
  | clip id c d =>
    obtain ⟨bytes, parity⟩ := s.bytes_setClip id (some d)
    exact State.memoryLaw_of_bytes bytes parity h
  | openClip id c =>
    obtain ⟨bytes, parity⟩ := s.bytes_setClip id (some c)
    exact State.memoryLaw_of_bytes bytes parity h
  | drop id c =>
    obtain ⟨bytes, parity⟩ := s.bytes_setClip id none
    exact State.memoryLaw_of_bytes bytes parity h
  | configure c =>
    rw [State.evaluateThreshold_only]
    exact h
  | remove k =>
    unfold State.removeOldest
    rw [State.evaluateThreshold_only]
    exact h
  | volume c => cases c <;> exact h
  | position v => cases v <;> exact h
  | duel | timebase | scanner | settings | verifyUnit | banks | normal | lockdown => exact h

/-- Settles O52: CLIP_DATA alone writes, and it writes each byte with its mark. -/
theorem stepKeepsMemoryLaw : Obligations.StepKeepsMemoryLaw := fun _ _ =>
  step_keeps_of_change (fun _ _ c => c.keeps_memoryLaw) (fun _ _ _ _ h => h) (fun _ h => h)

/-! ### The log -/

theorem wrapSucc_lt (n : Nat) : wrapSucc n < 65536 := Nat.mod_lt _ (by decide)

/-- A record with the counter's number continues the numbering. -/
theorem numbered_append {records : List ResultRecord} {counter : Nat} (h : numbered records counter)
    (few : records.length < 65536) (range : counter < 65536) (r : ResultRecord) :
    numbered (records ++ [{ r with number := some counter }]) (wrapSucc counter) := by
  intro i hi
  simp only [List.length_append, List.length_singleton] at hi ⊢
  rw [wrapSucc]
  by_cases last : i = records.length
  · subst last
    simp
    omega
  · have inside : i < records.length := by omega
    rw [List.getElem?_append_left inside, h i inside]
    congr 1
    omega

/-- Removing the oldest records leaves the numbers of the others. -/
theorem numbered_drop {records : List ResultRecord} {counter : Nat} (h : numbered records counter) (k : Nat) :
    numbered (records.drop k) counter := by
  intro i hi
  rw [List.length_drop] at hi ⊢
  rw [List.getElem?_drop, h (k + i) (by omega)]
  congr 2
  omega

theorem State.logLaw_of_log {s t : State} (rl : t.rl = { s.rl with waiting := t.rl.waiting }) (cfg : t.cfg = s.cfg)
    (h : s.logLaw) : t.logLaw := by
  unfold State.logLaw
  rw [rl, cfg]
  exact h

theorem Move.keeps_logLaw {o s t : State} (m : Move o s t) (h : s.logLaw) : t.logLaw := by
  cases m with
  | speech m =>
    rw [m.only]
    exact h
  | append r room =>
    obtain ⟨few, range, numbers, threshold⟩ := h
    simp only [State.logHasRoom, Config.logRecords, decide_eq_true_eq] at room
    rw [State.appendRecord_only]
    exact ⟨by simpa using room, wrapSucc_lt _, numbered_append numbers (by omega) range r, by simp⟩
  | fault =>
    rw [State.recordFault_only]
    exact h
  | lessons | words | attention | waiting | holdEntered | keys => exact h

theorem Change.keeps_logLaw {R : Prop} {s t : State} (c : Change R s t) (h : s.logLaw) : t.logLaw := by
  obtain ⟨few, range, numbers, threshold⟩ := id h
  cases c with
  | move m => exact m.keeps (fun m => m.keeps_logLaw) h
  | announce route ids =>
    rw [SpeechOnly.enqueue s .announce .announce route ids]
    exact h
  | configure c =>
    rw [State.evaluateThreshold_only]
    exact ⟨few, range, numbers, rfl⟩
  | remove k =>
    unfold State.removeOldest
    rw [State.evaluateThreshold_only]
    exact ⟨by simp only [List.length_drop]; omega, range, numbered_drop numbers k, rfl⟩
  | clip id => cases id <;> exact h
  | openClip id => cases id <;> exact h
  | drop id => cases id <;> exact h
  | volume c => cases c <;> exact h
  | position v => cases v <;> exact h
  | duel | timebase | scanner | settings | verifyUnit | store | banks | normal | lockdown => exact h

theorem State.logLaw_powerUp (s : State) : s.powerUp.logLaw :=
  ⟨Nat.zero_le _, (by decide : (0 : Nat) < 65536), fun i hi => absurd hi (Nat.not_lt_zero i), rfl⟩

/-- Settles O57: a record is appended with the counter's number where there is room, the oldest go first, and the
threshold is evaluated with each. -/
theorem stepKeepsLogLaw : Obligations.StepKeepsLogLaw := fun _ _ =>
  step_keeps_of_change (fun _ _ c => c.keeps_logLaw) (fun _ _ _ _ h => h) (fun s _ => s.logLaw_powerUp)

/-! ### The seats -/

theorem Move.keeps_seatLaw {o s t : State} (m : Move o s t) (h : s.seatLaw) : t.seatLaw := by
  cases m with
  | speech m =>
    rw [m.only]
    exact h
  | append r =>
    rw [State.appendRecord_only]
    exact h
  | fault =>
    rw [State.recordFault_only]
    exact h
  | keys x n =>
    obtain ⟨rows, keys, noKeys, rest⟩ := h.1 x
    refine State.seatLaw_setSeat h ⟨rows, ?_, fun st => ?_, rest⟩
    · simp only [List.length_drop]
      omega
    · simp [noKeys st]
  | lessons | words | attention | waiting | holdEntered => exact h

theorem Change.keeps_seatLaw {R : Prop} {s t : State} (c : Change R s t) (h : s.seatLaw) : t.seatLaw := by
  cases c with
  | move m => exact m.keeps (fun m => m.keeps_seatLaw) h
  | announce route ids =>
    rw [SpeechOnly.enqueue s .announce .announce route ids]
    exact h
  | scanner ks lawful => exact lawful h
  | configure c =>
    rw [State.evaluateThreshold_only]
    exact h
  | remove k =>
    unfold State.removeOldest
    rw [State.evaluateThreshold_only]
    exact h
  | clip id => cases id <;> exact h
  | openClip id => cases id <;> exact h
  | drop id => cases id <;> exact h
  | volume c => cases c <;> exact h
  | position v => cases v <;> exact h
  | duel | timebase | settings | verifyUnit | store | banks | normal | lockdown => exact h

theorem SeatRecord.lawful_resensed (r : SeatRecord) : r.resensed.lawful := by
  simp [SeatRecord.lawful, SeatRecord.resensed, SeatRecord.fresh, Config.keyQueue]

theorem State.seatLaw_powerUp (s : State) : s.powerUp.seatLaw :=
  ⟨fun x => by cases x <;> exact SeatRecord.lawful_resensed _, rfl, rfl⟩

/-- Settles O58: what a command makes of a seat record is lawful, and a cascade only takes keys. -/
theorem stepKeepsSeatLaw : Obligations.StepKeepsSeatLaw := fun _ _ =>
  step_keeps_of_change (fun _ _ c => c.keeps_seatLaw) (fun _ _ _ _ h => h) (fun s _ => s.seatLaw_powerUp)

/-! ### The part condition -/

theorem State.conditionLaw_of_banks {s t : State} (condition : t.fb.condition = s.fb.condition)
    (holdDue : t.fb.holdDue = s.fb.holdDue) (lockdownDue : t.fb.lockdownDue = s.fb.lockdownDue)
    (frozen : t.fb.frozen = s.fb.frozen) (h : s.conditionLaw) : t.conditionLaw := by
  unfold State.conditionLaw
  rw [condition, holdDue, lockdownDue, frozen]
  exact h

/-- An arriving fault leaves the part condition and the entries, or escalates them (R194). -/
theorem State.recordFault_condition (s : State) (c : FaultCode) (k : FaultContext) (d : Nat) (r : Option Bool) :
    let fb := (s.recordFault c k d r).fb
    let on := if s.faultEnabled c && c.disruptive then s.fb.escalate else s.fb
    fb.condition = on.condition ∧ fb.holdDue = on.holdDue ∧ fb.lockdownDue = on.lockdownDue ∧ fb.frozen = on.frozen := by
  have held : ∀ (f : FaultBanks) (b : Bank) (v : FaultBank), (f.setBank b v).condition = f.condition ∧
      (f.setBank b v).holdDue = f.holdDue ∧ (f.setBank b v).lockdownDue = f.lockdownDue ∧
      (f.setBank b v).frozen = f.frozen := fun f b v => by
    cases b <;> exact ⟨rfl, rfl, rfl, rfl⟩
  have escalated : ∀ f g : FaultBanks, f.condition = g.condition ∧ f.holdDue = g.holdDue ∧
      f.lockdownDue = g.lockdownDue ∧ f.frozen = g.frozen → f.escalate.condition = g.escalate.condition ∧
      f.escalate.holdDue = g.escalate.holdDue ∧ f.escalate.lockdownDue = g.escalate.lockdownDue ∧
      f.escalate.frozen = g.escalate.frozen := by
    rintro f g ⟨condition, holdDue, lockdownDue, frozen⟩
    unfold FaultBanks.escalate
    rw [condition]
    split <;> exact ⟨by simp [*], by simp [*], by simp [*], by simp [*]⟩
  unfold State.recordFault
  cases on : s.faultEnabled c
  · exact held _ _ _
  · cases dis : c.disruptive
    · exact held _ _ _
    · exact escalated _ _ (held _ _ _)

theorem FaultBanks.escalate_lawful {f : FaultBanks} (holdDue : f.holdDue = true → f.condition ≠ .normal)
    (lockdownDue : f.lockdownDue = true → f.condition = .lockdown) (frozen : f.frozen = true → f.condition = .lockdown) :
    (f.escalate.holdDue = true → f.escalate.condition ≠ .normal) ∧
    (f.escalate.lockdownDue = true → f.escalate.condition = .lockdown) ∧
    (f.escalate.frozen = true → f.escalate.condition = .lockdown) := by
  unfold FaultBanks.escalate
  split
  · rename_i normal
    rw [normal] at lockdownDue frozen
    exact ⟨fun _ => by simp, fun due => (by cases lockdownDue due), fun fr => (by cases frozen fr)⟩
  · exact ⟨fun _ => by simp, fun _ => rfl, fun _ => rfl⟩
  · exact ⟨holdDue, lockdownDue, frozen⟩

theorem State.conditionLaw_recordFault {s : State} (h : s.conditionLaw) (c : FaultCode) (k : FaultContext) (d : Nat)
    (r : Option Bool) : (s.recordFault c k d r).conditionLaw := by
  obtain ⟨condition, holdDue, lockdownDue, frozen⟩ := s.recordFault_condition c k d r
  obtain ⟨law1, law2, law3⟩ := id h
  unfold State.conditionLaw
  rw [condition, holdDue, lockdownDue, frozen]
  split
  · exact FaultBanks.escalate_lawful law1 law2 law3
  · exact h

theorem Move.keeps_conditionLaw {o s t : State} (m : Move o s t) (h : s.conditionLaw) : t.conditionLaw := by
  cases m with
  | speech m =>
    rw [m.only]
    exact h
  | append r =>
    rw [State.appendRecord_only]
    exact h
  | fault => exact State.conditionLaw_recordFault h _ _ _ _
  | holdEntered => exact ⟨fun due => (by cases due), h.2⟩
  | lessons | words | attention | waiting | keys => exact h

theorem Change.keeps_conditionLaw {R : Prop} {s t : State} (c : Change R s t) (h : s.conditionLaw) : t.conditionLaw := by
  obtain ⟨holdDue, lockdownDue, frozen⟩ := id h
  cases c with
  | move m => exact m.keeps (fun m => m.keeps_conditionLaw) h
  | announce route ids =>
    rw [SpeechOnly.enqueue s .announce .announce route ids]
    exact h
  | banks fb condition due lock froz => exact State.conditionLaw_of_banks condition due lock froz h
  | normal unlocked =>
    exact ⟨fun due => (by cases due), fun due => absurd (lockdownDue due) unlocked,
      fun froz => absurd (frozen froz) unlocked⟩
  | lockdown due => exact ⟨fun due => (by cases due), fun due => (by cases due), fun _ => lockdownDue due⟩
  | configure c =>
    rw [State.evaluateThreshold_only]
    exact h
  | remove k =>
    unfold State.removeOldest
    rw [State.evaluateThreshold_only]
    exact h
  | clip id => cases id <;> exact h
  | openClip id => cases id <;> exact h
  | drop id => cases id <;> exact h
  | volume c => cases c <;> exact h
  | position v => cases v <;> exact h
  | duel | timebase | scanner | settings | verifyUnit | store => exact h

theorem State.conditionLaw_powerUp (s : State) : s.powerUp.conditionLaw :=
  ⟨fun due => (by cases due), fun due => (by cases due), fun due => (by cases due)⟩

/-- Settles O59: a fault escalates by R194, and the entries are withdrawn with the condition they followed from. -/
theorem stepKeepsConditionLaw : Obligations.StepKeepsConditionLaw := fun _ _ =>
  step_keeps_of_change (fun _ _ c => c.keeps_conditionLaw) (fun _ _ _ _ h => h) (fun s _ => s.conditionLaw_powerUp)

end Sys2Proof.Machine
end

section
/-! The directory and the block map: what each update of a clip does to them, and the law of the block map. -/

namespace Sys2Proof.Machine

/-! ### The directory -/

/-- A clip that is not ABSENT has a directory entry. -/
theorem State.clip_range {s : State} {id : Nat} {c : Clip} (h : s.clip id = some c) :
    id ≠ 0 ∧ id ≤ s.cs.directory.length := by
  cases id with
  | zero => cases h
  | succ k =>
    refine ⟨Nat.succ_ne_zero k, Nat.succ_le_of_lt (Nat.lt_of_not_le fun long => ?_)⟩
    simp [State.clip, long] at h

theorem State.clip_setClip {s : State} {id : Nat} (h0 : id ≠ 0) (h : id ≤ s.cs.directory.length) (d : Option Clip)
    (k : Nat) : (s.setClip id d).clip k = if k = id then d else s.clip k := by
  split
  · rename_i e
    rw [e, State.clip_setClip_self s id d h0 h]
  · rename_i ne
    exact State.clip_setClip_ne s id k d ne

theorem State.clip_setClip_present {s : State} {id : Nat} {c : Clip} (h : s.clip id = some c) (d : Option Clip)
    (k : Nat) : (s.setClip id d).clip k = if k = id then d else s.clip k :=
  State.clip_setClip (State.clip_range h).1 (State.clip_range h).2 d k

@[simp] theorem State.length_setClip (s : State) (id : Nat) (d : Option Clip) :
    (s.setClip id d).cs.directory.length = s.cs.directory.length := by
  cases id <;> simp [State.setClip]

@[simp] theorem State.blocks_setClip (s : State) (id : Nat) (d : Option Clip) :
    (s.setClip id d).cs.blocks = s.cs.blocks := by
  cases id <;> rfl

@[simp] theorem State.se_setClip (s : State) (id : Nat) (d : Option Clip) : (s.setClip id d).se = s.se := by
  cases id <;> rfl

theorem State.clip_congr {s t : State} (h : t.cs.directory = s.cs.directory) (id : Nat) : t.clip id = s.clip id := by
  cases id with
  | zero => rfl
  | succ k => simp only [State.clip, h]

theorem State.clip_dropClip {s : State} {id : Nat} {c : Clip} (h : s.clip id = some c) (k : Nat) :
    (s.dropClip id).clip k = if k = id then none else s.clip k := by
  rw [← State.clip_setClip_present h none k]
  exact State.clip_congr rfl k

theorem State.blocks_dropClip (s : State) (id : Nat) : (s.dropClip id).cs.blocks = freeBlocks s.cs.blocks id := by
  cases id <;> rfl

@[simp] theorem State.length_dropClip (s : State) (id : Nat) :
    (s.dropClip id).cs.directory.length = s.cs.directory.length := s.length_setClip id none

@[simp] theorem State.se_dropClip (s : State) (id : Nat) : (s.dropClip id).se = s.se := s.se_setClip id none

/-- What one pin does to the directory. -/
theorem State.clip_pin (s : State) (id k : Nat) :
    (s.pin id).clip k = if k = id then (s.clip k).map fun c => { c with pins := c.pins + 1 } else s.clip k := by
  unfold State.pin
  split
  · rename_i c hc
    rw [State.clip_setClip_present hc]
    split
    · rename_i e
      rw [e, hc]
      rfl
    · rfl
  · rename_i absent
    split
    · rename_i e
      rw [e, absent]
      rfl
    · rfl

/-- What the release of one pin does to the directory (R179). -/
theorem State.clip_unpin (s : State) (id k : Nat) :
    (s.unpin id).clip k = if k = id then (s.clip k).bind fun c =>
      if c.state = .retiring ∧ c.pins ≤ 1 then none else some { c with pins := c.pins - 1 } else s.clip k := by
  unfold State.unpin
  split
  · rename_i c hc
    split
    · rename_i last
      show (s.dropClip id).clip k = _
      rw [State.clip_dropClip hc]
      split
      · rename_i e
        rw [e, hc]
        simp [last]
      · rfl
    · rename_i stays
      rw [State.clip_setClip_present hc]
      split
      · rename_i e
        rw [e, hc]
        simp only [Option.bind_some, if_neg stays]
      · rfl
  · rename_i absent
    split
    · rename_i e
      rw [e, absent]
      rfl
    · rfl

/-! ### The law of the block map -/

/-- The run of a clip and the length it follows from. -/
def Clip.extent (c : Clip) : Nat × Nat × Nat := (c.firstBlock, c.blockCount, c.length)

/-- The law of the block map is about the runs alone. -/
theorem State.blockLaw_of_extents {s t : State} (h : s.blockLaw)
    (directory : t.cs.directory.length = s.cs.directory.length) (blocks : t.cs.blocks = s.cs.blocks)
    (extents : ∀ id, (t.clip id).map Clip.extent = (s.clip id).map Clip.extent) : t.blockLaw := by
  obtain ⟨entries, size, holds, runs⟩ := h
  have same : ∀ id, (∀ c, t.clip id = some c → ∃ d, s.clip id = some d ∧ d.extent = c.extent) ∧
      ∀ d, s.clip id = some d → ∃ c, t.clip id = some c ∧ d.extent = c.extent := fun id => by
    have e := extents id
    cases ht : t.clip id <;> cases hs : s.clip id <;> simp_all
  refine ⟨by rw [directory, entries], by rw [blocks, size], fun b id hb => ?_, fun id c hc => ?_⟩
  · rw [blocks, holds b id hb]
    constructor
    · rintro ⟨d, hd, hold⟩
      obtain ⟨c, hc, e⟩ := (same id).2 d hd
      simp only [Clip.extent, Prod.mk.injEq] at e
      exact ⟨c, hc, by simpa [Clip.holds, e] using hold⟩
    · rintro ⟨c, hc, hold⟩
      obtain ⟨d, hd, e⟩ := (same id).1 c hc
      simp only [Clip.extent, Prod.mk.injEq] at e
      exact ⟨d, hd, by simpa [Clip.holds, e] using hold⟩
  · obtain ⟨d, hd, e⟩ := (same id).1 c hc
    simp only [Clip.extent, Prod.mk.injEq] at e
    obtain ⟨first, count, length⟩ := e
    rw [← first, ← count, ← length]
    exact runs id d hd

theorem State.blockLaw_of_store {s t : State} (h : s.blockLaw) (directory : t.cs.directory = s.cs.directory)
    (blocks : t.cs.blocks = s.cs.blocks) : t.blockLaw :=
  State.blockLaw_of_extents h (by rw [directory]) blocks fun id => by rw [State.clip_congr directory]

/-- A clip that goes frees its run. -/
theorem State.blockLaw_dropClip {s : State} {id : Nat} {c : Clip} (h : s.blockLaw) (present : s.clip id = some c) :
    (s.dropClip id).blockLaw := by
  obtain ⟨entries, size, holds, runs⟩ := h
  refine ⟨by simpa using entries, by simpa [State.blocks_dropClip, freeBlocks] using size, fun b k hb => ?_,
    fun k d hd => ?_⟩
  · have inside : ∃ v, s.cs.blocks[b]? = some v := ⟨_, List.getElem?_eq_getElem (by omega)⟩
    obtain ⟨v, hv⟩ := inside
    have law := holds b k hb
    rw [hv] at law
    rw [State.blocks_dropClip, State.clip_dropClip present, freeBlocks, List.getElem?_map, hv]
    by_cases e : k = id
    · subst e
      by_cases mine : v = some k <;> simp [mine]
    · rw [if_neg e, ← law]
      simp only [Option.map_some, Option.some.injEq]
      split
      · rename_i mine
        simp [mine, Ne.symm e]
      · rfl
  · rw [State.clip_dropClip present] at hd
    split at hd
    · cases hd
    · exact runs k d hd

/-- The run that first-fit finds is free and lies within the store (R173). -/
theorem firstFit_free {blocks : List (Option Nat)} {c b : Nat} (h : firstFit blocks c = some b) :
    b + c ≤ blocks.length ∧ ∀ i, b ≤ i → i < b + c → blocks[i]? = some none := by
  have free := List.find?_some h
  simp only [runFree, Bool.and_eq_true, decide_eq_true_eq, List.all_eq_true] at free
  obtain ⟨fits, free⟩ := free
  refine ⟨fits, fun i low high => ?_⟩
  have here : ((blocks.drop b).take c)[i - b]? = some (blocks[i]'(by omega)) := by
    rw [List.getElem?_take_of_lt (by omega), List.getElem?_drop, Nat.add_sub_cancel' low,
      List.getElem?_eq_getElem (by omega)]
  have := free _ (List.mem_of_getElem? here)
  rw [List.getElem?_eq_getElem (by omega)]
  simpa using this

/-- A new clip holds exactly the run it was given. -/
theorem State.blockLaw_openRun {s : State} {id : Nat} {c : Clip} (h : s.blockLaw) (fits : c.fits s id) :
    (s.openRun id c).blockLaw := by
  obtain ⟨entries, size, holds, runs⟩ := h
  obtain ⟨absent, low, high, fit, count, length, -, -⟩ := fits
  obtain ⟨within, free⟩ := firstFit_free fit
  rw [size] at within
  have clip : ∀ k, (s.openRun id c).clip k = if k = id then some c else s.clip k := fun k => by
    rw [← State.clip_setClip (s := s) (by omega) (by rw [entries]; exact high) (some c) k]
    exact State.clip_congr rfl k
  have blocks : (s.openRun id c).cs.blocks = holdBlocks s.cs.blocks id c.firstBlock c.blockCount := by
    rw [← s.blocks_setClip id (some c)]
    rfl
  refine ⟨(s.length_setClip id (some c)).trans entries, by simpa [blocks, holdBlocks] using size, fun b k hb => ?_,
    fun k d hd => ?_⟩
  · have law := holds b k hb
    rw [clip, blocks, holdBlocks, List.getElem?_mapIdx]
    by_cases inside : c.holds b
    · have := free b inside.1 inside.2
      rw [this] at law ⊢
      simp only [Option.map_some, if_pos (show c.firstBlock ≤ b ∧ b < c.firstBlock + c.blockCount from inside),
        Option.some.injEq]
      by_cases e : k = id
      · subst e
        simp [inside]
      · rw [if_neg e, ← law]
        simp [Ne.symm e]
    · have unchanged : (s.cs.blocks[b]?).map (fun v => if c.firstBlock ≤ b ∧ b < c.firstBlock + c.blockCount then some id
          else v) = s.cs.blocks[b]? := by
        simp only [if_neg (show ¬ (c.firstBlock ≤ b ∧ b < c.firstBlock + c.blockCount) from inside), Option.map_id']
      rw [unchanged, law]
      by_cases e : k = id
      · subst e
        simp [absent, inside]
      · simp [e]
  · rw [clip] at hd
    split at hd
    · cases hd
      exact ⟨count, within, length⟩
    · exact runs k d hd

theorem State.blockLaw_pin {s : State} (h : s.blockLaw) (id : Nat) : (s.pin id).blockLaw := by
  refine State.blockLaw_of_extents h ?_ ?_ fun k => ?_
  · unfold State.pin
    split <;> simp
  · unfold State.pin
    split <;> simp
  · rw [State.clip_pin]
    split
    · rw [Option.map_map]
      rfl
    · rfl

theorem State.blockLaw_unpin {s : State} (h : s.blockLaw) (id : Nat) : (s.unpin id).blockLaw := by
  unfold State.unpin
  split
  · rename_i c hc
    split
    · exact State.blockLaw_of_store (State.blockLaw_dropClip h hc) rfl rfl
    · refine State.blockLaw_of_extents h (by simp) (by simp) fun k => ?_
      rw [State.clip_setClip_present hc]
      split
      · rename_i e
        rw [e, hc]
        rfl
      · rfl
  · exact h

theorem State.blockLaw_pinAll : ∀ (clips : List Nat) {s : State}, s.blockLaw → (s.pinAll clips).blockLaw
  | [], _, h => h
  | c :: cs, _, h => State.blockLaw_pinAll cs (State.blockLaw_pin h c)

theorem State.blockLaw_unpinAll : ∀ (clips : List Nat) {s : State}, s.blockLaw → (s.unpinAll clips).blockLaw
  | [], _, h => h
  | c :: cs, _, h => State.blockLaw_unpinAll cs (State.blockLaw_unpin h c)

theorem State.blockLaw_enqueue {s : State} (h : s.blockLaw) (r : Requester) (cls : SpeechClass) (route : BitVec 3)
    (clips : List Nat) : (s.enqueue r cls route clips).2.blockLaw :=
  State.blockLaw_of_store (State.blockLaw_pinAll clips h) (by cases r <;> rfl) (by cases r <;> rfl)

theorem State.blockLaw_makeRoom {s t : State} {x : Seat} {cls : SpeechClass} (h : s.blockLaw)
    (room : s.makeRoom x cls = some t) : t.blockLaw := by
  unfold State.makeRoom at room
  dsimp only at room
  split at room
  · cases room
  · split at room
    · cases room
      exact State.blockLaw_unpinAll _ (State.blockLaw_of_store h (by cases x <;> rfl) (by cases x <;> rfl))
    · cases room
      exact h

theorem SpeechMove.keeps_blockLaw {s t : State} (m : SpeechMove s t) (h : s.blockLaw) : t.blockLaw := by
  cases m with
  | note => exact State.blockLaw_of_store h rfl rfl
  | acceptSeat accepted =>
    unfold State.acceptSeat at accepted
    split at accepted
    · split at accepted
      · rename_i room
        cases accepted
        exact State.blockLaw_enqueue (State.blockLaw_makeRoom h room) _ _ _ _
      · cases accepted
    · cases accepted
  | acceptDuel accepted =>
    unfold State.acceptDuel at accepted
    split at accepted
    · cases accepted
      exact State.blockLaw_enqueue h _ _ _ _
    · cases accepted
  | cancel p =>
    unfold State.cancel
    dsimp only
    have released : ∀ (se : Speech) (l : List Nat), (({ s with se := se } : State).unpinAll l).blockLaw := fun se l =>
      State.blockLaw_unpinAll l (State.blockLaw_of_store h rfl rfl)
    split
    · exact State.blockLaw_of_store (released _ _) rfl rfl
    · exact released _ _
  | start v u =>
    refine State.blockLaw_of_store h ?_ ?_ <;>
    · unfold State.startUtterance
      cases hr : u.requester <;> cases v <;> rfl
  | free v =>
    unfold State.freeVoice
    split
    · exact State.blockLaw_unpinAll _ (State.blockLaw_of_store h (by cases v <;> rfl) (by cases v <;> rfl))
    · exact h

theorem Move.keeps_blockLaw {o s t : State} (m : Move o s t) (h : s.blockLaw) : t.blockLaw := by
  cases m with
  | speech m => exact m.keeps_blockLaw h
  | append r => exact State.blockLaw_of_store h (by simp) (by simp)
  | fault => exact State.blockLaw_of_store h (by simp) (by simp)
  | lessons | words | attention | waiting | holdEntered | keys => exact h

theorem Change.keeps_blockLaw {R : Prop} {s t : State} (c : Change R s t) (h : s.blockLaw) : t.blockLaw := by
  cases c with
  | move m => exact m.keeps (fun m => m.keeps_blockLaw) h
  | announce => exact State.blockLaw_enqueue h _ _ _ _
  | clip id c d present becomes =>
    obtain ⟨first, count, length, -⟩ := becomes
    refine State.blockLaw_of_extents h (by simp) (by simp) fun k => ?_
    rw [State.clip_setClip_present present]
    split
    · rename_i e
      simp [e, present, Clip.extent, first, count, length]
    · rfl
  | openClip id c fits => exact State.blockLaw_openRun h fits
  | drop id c present => exact State.blockLaw_dropClip h present
  | configure c =>
    rw [State.evaluateThreshold_only]
    exact h
  | remove k =>
    unfold State.removeOldest
    rw [State.evaluateThreshold_only]
    exact h
  | volume c => cases c <;> exact h
  | position v => cases v <;> exact h
  | duel | timebase | scanner | settings | verifyUnit | store | banks | normal | lockdown => exact h

theorem State.clip_of_allAbsent {s : State} {n : Nat} (h : s.cs.directory = List.replicate n none) (id : Nat) :
    s.clip id = none := by
  cases id with
  | zero => rfl
  | succ k =>
    show s.cs.directory.getD k none = none
    rw [h, List.getD_eq_getElem?_getD, List.getElem?_replicate]
    split <;> rfl

theorem State.blockLaw_of_empty {s : State} (directory : s.cs.directory = List.replicate Config.clips none)
    (blocks : s.cs.blocks = List.replicate Config.blocks none) : s.blockLaw := by
  refine ⟨by rw [directory, List.length_replicate], by rw [blocks, List.length_replicate], fun b id hb => ?_,
    fun id c hc => ?_⟩
  · rw [State.clip_of_allAbsent directory, blocks]
    simp [List.getElem?_replicate]
  · rw [State.clip_of_allAbsent directory] at hc
    cases hc

/-- Settles O53: OPEN_CLIP gives a free run to an ABSENT id, and a clip's run is freed with its entry. -/
theorem stepKeepsBlockLaw : Obligations.StepKeepsBlockLaw := fun _ _ =>
  step_keeps_of_change (fun _ _ c => c.keeps_blockLaw) (fun _ _ _ _ h => h)
    (fun _ _ => State.blockLaw_of_empty rfl rfl)

end Sys2Proof.Machine
end

section
/-! The pins: each is the reference of an utterance that waits or plays. -/

namespace Sys2Proof.Machine

/-! ### References -/

/-- How often some utterances name a clip. -/
def namings (us : List Utterance) (id : Nat) : Nat := (us.flatMap (·.clips)).count id

@[simp] theorem namings_nil (id : Nat) : namings [] id = 0 := rfl

@[simp] theorem namings_cons (u : Utterance) (us : List Utterance) (id : Nat) :
    namings (u :: us) id = u.clips.count id + namings us id := by
  simp [namings]

@[simp] theorem namings_append (us ws : List Utterance) (id : Nat) :
    namings (us ++ ws) id = namings us id + namings ws id := by
  simp [namings]

/-- What leaves a list and what stays name together what the list named. -/
theorem namings_filter (us : List Utterance) (p : Utterance → Bool) (id : Nat) :
    namings us id = namings (us.filter p) id + namings (us.filter (!p ·)) id := by
  induction us with
  | nil => rfl
  | cons u us ih =>
    cases hp : p u <;> simp [hp, ih] <;> omega

theorem namings_erase {us : List Utterance} {u : Utterance} (h : u ∈ us) (id : Nat) :
    namings us id = u.clips.count id + namings (us.erase u) id := by
  rw [← namings_cons]
  exact ((List.perm_cons_erase h).flatMap_right _).count_eq id

/-- What one voice names. -/
def voiceNamings (p : Option Playing) (id : Nat) : Nat := namings (p.toList.map (·.utterance)) id

@[simp] theorem voiceNamings_none (id : Nat) : voiceNamings none id = 0 := rfl

@[simp] theorem voiceNamings_some (p : Playing) (id : Nat) : voiceNamings (some p) id = p.utterance.clips.count id := by
  simp [voiceNamings]

theorem State.references_eq (s : State) (id : Nat) : s.references id =
    voiceNamings s.se.v0 id + voiceNamings s.se.v1 id + namings s.se.seatQueue.a id + namings s.se.seatQueue.b id +
      namings s.se.duelQueue id + namings s.se.announceQueue id := by
  show namings (s.allPlaying ++ s.allWaiting) id = _
  simp only [State.allPlaying, State.allWaiting, List.map_append, namings_append, voiceNamings]
  omega

theorem State.references_congr {s t : State} (h : t.se = s.se) (id : Nat) : t.references id = s.references id := by
  simp only [State.references_eq, h]

/-- Another queue changes the references by its own. -/
theorem State.references_setSpeechQueue (s : State) (r : Requester) (q : List Utterance) (id : Nat) :
    (s.setSpeechQueue r q).references id + namings (s.speechQueue r) id = s.references id + namings q id := by
  simp only [State.references_eq]
  rcases r with (_ | _) | _ | _ <;> simp only [State.setSpeechQueue, State.speechQueue, Pair.get_a, Pair.get_b,
    Pair.set_a, Pair.set_b] <;> omega

/-- Another utterance on a voice changes the references by its own. -/
theorem State.references_setVoice (s : State) (v : Voice) (p : Option Playing) (id : Nat) :
    (s.setVoice v p).references id + voiceNamings (s.voice v) id = s.references id + voiceNamings p id := by
  simp only [State.references_eq]
  cases v <;> simp only [State.setVoice, State.voice] <;> omega

theorem State.speechQueue_setSpeechQueue (s : State) (r k : Requester) (q : List Utterance) :
    (s.setSpeechQueue r q).speechQueue k = if k = r then q else s.speechQueue k := by
  rcases r with (_ | _) | _ | _ <;> rcases k with (_ | _) | _ | _ <;> rfl

theorem State.speechQueue_congr {s t : State} (h : t.se = s.se) (r : Requester) : t.speechQueue r = s.speechQueue r := by
  cases r <;> simp only [State.speechQueue, h]

@[simp] theorem State.speechQueue_setVoice (s : State) (v : Voice) (p : Option Playing) (r : Requester) :
    (s.setVoice v p).speechQueue r = s.speechQueue r := by
  cases v <;> cases r <;> rfl

/-! ### Pins against a count -/

/-- A directory entry fits the number of references to its clip. -/
def pinFits (d : Option Clip) (count : Nat) : Prop :=
  match d with
  | none => count = 0
  | some c => c.pins = count ∧
      ((c.state = .loading ∨ c.state = .verifying) → c.pins = 0) ∧ (c.state = .retiring → 0 < c.pins)

/-- The pins of each clip are a given count, and its state fits them. -/
def State.pinned (s : State) (count : Nat → Nat) : Prop := ∀ id, pinFits (s.clip id) (count id)

theorem State.pinned_congr {s t : State} {f g : Nat → Nat} (h : s.pinned f) (directory : t.cs.directory = s.cs.directory)
    (count : ∀ id, g id = f id) : t.pinned g := by
  intro id
  rw [State.clip_congr directory, count]
  exact h id

/-- One more reference to a READY clip takes one pin. -/
theorem State.pinned_pin {s : State} {f : Nat → Nat} {id : Nat} (h : s.pinned f) (ready : s.clipReady id = true) :
    (s.pin id).pinned fun k => f k + if k = id then 1 else 0 := by
  intro k
  have law := h k
  rw [State.clip_pin]
  by_cases e : k = id
  · subst e
    unfold State.clipReady at ready
    cases hc : s.clip k with
    | none => simp [hc] at ready
    | some c =>
      simp only [hc, beq_iff_eq, pinFits] at ready law ⊢
      simp [ready, law.1]
  · simpa [e] using law

/-- One reference less releases one pin; the last one ends a RETIRING clip (R179). -/
theorem State.pinned_unpin {s : State} {f : Nat → Nat} {id : Nat} (h : s.pinned fun k => f k + if k = id then 1 else 0) :
    (s.unpin id).pinned f := by
  intro k
  have law := h k
  rw [State.clip_unpin]
  by_cases e : k = id
  · subst e
    cases hc : s.clip k with
    | none => simp [hc, pinFits] at law
    | some c =>
      simp only [hc, if_true, pinFits] at law
      obtain ⟨pins, loading, retiring⟩ := law
      simp only [Option.bind_some]
      by_cases last : c.state = .retiring ∧ c.pins ≤ 1
      · rw [if_pos last]
        show f k = 0
        omega
      · rw [if_neg last]
        refine ⟨by simp only; omega, fun st => ?_, fun st => ?_⟩
        · have := loading st
          omega
        · simp only at st ⊢
          have : ¬ c.pins ≤ 1 := fun few => last ⟨st, few⟩
          omega
  · simpa [e] using law

theorem State.pinned_pinAll : ∀ (clips : List Nat) {s : State} {f : Nat → Nat}, s.pinned f →
    clips.all s.clipReady = true → (s.pinAll clips).pinned fun k => f k + clips.count k
  | [], _, _, h, _ => h
  | c :: cs, s, f, h, ready => by
    simp only [List.all_cons, Bool.and_eq_true] at ready
    obtain ⟨here, rest⟩ := ready
    have still : cs.all (s.pin c).clipReady = true := by
      rw [List.all_eq_true] at rest ⊢
      exact fun k hk => (clipReady_pin s c k).trans (rest k hk)
    refine State.pinned_congr (State.pinned_pinAll cs (State.pinned_pin h here) still) rfl fun k => ?_
    rw [List.count_cons]
    simp only [beq_iff_eq, eq_comm (a := c)]
    omega

theorem State.pinned_unpinAll : ∀ (clips : List Nat) {s : State} {f : Nat → Nat},
    (s.pinned fun k => f k + clips.count k) → (s.unpinAll clips).pinned f
  | [], _, _, h => h
  | c :: cs, s, f, h => by
    refine State.pinned_unpinAll cs (State.pinned_unpin (State.pinned_congr h rfl fun k => ?_))
    rw [List.count_cons]
    simp only [beq_iff_eq, eq_comm (a := c)]
    omega

/-! ### The law of the pins -/

/-- The law is about the directory and the utterances that wait or play. -/
theorem State.pinLaw_of_speaking {s t : State} (h : s.pinLaw) (directory : t.cs.directory = s.cs.directory)
    (count : ∀ id, t.references id = s.references id) (queue : ∀ r, t.speechQueue r = s.speechQueue r) : t.pinLaw := by
  obtain ⟨entries, pins, own⟩ := h
  refine ⟨by rw [directory, entries], State.pinned_congr pins directory count, fun r => ?_⟩
  rw [queue]
  exact own r

theorem State.pinLaw_congr {s t : State} (h : s.pinLaw) (directory : t.cs.directory = s.cs.directory)
    (se : t.se = s.se) : t.pinLaw :=
  State.pinLaw_of_speaking h directory (State.references_congr se) (State.speechQueue_congr se)

theorem State.pinLaw_note {s : State} (h : s.pinLaw) (k : Nat) (st : EndStatus) : (s.noteAnnouncement k st).pinLaw :=
  State.pinLaw_of_speaking h rfl (fun id => by rw [State.references_eq, State.references_eq]; rfl)
    fun r => by cases r <;> rfl

theorem State.directory_unpinAll (s : State) (clips : List Nat) :
    (s.unpinAll clips).cs.directory.length = s.cs.directory.length := by
  have fixed := State.fixed_unpinAll clips s
  simp only [State.fixed, Prod.mk.injEq] at fixed
  obtain ⟨-, -, ⟨-, -, -, length, -⟩, -⟩ := fixed
  exact length

theorem State.directory_pinAll (s : State) (clips : List Nat) :
    (s.pinAll clips).cs.directory.length = s.cs.directory.length := by
  have fixed := State.fixed_pinAll clips s
  simp only [State.fixed, Prod.mk.injEq] at fixed
  obtain ⟨-, -, ⟨-, -, -, length, -⟩, -⟩ := fixed
  exact length

/-- Utterances that leave SE release their pins: `u` is the part with SE already without them. -/
theorem State.pinLaw_unpinAll {s u : State} {clips : List Nat} (h : s.pinLaw)
    (directory : u.cs.directory = s.cs.directory) (count : ∀ id, s.references id = u.references id + clips.count id)
    (own : ∀ r, ∀ w ∈ u.speechQueue r, w.requester = r) : (u.unpinAll clips).pinLaw := by
  obtain ⟨entries, pins, -⟩ := h
  refine ⟨by rw [State.directory_unpinAll, directory, entries], ?_, fun r => ?_⟩
  · have : (u.unpinAll clips).pinned u.references :=
      State.pinned_unpinAll clips (State.pinned_congr pins directory fun id => (count id).symm)
    exact State.pinned_congr this rfl (State.references_congr (unpinAll_se clips u))
  · rw [State.speechQueue_congr (unpinAll_se clips u)]
    exact own r

/-- The utterance that SE makes of an acceptance (R148). -/
def State.utteranceOf (s : State) (r : Requester) (cls : SpeechClass) (route : BitVec 3) (clips : List Nat) : Utterance :=
  { handle := s.freeHandle, requester := r, cls := cls, route := route, clips := clips }

theorem State.speechQueue_enqueue (s : State) (r : Requester) (cls : SpeechClass) (route : BitVec 3) (clips : List Nat)
    (k : Requester) : (s.enqueue r cls route clips).2.speechQueue k =
      if k = r then s.speechQueue r ++ [s.utteranceOf r cls route clips] else s.speechQueue k := by
  have same : (s.enqueue r cls route clips).2.speechQueue k = ((s.pinAll clips).setSpeechQueue r
      ((s.pinAll clips).speechQueue r ++ [s.utteranceOf r cls route clips])).speechQueue k := by
    cases k <;> rfl
  rw [same, State.speechQueue_setSpeechQueue, State.speechQueue_congr (pinAll_se clips s),
    State.speechQueue_congr (pinAll_se clips s)]

/-- An accepted utterance adds its references. -/
theorem State.references_enqueue (s : State) (r : Requester) (cls : SpeechClass) (route : BitVec 3) (clips : List Nat)
    (id : Nat) : (s.enqueue r cls route clips).2.references id = s.references id + clips.count id := by
  have count := State.references_setSpeechQueue (s.pinAll clips) r
    ((s.pinAll clips).speechQueue r ++ [s.utteranceOf r cls route clips]) id
  rw [State.references_congr (pinAll_se clips s), namings_append] at count
  have same : (s.enqueue r cls route clips).2.references id = ((s.pinAll clips).setSpeechQueue r
      ((s.pinAll clips).speechQueue r ++ [s.utteranceOf r cls route clips])).references id := by
    rw [State.references_eq, State.references_eq]
    rfl
  simp only [namings_cons, namings_nil, State.utteranceOf] at count same
  omega

theorem State.pinLaw_enqueue {s : State} (h : s.pinLaw) (r : Requester) (cls : SpeechClass) (route : BitVec 3)
    {clips : List Nat} (ready : clips.all s.clipReady = true) : (s.enqueue r cls route clips).2.pinLaw := by
  obtain ⟨entries, pins, own⟩ := h
  have directory : (s.enqueue r cls route clips).2.cs.directory = (s.pinAll clips).cs.directory := by
    cases r <;> rfl
  refine ⟨by rw [directory, State.directory_pinAll, entries], ?_, fun k w hw => ?_⟩
  · exact State.pinned_congr (State.pinned_pinAll clips pins ready) directory (s.references_enqueue r cls route clips)
  · rw [State.speechQueue_enqueue] at hw
    split at hw
    · rename_i e
      simp only [List.mem_append, List.mem_singleton] at hw
      obtain old | rfl := hw
      · exact (own r w old).trans e.symm
      · exact e.symm
    · exact own k w hw

/-! ### Room, heads and cancellation -/

/-- Room is there, or one entry of the queue goes (R149). -/
theorem State.makeRoom_cases {s t : State} {x : Seat} {cls : SpeechClass} (h : s.makeRoom x cls = some t) :
    (roomFor cls (s.speechQueue (.seat x))).victim (s.speechQueue (.seat x)) = none ∧ t = s ∨
    ∃ u, (roomFor cls (s.speechQueue (.seat x))).victim (s.speechQueue (.seat x)) = some u ∧
      t = (s.setSpeechQueue (.seat x) ((s.speechQueue (.seat x)).erase u)).unpinAll u.clips := by
  unfold State.makeRoom at h
  dsimp only at h
  split at h
  · cases h
  · split at h
    · rename_i u victim
      cases h
      exact .inr ⟨u, victim, rfl⟩
    · rename_i victim
      cases h
      exact .inl ⟨victim, rfl⟩

theorem Room.victim_mem {room : Room} {q : List Utterance} {u : Utterance} (h : room.victim q = some u) : u ∈ q := by
  cases room with
  | free | full => cases h
  | evictEcho | evictDisposable => exact List.mem_of_find?_eq_some h

theorem State.pinLaw_makeRoom {s t : State} {x : Seat} {cls : SpeechClass} (h : s.pinLaw)
    (room : s.makeRoom x cls = some t) : t.pinLaw := by
  obtain ⟨-, rfl⟩ | ⟨u, victim, rfl⟩ := State.makeRoom_cases room
  · exact h
  · refine State.pinLaw_unpinAll h (by cases x <;> rfl) (fun id => ?_) fun r w hw => ?_
    · have count := s.references_setSpeechQueue (.seat x) ((s.speechQueue (.seat x)).erase u) id
      have erased := namings_erase (Room.victim_mem victim) id
      omega
    · rw [State.speechQueue_setSpeechQueue] at hw
      split at hw
      · rename_i e
        subst e
        exact h.2.2 _ w (List.mem_of_mem_erase hw)
      · exact h.2.2 r w hw

/-- The release of a pin makes no clip READY and takes no READY clip away. -/
theorem State.clipReady_unpin (s : State) (id k : Nat) : (s.unpin id).clipReady k = s.clipReady k := by
  have clip := s.clip_unpin id k
  by_cases e : k = id
  · rw [if_pos e] at clip
    cases hc : s.clip k with
    | none => simp [State.clipReady, clip, hc]
    | some c =>
      rw [hc, Option.bind_some] at clip
      by_cases last : c.state = .retiring ∧ c.pins ≤ 1
      · simp [State.clipReady, clip, hc, last]
      · rw [if_neg last] at clip
        simp [State.clipReady, clip, hc]
  · rw [if_neg e] at clip
    simp only [State.clipReady, clip]

theorem State.clipReady_unpinAll : ∀ (clips : List Nat) (s : State) (k : Nat),
    (s.unpinAll clips).clipReady k = s.clipReady k
  | [], _, _ => rfl
  | c :: cs, s, k => (State.clipReady_unpinAll cs (s.unpin c) k).trans (s.clipReady_unpin c k)

theorem State.clipReady_makeRoom {s t : State} {x : Seat} {cls : SpeechClass} (room : s.makeRoom x cls = some t)
    (k : Nat) : t.clipReady k = s.clipReady k := by
  obtain ⟨-, rfl⟩ | ⟨u, victim, rfl⟩ := State.makeRoom_cases room
  · rfl
  · rw [State.clipReady_unpinAll]
    cases x <;> rfl

theorem State.mem_heads {s : State} {u : Utterance} (h : u ∈ s.heads) : ∃ r, (s.speechQueue r).head? = some u := by
  simp only [State.heads, List.mem_append] at h
  have first : ∀ q : List Utterance, u ∈ q.take 1 → q.head? = some u := fun q hq => by
    cases q with
    | nil => cases hq
    | cons w q => simpa [eq_comm] using hq
  obtain ((a | b) | d) | n := h
  · exact ⟨.seat .a, first _ a⟩
  · exact ⟨.seat .b, first _ b⟩
  · exact ⟨.duel, first _ d⟩
  · exact ⟨.announce, first _ n⟩

/-- The best head is one of the heads that may start. -/
theorem State.foldl_betterHead_mem (s : State) : ∀ (us : List Utterance) (best : Option Utterance) {u : Utterance},
    us.foldl s.betterHead best = some u → best = some u ∨ u ∈ us
  | [], _, _, h => .inl h
  | w :: us, best, u, h => by
    obtain better | inside := State.foldl_betterHead_mem s us _ h
    · unfold State.betterHead at better
      split at better
      · cases better
        exact .inr (List.mem_cons_self ..)
      · split at better
        · cases better
          exact .inr (List.mem_cons_self ..)
        · exact .inl better
    · exact .inr (List.mem_cons_of_mem _ inside)

theorem State.bestHead_spec {s : State} {v : Voice} {u : Utterance} (h : s.bestHead v = some u) :
    u ∈ s.heads ∧ s.eligible v u = true := by
  obtain none | inside := s.foldl_betterHead_mem _ _ h
  · cases none
  · exact List.mem_filter.1 inside

/-- The best head stands at the head of its requester's queue. -/
theorem State.bestHead_queue {s : State} {v : Voice} {u : Utterance} (own : ∀ r, ∀ w ∈ s.speechQueue r, w.requester = r)
    (h : s.bestHead v = some u) : s.speechQueue u.requester = u :: (s.speechQueue u.requester).drop 1 := by
  obtain ⟨r, head⟩ := State.mem_heads (State.bestHead_spec h).1
  have mine : u.requester = r := own r u (List.mem_of_mem_head? head)
  rw [mine]
  cases hq : s.speechQueue r with
  | nil => simp [hq] at head
  | cons w q => simpa [hq] using head

theorem State.voiceToFill_free {s : State} {v : Voice} (h : s.voiceToFill = some v) : s.voice v = none := by
  unfold State.voiceToFill at h
  split at h
  · rename_i free
    cases h
    exact Option.isNone_iff_eq_none.1 free
  · split at h
    · rename_i free
      cases h
      exact Option.isNone_iff_eq_none.1 free
    · cases h

/-- A started utterance's queue and voice; the start order is the only thing further that changes. -/
theorem State.startUtterance_eq (s : State) (v : Voice) (u : Utterance) :
    s.startUtterance v u =
      let t := (s.setSpeechQueue u.requester ((s.speechQueue u.requester).drop 1)).setVoice v
        (some { utterance := u, index := 0, sample := 0, phase := 0 })
      { t with se := { t.se with startOrder := if u.requester = .announce then s.se.startOrder
        else s.se.startOrder.erase u.requester ++ [u.requester] } } := by
  unfold State.startUtterance
  rcases hr : u.requester with (_ | _) | _ | _ <;> cases v <;> rfl

theorem State.pinLaw_startUtterance {s : State} {v : Voice} {u : Utterance} (h : s.pinLaw)
    (fill : s.voiceToFill = some v) (best : s.bestHead v = some u) : (s.startUtterance v u).pinLaw := by
  obtain ⟨entries, pins, own⟩ := h
  have queue := State.bestHead_queue own best
  rw [State.startUtterance_eq]
  dsimp only
  refine ⟨?_, State.pinned_congr pins ?_ fun id => ?_, fun r w hw => ?_⟩
  · rw [← entries]
    cases hr : u.requester <;> cases v <;> rfl
  · cases hr : u.requester <;> cases v <;> rfl
  · have waits := s.references_setSpeechQueue u.requester ((s.speechQueue u.requester).drop 1) id
    have plays := (s.setSpeechQueue u.requester ((s.speechQueue u.requester).drop 1)).references_setVoice v
      (some { utterance := u, index := 0, sample := 0, phase := 0 }) id
    have free : (s.setSpeechQueue u.requester ((s.speechQueue u.requester).drop 1)).voice v = none := by
      rw [← State.voiceToFill_free fill]
      cases hr : u.requester <;> cases v <;> rfl
    have head : namings (s.speechQueue u.requester) id =
        u.clips.count id + namings ((s.speechQueue u.requester).drop 1) id := by
      rw [← namings_cons, ← queue]
    rw [free] at plays
    simp only [voiceNamings_none, voiceNamings_some] at plays
    simp only [State.references_eq] at waits plays ⊢
    omega
  · have same : w ∈ (s.setSpeechQueue u.requester ((s.speechQueue u.requester).drop 1)).speechQueue r := by
      rw [← State.speechQueue_setVoice _ v (some { utterance := u, index := 0, sample := 0, phase := 0 })]
      cases r <;> exact hw
    rw [State.speechQueue_setSpeechQueue] at same
    split at same
    · rename_i e
      rw [← e] at same
      exact own r w (List.mem_of_mem_drop same)
    · exact own r w same

theorem State.pinLaw_freeVoice {s : State} (h : s.pinLaw) (v : Voice) : (s.freeVoice v).pinLaw := by
  unfold State.freeVoice
  split
  · rename_i p playing
    refine State.pinLaw_unpinAll h (by cases v <;> rfl) (fun id => ?_) fun r w hw => ?_
    · have count := s.references_setVoice v none id
      rw [playing] at count
      simp only [voiceNamings_none, voiceNamings_some] at count
      omega
    · rw [State.speechQueue_setVoice] at hw
      exact h.2.2 r w hw
  · exact h

/-- SE without the utterances a cancellation names (R159). -/
def Speech.without (se : Speech) (p : Utterance → Bool) : Speech :=
  { se with
    seatQueue := ⟨se.seatQueue.a.filter (!p ·), se.seatQueue.b.filter (!p ·)⟩
    duelQueue := se.duelQueue.filter (!p ·)
    announceQueue := se.announceQueue.filter (!p ·)
    v0 := keepPlaying p se.v0
    v1 := keepPlaying p se.v1 }

/-- A cancellation: the utterances go, their pins are released, an announcement's end is noted. -/
theorem State.cancel_eq (s : State) (p : Utterance → Bool) : s.cancel p =
    match lastAnnounced (s.named p) with
    | some h => (({ s with se := s.se.without p } : State).unpinAll ((s.named p).flatMap (·.clips))).noteAnnouncement h
        .cancelled
    | none => ({ s with se := s.se.without p } : State).unpinAll ((s.named p).flatMap (·.clips)) := rfl

theorem voiceNamings_keepPlaying (p : Utterance → Bool) (v : Option Playing) (id : Nat) :
    voiceNamings v id = namings ((v.toList.map (·.utterance)).filter p) id + voiceNamings (keepPlaying p v) id := by
  cases v with
  | none => rfl
  | some q => cases hp : p q.utterance <;> simp [keepPlaying, hp]

/-- What is named and what stays have together the references there were. -/
theorem State.references_without (s : State) (p : Utterance → Bool) (id : Nat) :
    s.references id =
      ({ s with se := s.se.without p } : State).references id + ((s.named p).flatMap (·.clips)).count id := by
  have named : ((s.named p).flatMap (·.clips)).count id = namings (s.named p) id := rfl
  rw [named]
  simp only [State.references_eq, Speech.without, State.named, State.allPlaying, State.allWaiting, List.map_append,
    List.filter_append, namings_append]
  have v0 := voiceNamings_keepPlaying p s.se.v0 id
  have v1 := voiceNamings_keepPlaying p s.se.v1 id
  have a := namings_filter s.se.seatQueue.a p id
  have b := namings_filter s.se.seatQueue.b p id
  have d := namings_filter s.se.duelQueue p id
  have n := namings_filter s.se.announceQueue p id
  omega

theorem State.pinLaw_cancel {s : State} (h : s.pinLaw) (p : Utterance → Bool) : (s.cancel p).pinLaw := by
  have released : (({ s with se := s.se.without p } : State).unpinAll ((s.named p).flatMap (·.clips))).pinLaw := by
    refine State.pinLaw_unpinAll h rfl (s.references_without p) fun r w hw => h.2.2 r w ?_
    rcases r with (_ | _) | _ | _ <;> exact List.mem_of_mem_filter hw
  rw [State.cancel_eq]
  split
  · exact State.pinLaw_note released _ _
  · exact released

/-! ### Every change -/

theorem SpeechMove.keeps_pinLaw {s t : State} (m : SpeechMove s t) (h : s.pinLaw) : t.pinLaw := by
  cases m with
  | note => exact State.pinLaw_note h _ _
  | acceptSeat accepted =>
    unfold State.acceptSeat at accepted
    split at accepted
    · rename_i ready
      split at accepted
      · rename_i made room
        cases accepted
        refine State.pinLaw_enqueue (State.pinLaw_makeRoom h room) _ _ _ ?_
        rw [List.all_eq_true] at ready ⊢
        exact fun k hk => (State.clipReady_makeRoom room k).trans (ready k hk)
      · cases accepted
    · cases accepted
  | acceptDuel accepted =>
    unfold State.acceptDuel at accepted
    split at accepted
    · rename_i ready
      cases accepted
      exact State.pinLaw_enqueue h _ _ _ ready
    · cases accepted
  | cancel p => exact State.pinLaw_cancel h p
  | start v u fill best => exact State.pinLaw_startUtterance h fill best
  | free v => exact State.pinLaw_freeVoice h v

theorem Move.keeps_pinLaw {o s t : State} (m : Move o s t) (h : s.pinLaw) : t.pinLaw := by
  cases m with
  | speech m => exact m.keeps_pinLaw h
  | append r => exact State.pinLaw_congr h (by simp) (by simp)
  | fault => exact State.pinLaw_congr h (by simp) (by simp)
  | lessons | words | attention | waiting | holdEntered | keys => exact State.pinLaw_congr h rfl rfl

/-- Another entry for one clip keeps the law if the entry fits the references to the clip. -/
theorem State.pinLaw_clip {s t : State} {id : Nat} {d : Option Clip} (h : s.pinLaw)
    (length : t.cs.directory.length = s.cs.directory.length)
    (clip : ∀ k, t.clip k = if k = id then d else s.clip k) (se : t.se = s.se)
    (fits : pinFits d (s.references id)) : t.pinLaw := by
  obtain ⟨entries, pins, own⟩ := h
  refine ⟨length.trans entries, fun k => ?_, fun r => ?_⟩
  · show pinFits (t.clip k) (t.references k)
    rw [clip, State.references_congr se]
    split
    · rename_i e
      rw [e]
      exact fits
    · exact pins k
  · rw [State.speechQueue_congr se]
    exact own r

theorem Change.keeps_pinLaw {R : Prop} {s t : State} (c : Change R s t) (h : s.pinLaw) : t.pinLaw := by
  cases c with
  | move m => exact m.keeps (fun m => m.keeps_pinLaw) h
  | announce route ids ready => exact State.pinLaw_enqueue h _ _ _ ready
  | clip id c d present becomes =>
    obtain ⟨-, -, -, pins, loading, retiring⟩ := becomes
    have law := h.2.1 id
    rw [present] at law
    obtain ⟨count, idle, retired⟩ := law
    refine State.pinLaw_clip h (by simp) (State.clip_setClip_present present (some d)) (by simp)
      ⟨pins.trans count, fun st => pins.trans (idle (loading st)), fun st => ?_⟩
    obtain old | pinned := retiring st
    · exact pins ▸ retired old
    · exact pins ▸ pinned
  | openClip id c fits =>
    obtain ⟨absent, low, high, -, -, -, loading, unpinned⟩ := fits
    have law := h.2.1 id
    rw [absent] at law
    refine State.pinLaw_clip (id := id) (d := some c) h (s.length_setClip id (some c)) (fun k => ?_)
      (s.se_setClip id (some c)) ⟨unpinned.trans law.symm, fun _ => unpinned, fun st => ?_⟩
    · rw [← State.clip_setClip (s := s) (by omega) (by rw [h.1]; exact high) (some c) k]
      exact State.clip_congr rfl k
    · rw [loading] at st
      cases st
  | drop id c present loose =>
    have law := h.2.1 id
    rw [present] at law
    obtain ⟨count, idle, -⟩ := law
    refine State.pinLaw_clip h (by simp) (State.clip_dropClip present) (by simp) (count.symm.trans ?_)
    obtain loading | verifying | unpinned := loose
    · exact idle (.inl loading)
    · exact idle (.inr verifying)
    · exact unpinned
  | configure c =>
    rw [State.evaluateThreshold_only]
    exact State.pinLaw_congr h rfl rfl
  | remove k =>
    unfold State.removeOldest
    rw [State.evaluateThreshold_only]
    exact State.pinLaw_congr h rfl rfl
  | settings =>
    exact State.pinLaw_of_speaking h rfl (fun id => by rw [State.references_eq, State.references_eq])
      fun r => by cases r <;> rfl
  | volume c =>
    refine State.pinLaw_of_speaking h (by cases c <;> rfl) (fun id => ?_)
      (fun r => by cases c <;> rfl)
    rw [State.references_eq, State.references_eq]
    cases c <;> rfl
  | position v p q playing same =>
    refine State.pinLaw_of_speaking h (by cases v <;> rfl) (fun id => ?_) (s.speechQueue_setVoice v (some q))
    have count := s.references_setVoice v (some q) id
    rw [playing, voiceNamings_some, voiceNamings_some, same] at count
    omega
  | duel | timebase | scanner | verifyUnit | store | banks | normal | lockdown => exact State.pinLaw_congr h rfl rfl

theorem State.pinLaw_of_empty {s : State} (directory : s.cs.directory = List.replicate Config.clips none)
    (se : s.se = Speech.fresh) : s.pinLaw := by
  refine ⟨by rw [directory, List.length_replicate], fun id => ?_, fun r u hu => ?_⟩
  · rw [State.clip_of_allAbsent directory]
    show s.references id = 0
    rw [State.references_eq, se]
    rfl
  · rcases r with (_ | _) | _ | _ <;> simp [State.speechQueue, se, Speech.fresh] at hu

/-- Settles O54: an utterance takes its pins when it is accepted and gives them back where it ends, and a clip that is
pinned stays. -/
theorem stepKeepsPinLaw : Obligations.StepKeepsPinLaw := fun _ _ =>
  step_keeps_of_change (fun _ _ c => c.keeps_pinLaw) (fun _ _ _ _ h => State.pinLaw_congr h rfl rfl)
    (fun _ _ => State.pinLaw_of_empty rfl rfl)

end Sys2Proof.Machine
end

section
/-! The law of speech: room is made before a seat queue grows, a voice starts on channels that are free, and each start
turns the start order. -/

namespace Sys2Proof.Machine

/-- A seat queue within its capacities (R147, R149). -/
def seatQueueGood (q : List Utterance) : Prop :=
  q.length ≤ Config.seatSpeech ∧ q.countP (·.cls == .echo) ≤ Config.waitingEchoes

theorem seatQueueGood.sublist {q p : List Utterance} (h : seatQueueGood q) (less : p.Sublist q) : seatQueueGood p :=
  ⟨less.length_le.trans h.1, less.countP_le.trans h.2⟩

theorem State.speechLaw_congr {s t : State} (h : s.speechLaw) (se : t.se = s.se) : t.speechLaw := by
  unfold State.speechLaw
  rw [se]
  exact h

/-- Utterances may go. -/
theorem State.speechLaw_of_less {s t : State} (h : s.speechLaw)
    (seats : ∀ x, (t.se.seatQueue.get x).Sublist (s.se.seatQueue.get x))
    (announce : t.se.announceQueue.Sublist s.se.announceQueue)
    (v0 : ∀ p, t.se.v0 = some p → s.se.v0 = some p) (v1 : ∀ p, t.se.v1 = some p → s.se.v1 = some p)
    (rest : (t.se.startOrder, t.se.volumeA, t.se.volumeB, t.se.volumeSpeaker, t.se.lastHandle) =
      (s.se.startOrder, s.se.volumeA, s.se.volumeB, s.se.volumeSpeaker, s.se.lastHandle)) : t.speechLaw := by
  obtain ⟨room, few, apart, order⟩ := h
  simp only [Prod.mk.injEq] at rest
  obtain ⟨same, a, b, speaker, handle⟩ := rest
  refine ⟨fun x => seatQueueGood.sublist (room x) (seats x), announce.length_le.trans few,
    fun p q hp hq => apart p q (v0 p hp) (v1 q hq), ?_⟩
  rw [same, a, b, speaker, handle]
  exact order

/-! ### Accepting -/

theorem nextHandle_le (h : Nat) : nextHandle h ≤ 255 := by
  unfold nextHandle
  split <;> omega

theorem State.freeHandleFrom_le (s : State) : ∀ k h : Nat, s.freeHandleFrom k h ≤ 255
  | 0, h => nextHandle_le h
  | k + 1, h => by
    unfold State.freeHandleFrom
    split
    · exact s.freeHandleFrom_le k _
    · exact nextHandle_le h

theorem State.freeHandle_le (s : State) : s.freeHandle ≤ 255 := s.freeHandleFrom_le _ _

/-- SE after an acceptance. -/
theorem State.enqueue_se (s : State) (r : Requester) (cls : SpeechClass) (route : BitVec 3) (clips : List Nat) :
    (s.enqueue r cls route clips).2.se =
      { (s.setSpeechQueue r (s.speechQueue r ++ [s.utteranceOf r cls route clips])).se with lastHandle := s.freeHandle } := by
  have se := pinAll_se clips s
  unfold State.enqueue State.utteranceOf
  rcases r with (_ | _) | _ | _ <;> simp [State.setSpeechQueue, State.speechQueue, se]

/-- A seat queue takes one more utterance where the queue stays within its capacities. -/
theorem State.speechLaw_enqueueSeat {s : State} (h : s.speechLaw) (x : Seat) (cls : SpeechClass) (route : BitVec 3)
    (clips : List Nat) (room : seatQueueGood (s.speechQueue (.seat x) ++ [s.utteranceOf (.seat x) cls route clips])) :
    (s.enqueue (.seat x) cls route clips).2.speechLaw := by
  obtain ⟨seats, few, apart, order, a, b, speaker, handle⟩ := h
  unfold State.speechLaw
  rw [State.enqueue_se]
  refine ⟨fun y => ?_, few, apart, order, a, b, speaker, s.freeHandle_le⟩
  show seatQueueGood ((s.se.seatQueue.set x _).get y)
  rw [Pair.get_set]
  split
  · exact room
  · exact seats y

theorem State.speechLaw_enqueueDuel {s : State} (h : s.speechLaw) (cls : SpeechClass) (route : BitVec 3)
    (clips : List Nat) : (s.enqueue .duel cls route clips).2.speechLaw := by
  obtain ⟨seats, few, apart, order, a, b, speaker, handle⟩ := h
  unfold State.speechLaw
  rw [State.enqueue_se]
  exact ⟨seats, few, apart, order, a, b, speaker, s.freeHandle_le⟩

theorem State.speechLaw_enqueueAnnounce {s : State} (h : s.speechLaw) (route : BitVec 3) (clips : List Nat)
    (room : s.se.announceQueue.length < Config.announcements) :
    (s.enqueue .announce .announce route clips).2.speechLaw := by
  obtain ⟨seats, few, apart, order, a, b, speaker, handle⟩ := h
  unfold State.speechLaw
  rw [State.enqueue_se]
  refine ⟨seats, ?_, apart, order, a, b, speaker, s.freeHandle_le⟩
  simp only [State.setSpeechQueue, State.speechQueue, List.length_append, List.length_singleton]
  exact room

theorem countP_erase_of_mem {q : List Utterance} {u : Utterance} (p : Utterance → Bool) (h : u ∈ q) :
    q.countP p = (q.erase u).countP p + if p u then 1 else 0 := by
  rw [← List.countP_cons]
  exact (List.perm_cons_erase h).countP_eq p

/-- R149's table makes room: with the entry it evicts gone, the queue takes one more of the class. -/
theorem roomFor_makes_room {cls : SpeechClass} {q : List Utterance} (h : seatQueueGood q) (u : Utterance)
    (hu : u.cls = cls) (some' : roomFor cls q ≠ .full) :
    seatQueueGood ((match (roomFor cls q).victim q with
      | some w => q.erase w
      | none => q) ++ [u]) := by
  obtain ⟨length, echoes⟩ := h
  have evicted : ∀ w, w ∈ q → (u.cls = .echo → w.cls = .echo) → seatQueueGood (q.erase w ++ [u]) := by
    intro w hw same
    have shorter := List.length_erase_of_mem hw
    have nonempty := List.length_pos_of_mem hw
    have fewer := countP_erase_of_mem (·.cls == .echo) hw
    refine ⟨by simp only [List.length_append, List.length_singleton]; omega, ?_⟩
    rw [List.countP_append, List.countP_singleton]
    by_cases e : u.cls = .echo
    · simp only [e, same e, beq_self_eq_true, if_true] at fewer ⊢
      omega
    · simp only [beq_iff_eq, e, if_false]
      omega
  have grown : q.length < Config.seatSpeech → (u.cls = .echo → q.countP (·.cls == .echo) < Config.waitingEchoes) →
      seatQueueGood (q ++ [u]) := by
    intro short few
    refine ⟨by simp only [List.length_append, List.length_singleton]; omega, ?_⟩
    rw [List.countP_append, List.countP_singleton]
    by_cases e : u.cls = .echo
    · have := few e
      simp only [e, beq_self_eq_true, if_true]
      omega
    · simp only [beq_iff_eq, e, if_false]
      omega
  have echo : 0 < q.countP (·.cls == .echo) → ∃ w, q.find? (·.cls == .echo) = some w := fun pos => by
    rw [← Option.isSome_iff_exists, List.find?_isSome]
    exact List.countP_pos_iff.1 pos
  subst hu
  by_cases e : u.cls = .echo
  · by_cases many : Config.waitingEchoes ≤ q.countP (·.cls == .echo)
    · obtain ⟨w, hw⟩ := echo (lt_of_lt_of_le (by decide) many)
      have found := List.find?_some hw
      simp only [roomFor, e, if_true, if_pos many, Room.victim, hw]
      exact evicted w (List.mem_of_find?_eq_some hw) fun _ => by simpa using found
    · by_cases short : q.length < Config.seatSpeech
      · simp only [roomFor, e, if_true, if_neg many, if_pos short, Room.victim]
        exact grown short fun _ => Nat.lt_of_not_le many
      · by_cases pos : 0 < q.countP (·.cls == .echo)
        · obtain ⟨w, hw⟩ := echo pos
          have found := List.find?_some hw
          simp only [roomFor, e, if_true, if_neg many, if_neg short, if_pos pos, Room.victim, hw]
          exact evicted w (List.mem_of_find?_eq_some hw) fun _ => by simpa using found
        · exact absurd (by simp only [roomFor, e, if_true, if_neg many, if_neg short, if_neg pos]) some'
  · by_cases short : q.length < Config.seatSpeech
    · simp only [roomFor, if_neg e, if_pos short, Room.victim]
      exact grown short fun echo => absurd echo e
    · by_cases any : q.any (·.cls.disposable) = true
      · obtain ⟨w, hw⟩ : ∃ w, q.find? (·.cls.disposable) = some w := by
          rw [← Option.isSome_iff_exists, List.find?_isSome]
          simpa using any
        simp only [roomFor, if_neg e, if_neg short, if_pos any, Room.victim, hw]
        exact evicted w (List.mem_of_find?_eq_some hw) fun echo => absurd echo e
      · exact absurd (by simp only [roomFor, if_neg e, if_neg short, if_neg any]) some'

/-- The queue after room was made in it. -/
theorem State.makeRoom_queue {s t : State} {x : Seat} {cls : SpeechClass} (h : s.makeRoom x cls = some t) :
    roomFor cls (s.speechQueue (.seat x)) ≠ .full ∧
    t.speechQueue (.seat x) = (match (roomFor cls (s.speechQueue (.seat x))).victim (s.speechQueue (.seat x)) with
      | some w => (s.speechQueue (.seat x)).erase w
      | none => s.speechQueue (.seat x)) ∧
    t.se = (s.setSpeechQueue (.seat x) (t.speechQueue (.seat x))).se := by
  refine ⟨fun full => ?_, ?_⟩
  · unfold State.makeRoom at h
    dsimp only at h
    rw [full] at h
    cases h
  · obtain ⟨victim, rfl⟩ | ⟨u, victim, rfl⟩ := State.makeRoom_cases h
    · rw [victim]
      exact ⟨rfl, by cases x <;> rfl⟩
    · rw [victim, State.speechQueue_congr (unpinAll_se _ _), unpinAll_se, State.speechQueue_setSpeechQueue]
      exact ⟨if_pos rfl, by rw [if_pos rfl]⟩

theorem State.speechLaw_acceptSeat {s t : State} {x : Seat} {cls : SpeechClass} {clips : List Nat} {k : Nat}
    (h : s.speechLaw) (accepted : s.acceptSeat x cls clips = some (k, t)) : t.speechLaw := by
  unfold State.acceptSeat at accepted
  split at accepted
  · split at accepted
    · rename_i made room
      cases accepted
      obtain ⟨notFull, queue, se⟩ := State.makeRoom_queue room
      have lawful : made.speechLaw := by
        refine State.speechLaw_of_less h (fun y => ?_) ?_ ?_ ?_ ?_ <;> rw [se]
        · show ((s.se.seatQueue.set x _).get y).Sublist _
          rw [Pair.get_set]
          split
          · rename_i e
            subst e
            rw [queue]
            split
            · exact List.erase_sublist
            · exact List.Sublist.refl _
          · exact List.Sublist.refl _
        · exact List.Sublist.refl _
        · exact fun _ hp => hp
        · exact fun _ hp => hp
        · rfl
      refine State.speechLaw_enqueueSeat lawful x cls _ clips ?_
      rw [queue]
      exact roomFor_makes_room (h.1 x) _ rfl notFull
    · cases accepted
  · cases accepted

/-! ### Starting and ending -/

theorem shareChannel_comm (r q : BitVec 3) : shareChannel r q = shareChannel q r := by
  simp only [shareChannel, BitVec.and_comm]

/-- A started utterance moves from a queue to a voice whose channels are free. -/
theorem State.speechLaw_startUtterance {s : State} {v : Voice} {u : Utterance} (h : s.speechLaw)
    (best : s.bestHead v = some u) : (s.startUtterance v u).speechLaw := by
  obtain ⟨seats, few, apart, order, volumes⟩ := h
  have eligible := (State.bestHead_spec best).2
  rw [State.startUtterance_eq]
  dsimp only
  refine ⟨fun x => ?_, ?_, fun p q hp hq => ?_, ?_, ?_⟩
  · refine seatQueueGood.sublist (seats x) ?_
    rcases hr : u.requester with (_ | _) | _ | _ <;> cases v <;> cases x <;>
      first | exact List.Sublist.refl _ | exact List.drop_sublist _ _
  · refine le_trans (List.Sublist.length_le ?_) few
    rcases hr : u.requester with (_ | _) | _ | _ <;> cases v <;>
      first | exact List.Sublist.refl _ | exact List.drop_sublist _ _
  · cases v with
    | v0 =>
      have other : s.se.v1 = some q := by rw [← hq]; cases u.requester <;> rfl
      cases hp
      simpa [State.eligible, otherVoice, State.voice, other] using eligible
    | v1 =>
      have other : s.se.v0 = some p := by rw [← hp]; cases u.requester <;> rfl
      cases hq
      rw [shareChannel_comm]
      simpa [State.eligible, otherVoice, State.voice, other] using eligible
  · show List.Perm (if u.requester = .announce then s.se.startOrder
      else s.se.startOrder.erase u.requester ++ [u.requester]) _
    split
    · exact order
    · rename_i takesPart
      have inside : u.requester ∈ s.se.startOrder := by
        rw [order.mem_iff]
        rcases hr : u.requester with (_ | _) | _ | _ <;> simp [hr] at takesPart ⊢
      exact (List.perm_append_comm.trans (List.perm_cons_erase inside).symm).trans order
  · rcases hr : u.requester with (_ | _) | _ | _ <;> cases v <;> exact volumes

theorem State.speechLaw_freeVoice {s : State} (h : s.speechLaw) (v : Voice) : (s.freeVoice v).speechLaw := by
  unfold State.freeVoice
  split
  · refine State.speechLaw_congr (s := s.setVoice v none) ?_ (unpinAll_se _ _)
    have refl := fun q : List Utterance => List.Sublist.refl q
    cases v with
    | v0 => exact State.speechLaw_of_less h (fun x => refl _) (refl _) (fun p hp => (by cases hp)) (fun _ hp => hp) rfl
    | v1 => exact State.speechLaw_of_less h (fun x => refl _) (refl _) (fun _ hp => hp) (fun p hp => (by cases hp)) rfl
  · exact h

theorem keepPlaying_some {p : Utterance → Bool} {v : Option Playing} {q : Playing} (h : keepPlaying p v = some q) :
    v = some q ∧ p q.utterance = false := by
  cases v with
  | none => cases h
  | some w =>
    unfold keepPlaying at h
    cases hp : p w.utterance <;> simp [hp] at h
    subst h
    exact ⟨rfl, hp⟩

theorem State.speechLaw_cancel {s : State} (h : s.speechLaw) (p : Utterance → Bool) : (s.cancel p).speechLaw := by
  have less : ({ s with se := s.se.without p } : State).speechLaw :=
    State.speechLaw_of_less h (fun x => by cases x <;> exact List.filter_sublist) List.filter_sublist
      (fun _ hq => (keepPlaying_some hq).1) (fun _ hq => (keepPlaying_some hq).1) rfl
  have released := State.speechLaw_congr less (unpinAll_se ((s.named p).flatMap (·.clips)) _)
  rw [State.cancel_eq]
  split
  · exact released
  · exact released

/-! ### Every change -/

theorem SpeechMove.keeps_speechLaw {s t : State} (m : SpeechMove s t) (h : s.speechLaw) : t.speechLaw := by
  cases m with
  | note => exact h
  | acceptSeat accepted => exact State.speechLaw_acceptSeat h accepted
  | acceptDuel accepted =>
    unfold State.acceptDuel at accepted
    split at accepted
    · cases accepted
      exact State.speechLaw_enqueueDuel h _ _ _
    · cases accepted
  | cancel p => exact State.speechLaw_cancel h p
  | start v u fill best => exact State.speechLaw_startUtterance h best
  | free v => exact State.speechLaw_freeVoice h v

theorem Move.keeps_speechLaw {o s t : State} (m : Move o s t) (h : s.speechLaw) : t.speechLaw := by
  cases m with
  | speech m => exact m.keeps_speechLaw h
  | append r => exact State.speechLaw_congr h (by simp)
  | fault => exact State.speechLaw_congr h (by simp)
  | lessons | words | attention | waiting | holdEntered | keys => exact h

theorem Change.keeps_speechLaw {R : Prop} {s t : State} (c : Change R s t) (h : s.speechLaw) : t.speechLaw := by
  cases c with
  | move m => exact m.keeps (fun m => m.keeps_speechLaw) h
  | announce route ids ready room => exact State.speechLaw_enqueueAnnounce h route ids room
  | configure c =>
    rw [State.evaluateThreshold_only]
    exact h
  | remove k =>
    unfold State.removeOldest
    rw [State.evaluateThreshold_only]
    exact h
  | volume c n range =>
    obtain ⟨seats, few, apart, order, a, b, speaker, handle⟩ := h
    cases c with
    | phonesA => exact ⟨seats, few, apart, order, range, b, speaker, handle⟩
    | phonesB => exact ⟨seats, few, apart, order, a, range, speaker, handle⟩
    | speaker => exact ⟨seats, few, apart, order, a, b, range, handle⟩
  | position v p q playing same =>
    obtain ⟨seats, few, apart, order⟩ := h
    cases v with
    | v0 =>
      refine ⟨seats, few, fun p' q' hp hq => ?_, order⟩
      cases hp
      rw [same]
      exact apart p q' playing hq
    | v1 =>
      refine ⟨seats, few, fun p' q' hp hq => ?_, order⟩
      cases hq
      rw [same]
      exact apart p' p hp playing
  | clip id c d => exact State.speechLaw_congr h (by simp)
  | openClip id c => exact State.speechLaw_congr h (s.se_setClip id (some c))
  | drop id => exact State.speechLaw_congr h (by simp)
  | duel | timebase | scanner | settings | verifyUnit | store | banks | normal | lockdown => exact h

theorem State.speechLaw_of_fresh {s : State} (se : s.se = Speech.fresh) : s.speechLaw := by
  unfold State.speechLaw
  rw [se]
  refine ⟨fun x => by cases x <;> exact ⟨Nat.zero_le _, Nat.zero_le _⟩, Nat.zero_le _, fun p q hp => ?_,
    List.Perm.refl _, by decide, by decide, by decide, by decide⟩
  cases hp

/-- Settles O55: R149 makes room for one more, R153 starts on free channels, and R154 turns the start order. -/
theorem stepKeepsSpeechLaw : Obligations.StepKeepsSpeechLaw := fun _ _ =>
  step_keeps_of_change (fun _ _ c => c.keeps_speechLaw) (fun _ _ _ _ h => h) (fun _ _ => State.speechLaw_of_fresh rfl)

end Sys2Proof.Machine
end

section
/-! What no change touches, the law of the link, and what every command and every step answer. -/

namespace Sys2Proof.Machine

/-! ### No change touches the link, the reset pin or the commands that wait -/

/-- The link, the reset pin and the commands that wait. -/
def State.outer (s : State) : Bool × LinkPort × List Instr := (s.resetHeld, s.lp, s.pending)

theorem State.outer_of_fixed {s t : State} (h : t.fixed = s.fixed) : t.outer = s.outer := by
  simp only [State.fixed, Prod.mk.injEq] at h
  obtain ⟨⟨held, lp, -, -, pending⟩, -⟩ := h
  rw [State.outer, State.outer, held, lp, pending]

theorem Move.outer {o s t : State} (m : Move o s t) : t.outer = s.outer := by
  cases m with
  | speech m => exact State.outer_of_fixed m.fixed
  | append r => exact State.outer_of_fixed (s.fixed_appendRecord r)
  | fault => exact State.outer_of_fixed (s.fixed_recordFault _ _ _ _)
  | lessons | words | attention | waiting | holdEntered | keys => rfl

theorem Change.outer {R : Prop} {s t : State} (c : Change R s t) : t.outer = s.outer := by
  cases c with
  | move m => exact m.keeps (P := fun u => u.outer = s.outer) (fun m h => m.outer.trans h) rfl
  | announce => exact State.outer_of_fixed (State.fixed_enqueue _ _ _ _ _)
  | configure c =>
    rw [State.evaluateThreshold_only]
    rfl
  | remove k =>
    unfold State.removeOldest
    rw [State.evaluateThreshold_only]
    rfl
  | clip id => cases id <;> rfl
  | openClip id => cases id <;> rfl
  | drop id => cases id <;> rfl
  | volume c => cases c <;> rfl
  | position v => cases v <;> rfl
  | duel | timebase | scanner | settings | verifyUnit | store | banks | normal | lockdown => rfl

theorem Changes.outer {R : Prop} {s t : State} (h : Changes R s t) : t.outer = s.outer :=
  h.keeps (P := fun u => u.outer = s.outer) (fun _ _ c hu => c.outer.trans hu) rfl

theorem Changes.lp {R : Prop} {s t : State} (h : Changes R s t) : t.lp = s.lp := congrArg (fun o => o.2.1) h.outer

theorem Changes.pending {R : Prop} {s t : State} (h : Changes R s t) : t.pending = s.pending := congrArg (fun o => o.2.2) h.outer

theorem Changes.resetHeld {R : Prop} {s t : State} (h : Changes R s t) : t.resetHeld = s.resetHeld := congrArg (fun o => o.1) h.outer

/-! ### The law of the link -/

theorem State.linkLaw_congr {s t : State} (h : s.linkLaw) (lp : t.lp = s.lp) : t.linkLaw := by
  unfold State.linkLaw
  rw [lp]
  exact h

/-- A byte that a partial frame takes without being complete leaves a partial frame. -/
theorem partialGood_append {bytes : List Byte} {v : Byte} (h : partialGood bytes) (incomplete : frameCompletes bytes = false)
    (short : ¬ (bytes.length = 1 ∧ Config.payload < v.toNat)) : partialGood (bytes ++ [v]) := by
  obtain ⟨start, length, under⟩ := h
  cases bytes with
  | nil => cases start
  | cons first rest =>
    cases rest with
    | nil =>
      refine ⟨start, fun n hn => ?_, fun n hn => ?_⟩
      · cases hn
        simpa using short
      · simp only [frameLength, List.cons_append, List.nil_append, List.getElem?_cons_succ, List.getElem?_cons_zero,
          Option.map_some, Option.some.injEq] at hn
        simp only [List.cons_append, List.nil_append, List.length_cons, List.length_nil]
        omega
    | cons second rest =>
      refine ⟨start, length, fun n hn => ?_⟩
      have long := under n hn
      have open' : n ≠ rest.length + 3 := fun e => by
        have full : frameLength (first :: second :: rest) = some n := hn
        simp [frameCompletes, full, e] at incomplete
      simp only [List.cons_append, List.length_cons, List.length_append, List.length_nil] at long ⊢
      omega

theorem LinkMove.keeps_linkLaw {s : State} {p : LinkPort} (m : LinkMove s.lp p) (h : s.linkLaw) :
    ({ s with lp := p } : State).linkLaw := by
  obtain ⟨replies, frame⟩ := h
  cases m with
  | reply r room => exact ⟨by simpa using room, frame⟩
  | hunt => exact ⟨replies, rfl⟩
  | start => exact ⟨replies, rfl, rfl, fun n hn => (by cases hn), fun n hn => (by cases hn)⟩
  | extend bytes v inFrame incomplete short =>
    rw [inFrame] at frame
    exact ⟨replies, rfl, partialGood_append frame.2 incomplete short⟩
  | line l => exact ⟨replies, frame⟩
  | broken => exact ⟨Nat.zero_le _, rfl⟩
  | sent => exact ⟨by simp only [List.length_drop]; omega, frame⟩

/-- Settles O51: each act on the link leaves a partial frame under way or the assembler HUNTING, and a reply is queued
where there is room for it. -/
theorem stepKeepsLinkLaw : Obligations.StepKeepsLinkLaw := by
  intro s t h ht
  have kept : KeptOutside (fun _ => True) State.linkLaw :=
    { held := fun _ h => h
      link := fun _ _ m h => m.keeps_linkLaw h
      powerUp := fun _ _ _ => ⟨Nat.zero_le _, rfl⟩
      restart := fun _ _ _ h => ⟨h.1, rfl⟩
      fault := fun s _ _ _ _ h => State.linkLaw_congr h (by simp)
      sense := fun _ _ _ _ h => h
      owner := fun c s _ taken other h => State.linkLaw_congr h (requestOwner_changes (R := True) c (fun _ => trivial) taken other).lp
      act := fun c s _ inside h => State.linkLaw_congr h (eventAct_changes (R := True) c s (fun _ => trivial) inside).lp }
  refine kept.step (fun _ => trivial) (fun _ _ h => h) (fun s h => ?_) h ht
  have lp : s.clockPeriod.lp = { s.lp with gapTimer := s.lp.gapTimer.map countDown } := by
    unfold State.clockPeriod State.verifyPeriod
    dsimp only
    repeat' split
    all_goals rfl
  obtain ⟨replies, frame⟩ := h
  unfold State.linkLaw
  rw [lp]
  refine ⟨replies, ?_⟩
  dsimp only
  split at frame
  · rename_i hunting
    simp [frame]
  · rename_i bytes inFrame
    simp only [Option.isSome_map]
    exact frame

/-! ### Steps -/

/-- Settles O1: `step` is defined so. -/
theorem stepRunsFrontCommand : Obligations.StepRunsFrontCommand := by
  intro s c rest h
  unfold step
  rw [h]

/-- Settles O3: every command is a request, an event of a block, a byte of a frame or an event of the reset pin or a sense
line, and nothing any of them does touches the commands that wait. -/
theorem everyCommandAnswersNextState : Obligations.EveryCommandAnswersNextState := by
  intro c s
  obtain ⟨t, ht⟩ := exec_next c s
  have kept : KeptOutside (fun _ => True) fun u : State => u.pending = s.pending :=
    { held := fun _ h => h
      link := fun _ _ _ h => h
      powerUp := fun _ _ h => h
      restart := fun _ _ _ h => h
      fault := fun u _ _ _ _ h => (State.recordFault_pending u _ _ _ _).trans h
      sense := fun _ _ _ _ h => h
      owner := fun c u _ taken other h => (requestOwner_changes (R := True) c (fun _ => trivial) taken other).pending.trans h
      act := fun c u _ inside h => (eventAct_changes (R := True) c u (fun _ => trivial) inside).pending.trans h }
  exact ⟨t, ht, kept.exec (fun _ _ => trivial) rfl ht⟩

/-! ### Requests -/

/-- Settles O4. -/
theorem takenRequestIsAnsweredOnce : Obligations.TakenRequestIsAnsweredOnce := by
  intro c s hc taken
  obtain ⟨replies, plain⟩ := requestOwner_plain c s
  refine ⟨_, _, _, exec_taken c hc taken, replies, ?_⟩
  obtain ok | accepted | ⟨none, same⟩ := plain
  · exact .inl ok
  · exact .inr (.inl accepted)
  · exact .inr (.inr ⟨none, same⟩)

end Sys2Proof.Machine
end

section
/-! The laws right after reset, and a period without a command. -/

namespace Sys2Proof.Machine

theorem KeyMap.fresh_entries_lawful : ∀ k ∈ KeyMap.fresh.entries, k.lawful := by
  intro k hk l hl
  rw [List.eq_of_mem_replicate hk] at hl
  cases hl

theorem Context.fresh_lettersLawful : Context.fresh.lettersLawful :=
  ⟨fun k hk => (by cases hk), ⟨Nat.zero_le _, fun l hl => (by cases hl)⟩, Nat.zero_le _, fun k hk => (by cases hk)⟩

theorem State.wordLaw_reset : State.reset.wordLaw := by
  have empty : ∀ n, State.reset.entry n = none := fun n => by
    have slot : State.reset.slot n = .empty := by
      show (List.replicate 96 Slot.empty).getD n .empty = .empty
      rw [List.getD_eq_getElem?_getD, List.getElem?_replicate]
      split <;> rfl
    rw [State.entry, slot]
  refine ⟨List.length_replicate, fun n e he => ?_, fun m n e f he => ?_, fun k hk => ?_, fun x k hk => ?_, fun x => ?_,
    fun k hk => (by cases hk), fun x j hj => ?_⟩
  · rw [empty] at he
    cases he
  · rw [empty] at he
    cases he
  · obtain h | h := List.mem_append.1 hk
    · exact KeyMap.fresh_entries_lawful k h
    · exact KeyMap.fresh_entries_lawful k h
  · cases x <;> cases hk
  · cases x <;> exact Context.fresh_lettersLawful
  · cases x <;> cases hj

/-- Settles O60. -/
theorem lawsHoldAtReset : Obligations.LawsHoldAtReset := by
  refine ⟨⟨Nat.zero_le _, rfl⟩, ⟨rfl, rfl, fun a => ?_⟩, State.blockLaw_of_empty rfl rfl, State.pinLaw_of_empty rfl rfl,
    State.speechLaw_of_fresh rfl, State.wordLaw_reset, State.reset.logLaw_powerUp, State.reset.seatLaw_powerUp,
    State.reset.conditionLaw_powerUp⟩
  show (0 : Byte) = parityMark 0
  decide

/-! ### A period without a command -/

/-- The verify unit's period is its own. -/
theorem State.verifyPeriod_only (s : State) :
    ∃ v, s.verifyPeriod = { s with cs := { s.cs with verify := v } } := by
  unfold State.verifyPeriod
  repeat' split
  all_goals exact ⟨_, rfl⟩

/-- A voice's period leaves its utterance. -/
theorem State.voicePeriod_utterance (s : State) (v : Option Playing) :
    (s.voicePeriod v).map (·.utterance) = v.map (·.utterance) := by
  unfold State.voicePeriod
  dsimp only
  repeat' split
  all_goals rfl

theorem State.allPlaying_congr {s t : State} (v0 : t.se.v0.map (·.utterance) = s.se.v0.map (·.utterance))
    (v1 : t.se.v1.map (·.utterance) = s.se.v1.map (·.utterance)) : t.allPlaying = s.allPlaying := by
  simp only [State.allPlaying, List.map_append, ← Option.toList_map, v0, v1]

/-- Settles O2: a period is the verify unit's, then each down-count's and each voice's. -/
theorem idleStepMovesTimersOnly : Obligations.IdleStepMovesTimersOnly := by
  intro s idle
  have stepped : step s = .next (if s.resetHeld then s else s.clockPeriod) := by
    unfold step
    rw [idle]
  refine ⟨fun held => by rw [stepped, if_pos held], fun released => ⟨s.clockPeriod, ?_, ?_⟩⟩
  · rw [stepped, if_neg (by simp [released])]
  obtain ⟨v, unit⟩ := s.verifyPeriod_only
  have playing : s.clockPeriod.allPlaying = s.allPlaying := by
    refine State.allPlaying_congr ?_ ?_ <;>
    · unfold State.clockPeriod
      rw [unit]
      exact State.voicePeriod_utterance _ _
  refine ⟨?_, ?_, ?_, ?_, ?_, ?_, ?_, ?_, ?_, ?_, ?_, ?_, fun x => ?_, ?_, ?_, ?_, ?_, ?_, playing⟩
  all_goals
    unfold State.clockPeriod
    rw [unit]
  case refine_9 => exact idle
  case refine_10 => exact released
  case refine_12 =>
    cases h : s.tb.generator <;> simp [Generator.period, countDown, h]
  case refine_13 => cases x <;> rfl
  all_goals rfl

end Sys2Proof.Machine
end

section
/-! The link: requests on the way in, frames and the bytes they are made of. -/

namespace Sys2Proof.Machine

/-! ### Requests that are turned away -/

theorem State.repliesFull_iff (s : State) : s.repliesFull = true ↔ 4 ≤ s.lp.replies.length := by
  simp [State.repliesFull]

theorem State.repliesFull_of_lt {s : State} (h : s.lp.replies.length < 4) : s.repliesFull = false := by
  simpa [State.repliesFull] using h

/-- With a full reply queue a request is not executed (R203 step 1). -/
theorem serve_full {c : Instr} {s : State} (owner : State → Answer) (released : s.resetHeld = false)
    (full : s.repliesFull = true) : serve c owner s = .next (s.recordFault .overrun .nothing 0 none) := by
  unfold serve
  rw [if_neg (by simp [released]), if_pos full]

/-- In LOCKDOWN a request that does not pass is answered LOCKED (R203 step 5). -/
theorem serve_locked {c : Instr} {s : State} (owner : State → Answer) (released : s.resetHeld = false)
    (room : s.repliesFull = false) (wellFormed : c.wellFormed = true) (lockdown : s.fb.condition = .lockdown)
    (stopped : c.passesLockdown = false) : serve c owner s = .next (s.replied c .locked []) := by
  unfold serve
  rw [if_neg (by simp [released]), if_neg (by simp [room]), if_neg (by simp [wellFormed]), if_pos ⟨lockdown, stopped⟩]
  rfl

/-- The five requests of R204 are all that pass. -/
theorem passesLockdown_eq_false {c : Instr} (status : ∀ tag, c ≠ .status tag) (faults : ∀ tag b, c ≠ .readFaults tag b)
    (attention : ∀ tag, c ≠ .readAttention tag) (attempt : ∀ tag x, c ≠ .readAttempt tag x)
    (restart : ∀ tag, c ≠ .restartFull tag) : c.passesLockdown = false := by
  unfold Instr.passesLockdown
  split
  · exact absurd rfl (status _)
  · exact absurd rfl (faults _ _)
  · exact absurd rfl (attention _)
  · exact absurd rfl (attempt _ _)
  · exact absurd rfl (restart _)
  · rfl

/-- Settles O5. -/
theorem fullQueueOrLockdownTurnsRequestAway : Obligations.FullQueueOrLockdownTurnsRequestAway := by
  intro c s hc released
  rw [exec_request c hc]
  exact ⟨fun full => serve_full _ released (s.repliesFull_iff.2 full),
    fun room wellFormed lockdown status faults attention attempt restart =>
      serve_locked _ released (State.repliesFull_of_lt room) wellFormed lockdown
        (passesLockdown_eq_false status faults attention attempt restart)⟩

/-! ### Payloads -/

theorem word16_loByte_hiByte (w : Word16) : word16 (loByte w) (hiByte w) = w := by
  refine BitVec.eq_of_getLsbD_eq fun i hi => ?_
  simp only [word16, loByte, hiByte, BitVec.getLsbD_append, BitVec.getLsbD_extractLsb']
  by_cases low : i < 8
  · simp [low]
  · simp [low, show i - 8 < 8 by omega, show 8 + (i - 8) = i by omega]

theorem parseList_of_wellFormed {c : Instr} (h : c.wellFormed = true) : parseList c = .request c := if_pos h

theorem parsePutWord_payload (tag slot : Byte) (w : WordImage) (h : w.letters.length = 16) :
    parsePutWord tag (w.payload slot) = .request (.putWord tag slot w) := by
  have letters : ∀ rest : List Byte, (w.letters ++ rest).take 16 = w.letters ∧ (w.letters ++ rest).drop 16 = rest :=
    fun rest => ⟨by rw [← h, List.take_left], by rw [← h, List.drop_left]⟩
  simp only [WordImage.payload, List.cons_append, List.nil_append, parsePutWord, (letters _).1, (letters _).2,
    parseWordTail, word16_loByte_hiByte]

/-- Settles O6: each layout is read back field by field, and a two-byte field is its low byte and its high byte. -/
theorem requestPayloadsParseBack : Obligations.RequestPayloadsParseBack := by
  intro c hc wellFormed
  cases c
  case powerOn | frameComplete | gapTimerExpiry | linkBreak | replySent | scanStartIssued | lessonTick
    | rowConversionComplete | converterTimeout | senseChange | senseSettled | identityReadComplete | holdAlert
    | idleExpiry | utteranceDone | clipAdvance | clipParity | verifyComplete | judgementTaken | holdEntry
    | lockdownEntry | byteReceived | resetPinAsserted => simp [Instr.isRequest, Instr.kind] at hc
  case configure tag im =>
    refine ⟨?_, by simp [Instr.payload, ConfigImage.payload]⟩
    show parseConfigure tag im.payload = _
    simp only [ConfigImage.payload, parseConfigure, word16_loByte_hiByte]
  case putWord tag slot w =>
    have letters : w.letters.length = 16 := by simpa [Instr.wellFormed] using wellFormed
    exact ⟨parsePutWord_payload tag slot w letters, by simp [Instr.payload, WordImage.payload, letters]⟩
  case setAttentionEnable tag causes =>
    refine ⟨?_, by simp [Instr.payload]⟩
    show Parsed.request (.setAttentionEnable tag (word16 (loByte causes) (hiByte causes))) = _
    rw [word16_loByte_hiByte]
  case setFaultEnable tag bank codes =>
    refine ⟨?_, by simp [Instr.payload]⟩
    show Parsed.request (.setFaultEnable tag bank (word16 (loByte codes) (hiByte codes))) = _
    rw [word16_loByte_hiByte]
  case openClip tag id format rate length crc =>
    refine ⟨?_, by simp [Instr.payload]⟩
    show Parsed.request (.openClip tag id format rate (word16 (loByte length) (hiByte length))
      (word16 (loByte crc) (hiByte crc))) = _
    rw [word16_loByte_hiByte, word16_loByte_hiByte]
  case setCues tag clips =>
    refine ⟨parseList_of_wellFormed wellFormed, ?_⟩
    simp only [Instr.wellFormed, beq_iff_eq] at wellFormed
    simp [Instr.payload, wellFormed]
  case setLetters tag clips =>
    refine ⟨parseList_of_wellFormed wellFormed, ?_⟩
    simp only [Instr.wellFormed, beq_iff_eq] at wellFormed
    simp [Instr.payload, wellFormed]
  case loadKeyMap tag slot kind firstRow rows keys =>
    refine ⟨parseList_of_wellFormed wellFormed, ?_⟩
    simp only [Instr.wellFormed, Bool.and_eq_true, beq_iff_eq, decide_eq_true_eq] at wellFormed
    simp only [Instr.payload, List.cons_append, List.nil_append, List.length_cons]
    omega
  case announce tag route count clips =>
    refine ⟨parseList_of_wellFormed wellFormed, ?_⟩
    simp only [Instr.wellFormed, Bool.and_eq_true, beq_iff_eq, decide_eq_true_eq] at wellFormed
    simp only [Instr.payload, List.cons_append, List.nil_append, List.length_cons]
    omega
  case clipData tag id offset count bytes =>
    constructor
    · show parseList (.clipData tag id (word16 (loByte offset) (hiByte offset)) count bytes) = _
      rw [word16_loByte_hiByte]
      exact parseList_of_wellFormed wellFormed
    · simp only [Instr.wellFormed, Bool.and_eq_true, beq_iff_eq, decide_eq_true_eq] at wellFormed
      simp only [Instr.payload, List.cons_append, List.nil_append, List.length_cons]
      omega
  all_goals exact ⟨rfl, by simp [Instr.payload]⟩

/-! ### Complete frames -/

theorem lowFirst_length (n : Nat) : (lowFirst n).length = 2 := rfl

/-- The parts of a complete frame, by its length byte. -/
theorem frame_parts {length kind tag : Byte} {payload check : List Byte} (hl : length.toNat = payload.length) :
    let bytes := [0xC3, length, kind, tag] ++ payload ++ check
    framePayload bytes = payload ∧ frameCovered bytes = [length, kind, tag] ++ payload ∧ frameCheck bytes = check := by
  refine ⟨?_, ?_, ?_⟩
  · show ((payload ++ check).take length.toNat) = payload
    rw [hl, List.take_left]
  · show ((length :: kind :: tag :: (payload ++ check)).take (length.toNat + 3)) = _
    rw [hl]
    simp
  · show ([0xC3, length, kind, tag] ++ payload ++ check).drop (length.toNat + 4) = check
    rw [hl, List.drop_append_of_le_length (by simp)]
    simp

/-- The byte that both ways of receiving take, when it completes the frame under way. -/
theorem exec_completing {s : State} {bytes : List Byte} {w last : Byte} (released : s.resetHeld = false)
    (inFrame : s.lp.assembler = .inFrame bytes) (taken : s.takesByte w last) (completes : frameCompletes bytes = true) :
    exec (.frameComplete w) s = (s.setLine .mark).completeFrame runRequest (bytes ++ [last]) ∧
    exec (.byteReceived ⟨w, .mark⟩) s = (s.setLine .mark).completeFrame runRequest (bytes ++ [last]) := by
  rw [State.takesByte_iff] at taken
  have partial' : s.partialFrame = bytes := by rw [State.partialFrame, inFrame]
  constructor
  · show execFrameComplete w s = _
    unfold execFrameComplete
    rw [partial', taken, if_neg (by simp [released, completes])]
  · show execByteReceived ⟨w, .mark⟩ s = _
    unfold execByteReceived State.receiveByte
    rw [if_neg (by simp [released])]
    simp only [State.setLine_assembler, inFrame, completes, if_true, taken]

/-- Settles O8. -/
theorem frameWithBadCrcIsNotExecuted : Obligations.FrameWithBadCrcIsNotExecuted := by
  intro s length kind tag crcLow w last payload released taken room hl inFrame bad
  have completes : frameCompletes ([0xC3, length, kind, tag] ++ payload ++ [crcLow]) = true := by
    simp only [frameCompletes, frameLength, List.cons_append, List.nil_append, List.getElem?_cons_succ,
      List.getElem?_cons_zero, Option.map_some, List.length_cons, List.length_append, List.length_nil, beq_iff_eq, hl]
  obtain ⟨complete, byteIn⟩ := exec_completing released inFrame taken completes
  obtain ⟨-, covered, check⟩ := frame_parts (kind := kind) (tag := tag) (check := [crcLow, last]) hl
  have whole : [0xC3, length, kind, tag] ++ payload ++ [crcLow] ++ [last] =
      [0xC3, length, kind, tag] ++ payload ++ [crcLow, last] := by simp
  have notGood : frameGood ([0xC3, length, kind, tag] ++ payload ++ [crcLow, last]) = false := by
    rw [frameGood, check, covered]
    simpa using bad
  rw [complete, byteIn, whole]
  refine ⟨_, ?_, ?_, rfl⟩ <;>
  · unfold State.completeFrame
    dsimp only
    rw [if_neg (Bool.not_eq_true _ ▸ State.repliesFull_of_lt room), if_pos (by rw [notGood]; rfl)]
    rfl

/-- The frame of a payload that fits is read back as it was made (R200). -/
theorem completeFrame_frameOf {s : State} {kind tag : Byte} {payload : List Byte} (short : payload.length ≤ 56)
    (room : s.lp.replies.length < 4) {c : Instr} (parsed : parseRequest kind tag payload = .request c) :
    s.completeFrame runRequest (frameOf kind tag payload) = runRequest c s.hunt := by
  have hl : (byte payload.length).toNat = payload.length := by
    simp only [byte, BitVec.toNat_ofNat]
    omega
  obtain ⟨content, covered, check⟩ := frame_parts (kind := kind) (tag := tag)
    (check := lowFirst (crc16 ([byte payload.length, kind, tag] ++ payload)).toNat) hl
  have shape : frameOf kind tag payload = [0xC3, byte payload.length, kind, tag] ++ payload ++
      lowFirst (crc16 ([byte payload.length, kind, tag] ++ payload)).toNat := rfl
  have good : frameGood (frameOf kind tag payload) = true := by
    rw [shape, frameGood, check, covered]
    simp
  unfold State.completeFrame
  dsimp only
  rw [if_neg (Bool.not_eq_true _ ▸ State.repliesFull_of_lt room), if_neg (by simp [good])]
  have kindByte : (frameOf kind tag payload).getD 2 0 = kind := rfl
  have tagByte : (frameOf kind tag payload).getD 3 0 = tag := rfl
  rw [kindByte, tagByte, shape, content, parsed]

/-- Settles O7: the frame's own bytes are its request, which runs with the assembler back in HUNTING. -/
theorem completedFrameRunsItsRequest : Obligations.CompletedFrameRunsItsRequest := by
  intro c s bytes w last hc wellFormed released room inFrame taken frame
  obtain ⟨parsed, short⟩ := requestPayloadsParseBack c hc wellFormed
  have length : bytes.length + 1 = c.payload.length + 6 := by
    have := congrArg List.length frame
    simp only [frameOf, List.length_append, List.length_cons, List.length_nil, lowFirst_length] at this
    omega
  have completes : frameCompletes bytes = true := by
    obtain _ | ⟨b0, _ | ⟨b1, rest⟩⟩ := bytes
    · simp at length
    · simp at length
    have second : b1 = byte c.payload.length := by
      have := congrArg (·[1]?) frame
      simpa [frameOf, eq_comm] using this
    have hl : (byte c.payload.length).toNat = c.payload.length := by
      simp only [byte, BitVec.toNat_ofNat]
      omega
    simp only [frameCompletes, frameLength, List.getElem?_cons_succ, List.getElem?_cons_zero, Option.map_some, second, hl,
      beq_iff_eq, Option.some.injEq]
    exact length.symm
  obtain ⟨complete, byteIn⟩ := exec_completing released inFrame taken completes
  rw [← frame, completeFrame_frameOf short (by exact room) parsed, runRequest_eq c hc] at complete byteIn
  refine ⟨complete, byteIn, fun takes => ?_⟩
  have taken' : (s.setLine .mark).hunt.takes c := takes
  obtain ⟨replies, -⟩ := requestOwner_plain c (s.setLine .mark).hunt
  have hunting : (requestOwner c (s.setLine .mark).hunt).1.lp.assembler = .hunting := by
    by_cases full : ∃ tag, c = .restartFull tag
    · obtain ⟨tag, rfl⟩ := full
      rfl
    · rw [(requestOwner_changes (R := True) c (fun _ => trivial) taken' fun tag e => full ⟨tag, e⟩).lp]
      rfl
  rw [complete, byteIn]
  exact ⟨_, _, _, exec_taken c hc taken', exec_taken c hc taken', hunting, replies⟩

end Sys2Proof.Machine
end

section
/-! Bytes of the link, and the resets. -/

namespace Sys2Proof.Machine

/-! ### Bytes of the link (R201) -/

/-- A byte taken is received with the line at mark. -/
theorem exec_byteReceived_mark {s : State} {w v : Byte} (released : s.resetHeld = false) (taken : s.takesByte w v) :
    exec (.byteReceived ⟨w, .mark⟩) s = (s.setLine .mark).receiveByte v := by
  show execByteReceived ⟨w, .mark⟩ s = _
  rw [State.takesByte_iff] at taken
  unfold execByteReceived
  rw [if_neg (by simp [released]), taken]

theorem exec_byte_hunting {s : State} {w v : Byte} (released : s.resetHeld = false) (taken : s.takesByte w v)
    (hunting : s.lp.assembler = .hunting) :
    exec (.byteReceived ⟨w, .mark⟩) s = .next ((s.setLine .mark).huntByte v) := by
  rw [exec_byteReceived_mark released taken, State.receiveByte, State.setLine_assembler, hunting]

theorem exec_byte_inFrame {s : State} {w v : Byte} {bytes : List Byte} (released : s.resetHeld = false)
    (taken : s.takesByte w v) (inFrame : s.lp.assembler = .inFrame bytes) (incomplete : frameCompletes bytes = false) :
    exec (.byteReceived ⟨w, .mark⟩) s = .next ((s.setLine .mark).frameByte bytes v) := by
  rw [exec_byteReceived_mark released taken, State.receiveByte, State.setLine_assembler, inFrame]
  dsimp only
  rw [if_neg (by simp [incomplete])]

theorem State.huntByte_start (s : State) : s.huntByte Config.startByte = s.assemble [Config.startByte] := if_pos rfl

theorem State.huntByte_other {s : State} {v : Byte} (h : v ≠ Config.startByte) : s.huntByte v = s := if_neg h

/-- The length byte that is too long ends the frame (R201). -/
theorem State.frameByte_tooLong (s : State) (start v : Byte) (long : Config.payload < v.toNat) :
    s.frameByte [start] v = s.hunt.huntByte v := if_pos ⟨rfl, long⟩

theorem State.frameByte_length (s : State) (start v : Byte) (short : v.toNat ≤ Config.payload) :
    s.frameByte [start] v = s.assemble [start, v] := if_neg fun h => absurd h.2 (Nat.not_lt.2 short)

theorem State.frameByte_later (s : State) (start length v : Byte) (more : List Byte) :
    s.frameByte (start :: length :: more) v = s.assemble (start :: length :: more ++ [v]) :=
  if_neg fun h => by simp at h

theorem frameCompletes_start (start : Byte) : frameCompletes [start] = false := rfl

theorem frameCompletes_of_ne {start length : Byte} {more : List Byte} (h : more.length + 3 ≠ length.toNat + 6) :
    frameCompletes (start :: length :: more) = false := by
  simp only [frameCompletes, frameLength, List.getElem?_cons_succ, List.getElem?_cons_zero, Option.map_some,
    List.length_cons, beq_eq_false_iff_ne, ne_eq, Option.some.injEq]
  omega

/-- Settles O9. -/
theorem linkEventsActOnTheLink : Obligations.LinkEventsActOnTheLink := by
  refine ⟨fun s w v released taken => ?bytes, fun s released => ?events, fun s v released => ?space, fun s quiet => ?line⟩
  case bytes =>
    refine ⟨fun hunting other => ?_, fun hunting start => ?_, fun start inFrame long other => ?_,
      fun start inFrame again => ?_, fun start inFrame short => ?_, fun start length more inFrame incomplete => ?_⟩
    · rw [exec_byte_hunting released taken hunting, State.huntByte_other other]
      rfl
    · rw [exec_byte_hunting released taken hunting, start, State.huntByte_start]
      rfl
    · rw [exec_byte_inFrame released taken inFrame (frameCompletes_start start), State.frameByte_tooLong _ _ _ long,
        State.huntByte_other other]
      rfl
    · rw [exec_byte_inFrame released taken inFrame (frameCompletes_start start), again,
        State.frameByte_tooLong _ _ _ (by decide), State.huntByte_start]
      rfl
    · rw [exec_byte_inFrame released taken inFrame (frameCompletes_start start), State.frameByte_length _ _ _ short]
      rfl
    · rw [exec_byte_inFrame released taken inFrame (frameCompletes_of_ne incomplete), State.frameByte_later]
      rfl
  case events =>
    refine ⟨fun bytes n inFrame runs => ?_, fun stopped => ?_, event_taken released, ?_⟩
    · show event State.gapExpired s = _
      rw [event_taken released, State.gapExpired, inFrame, runs]
      rfl
    · show event State.gapExpired s = _
      rw [event_taken released, State.gapExpired, stopped]
      cases s.lp.assembler <;> rfl
    · show event State.replyOut s = _
      rw [event_taken released, State.replyOut, List.drop_one]
  case space =>
    have held : exec (.byteReceived ⟨v, .space⟩) s = .next (s.setLine (s.lp.line.holding v)) := by
      show execByteReceived ⟨v, .space⟩ s = _
      unfold execByteReceived
      rw [if_neg (by simp [released])]
    rw [held]
    refine ⟨fun h full => ?_, fun free => ?_⟩
    · rw [full, ReceiveLine.holding, ← full]
      rfl
    · cases hl : s.lp.line with
      | heldBack h => exact absurd hl (free h)
      | mark => rfl
      | space => rfl
  case line =>
    have nothing : s.sending = none := by
      unfold State.sending
      obtain empty | held := quiet
      · rw [empty]
        split <;> rfl
      · rw [if_pos held]
    rw [State.transmitLevel, nothing]
    rfl

/-! ### Resets -/

theorem ReceiveLine.emptied_eq (l : ReceiveLine) : l.emptied = if l = .mark then .mark else .space := by
  cases l <;> rfl

/-- An event does nothing while the reset pin is held. -/
theorem event_held {act : State → State} {s : State} (h : s.resetHeld = true) : event act s = .next s := by
  rw [event, if_pos h]

/-- While the reset pin is held nothing but POWER_ON, the pin and the sense lines acts. -/
theorem exec_held {c : Instr} {s : State} (held : s.resetHeld = true) (powerOn : c ≠ .powerOn)
    (pin : c ≠ .resetPinAsserted) (sense : ∀ x k, c ≠ .senseChange x k) : exec c s = .next s := by
  obtain hc | hc | ⟨v, rfl⟩ | ⟨v, rfl⟩ | rfl | rfl | ⟨x, k, rfl⟩ := command_sort c
  · rw [exec_request c hc, serve_held _ held]
  · rw [hc, event_held held]
  · exact if_pos (.inl held)
  · exact if_pos held
  · exact absurd rfl powerOn
  · exact absurd rfl pin
  · exact absurd rfl (sense x k)

/-- Settles O11. -/
theorem resetsSetEveryBlock : Obligations.ResetsSetEveryBlock := by
  refine ⟨fun s => ⟨s.powerUp, rfl, ?_, fun tag taken => exec_taken _ rfl taken⟩, fun s => ⟨?_, fun held => ?_⟩⟩
  · rw [State.powerUp, ReceiveLine.emptied_eq]
    rfl
  · show execResetPinAsserted s = _
    rw [execResetPinAsserted, ReceiveLine.emptied_eq]
    rfl
  · refine ⟨by simp [State.readyHigh, held], by simp [State.attentionAsserted, held], by simp [State.sending, held],
      fun x keyboard => ?_, fun c powerOn pin sense => exec_held held powerOn pin sense⟩
    show Host.Outcome.next (if s.resetHeld then _ else _) = _
    rw [if_pos held]
    rfl

end Sys2Proof.Machine
end

section
/-! The configuration, and the requests and updates of the Word Table. -/

namespace Sys2Proof.Machine

/-! ### What an owner answers -/

@[simp] theorem State.refuseIf_false (s : State) (st : Status) (a : Answer) : s.refuseIf false st a = a := rfl

@[simp] theorem State.refuseIf_true (s : State) (st : Status) (a : Answer) : s.refuseIf true st a = s.deny st := rfl

/-- A request that is taken replies with what its owner answers. -/
theorem exec_answer {c : Instr} {s t : State} {st : Status} {contents : List Byte} (hc : c.isRequest = true)
    (taken : s.takes c) (h : requestOwner c s = (t, st, contents)) : exec c s = .next (t.replied c st contents) := by
  rw [exec_taken c hc taken, h]

/-! ### Numbers on the link -/

@[simp] theorem byte_toNat (v : Byte) : byte v.toNat = v := by
  simp [byte]

theorem lowFirst_toNat (w : Word16) : lowFirst w.toNat = [loByte w, hiByte w] := by
  have low : byte w.toNat = loByte w := by
    refine BitVec.eq_of_toNat_eq ?_
    simp [byte, loByte, BitVec.extractLsb'_toNat]
  have high : byte (w.toNat / 256) = hiByte w := by
    refine BitVec.eq_of_toNat_eq ?_
    simp [byte, hiByte, BitVec.extractLsb'_toNat, Nat.shiftRight_eq_div_pow]
  rw [lowFirst, low, high]

/-! ### CONFIGURE (R210, R211) -/

theorem configOf_bytes (im : ConfigImage) : (configOf im).bytes = im.payload := by
  simp only [Configuration.bytes, configOf, lowFirst_toNat, byte_toNat]
  rfl

theorem inRange_iff {low high n : Nat} : inRange low high n = true ↔ low ≤ n ∧ n ≤ high := by
  simp [inRange]

/-- The ranges of R210, and the refill target above the refill mark. -/
theorem configOf_valid_iff (im : ConfigImage) : (configOf im).valid = true ↔
    1 ≤ im.scanDivisor.toNat ∧ 1 ≤ im.tickDivisor.toNat ∧ 1 ≤ im.debounceCount.toNat ∧ im.debounceCount.toNat ≤ 15 ∧
      50 ≤ im.holdLimit.toNat ∧ im.holdLimit.toNat ≤ 2000 ∧ 100 ≤ im.idleLimit.toNat ∧ im.idleLimit.toNat ≤ 6000 ∧
      im.nudgeLimit.toNat ≤ 3 ∧ 1 ≤ im.tryLimit.toNat ∧ im.tryLimit.toNat ≤ 3 ∧ 1 ≤ im.letterMissLimit.toNat ∧
      im.letterMissLimit.toNat ≤ 5 ∧ im.repeatLimit.toNat ≤ 5 ∧ im.reinsertGap.toNat ≤ 7 ∧ im.refillMark.toNat ≤ 5 ∧
      1 ≤ im.refillTarget.toNat ∧ im.refillTarget.toNat ≤ 8 ∧ 1 ≤ im.masteryStreak.toNat ∧
      im.masteryStreak.toNat ≤ 15 ∧ 1 ≤ im.logThreshold.toNat ∧ im.logThreshold.toNat ≤ 31 ∧
      im.refillMark.toNat < im.refillTarget.toNat := by
  have scan : im.scanDivisor.toNat ≤ 65535 := Nat.le_of_lt_succ im.scanDivisor.isLt
  have tick : im.tickDivisor.toNat ≤ 255 := Nat.le_of_lt_succ im.tickDivisor.isLt
  have order : decide ((configOf im).refillMark < (configOf im).refillTarget) = true ↔
      im.refillMark.toNat < im.refillTarget.toNat := decide_eq_true_iff
  simp only [Configuration.valid, Bool.and_eq_true, inRange_iff, order]
  simp only [configOf]
  omega

/-- The threshold flag follows the log, and the cause follows the flag (R101). -/
theorem State.evaluateThreshold_raised (s : State) : s.evaluateThreshold.au =
    { s.au with raised := if decide (s.cfg.logThreshold < s.rl.records.length) = true ∧ s.rl.threshold = false
      then s.au.raised ||| 32#16 else s.au.raised } := by
  unfold State.evaluateThreshold
  cases decide (s.cfg.logThreshold < s.rl.records.length) <;> cases s.rl.threshold <;> rfl

/-- Settles O13: R210's ranges are the check, and the stored fields are sent back as they came. -/
theorem configureStoresAllOrNone : Obligations.ConfigureStoresAllOrNone := by
  intro s tag tag' im taken
  refine ⟨fun good => ⟨({ s with cfg := configOf im } : State).evaluateThreshold, ?_, ?_, ?_, ?_, ?_, ?_, ?_, ?_⟩,
    fun bad => ?_⟩
  · refine exec_answer rfl taken ?_
    show configureOwner im s = _
    rw [configureOwner, (configOf_valid_iff im).2 good]
    rfl
  · rw [State.evaluateThreshold_only]
  · rw [State.evaluateThreshold_only]
    rfl
  · rw [State.evaluateThreshold_raised, State.evaluateThreshold_only]
  · rw [State.evaluateThreshold_only]
  · rw [State.evaluateThreshold_raised]
  · rw [State.evaluateThreshold_only]
  · intro taken'
    refine exec_answer rfl taken' ?_
    show readConfigOwner _ = _
    rw [readConfigOwner, ← configOf_bytes, State.evaluateThreshold_only]
    rfl
  · refine exec_answer rfl taken ?_
    have invalid : (configOf im).valid = false := by
      rw [← Bool.not_eq_true, configOf_valid_iff]
      omega
    show configureOwner im s = _
    rw [configureOwner, invalid]
    rfl

/-! ### DROP_WORD, QUEUE_WORD, CLEAR_QUEUE (R7, R18, R19) -/

/-- Settles O16. -/
theorem wordRequestsChangeWhatTheyName : Obligations.WordRequestsChangeWhatTheyName := by
  intro s tag slot queue position q e front
  refine ⟨fun taken low stands loose => exec_answer rfl taken ?_,
    fun taken hq hf low noHold occupied own loose room => exec_answer rfl taken ?_,
    fun taken hq noDuel => exec_answer rfl taken ?_⟩
  · show dropWordOwner slot s = _
    simp only [dropWordOwner, decide_eq_false (Nat.not_le.2 low), beq_eq_false_iff_ne.2 stands, loose,
      State.refuseIf_false]
    rfl
  · show queueWordOwner queue slot position s = _
    simp only [queueWordOwner, hq, hf, if_pos low, State.queueWordAt, if_neg noHold, occupied, own, bne_self_eq_false,
      loose, decide_eq_false (Nat.not_le.2 room), State.refuseIf_false]
    rfl
  · show clearQueueOwner queue s = _
    have allowed : (q == .duel && s.duelRuns) = false := by
      cases q with
      | practice x => rfl
      | duel => rw [noDuel rfl]; rfl
    simp only [clearQueueOwner, hq, allowed, State.refuseIf_false]
    rfl

/-! ### Progress and reinsertion (R8, R17, R43, R44) -/

theorem State.entry_of_slot {s : State} {n : Nat} {e : WordEntry} {p : Bool} (h : s.slot n = .occupied e p) :
    s.entry n = some e := by
  rw [State.entry, h]

/-- An update is stored where the word stands, and nowhere else. -/
theorem State.applyProgress_occupied {s : State} {n : Nat} {e : WordEntry} {p : Bool} (h : s.slot n = .occupied e p)
    (u : ProgressUpdate) : s.applyProgress n u = s.setSlot n (.occupied (storeProgress u e) p) := by
  rw [State.applyProgress, h]

theorem State.applyProgress_none {s : State} {n : Nat} (h : s.entry n = none) (u : ProgressUpdate) :
    s.applyProgress n u = s := by
  unfold State.entry at h
  unfold State.applyProgress
  cases hs : s.slot n <;> simp_all

theorem State.progressFor_uncounted (s : State) (n : Nat) {o : AttemptEnd} (m : Option MistakeCode)
    (h : o.counted = false) : s.progressFor n o m = none := by
  simp [State.progressFor, h]

theorem State.progressFor_counted {s : State} {n : Nat} {e : WordEntry} {o : AttemptEnd} (m : Option MistakeCode)
    (entry : s.entry n = some e) (h : o.counted = true) :
    s.progressFor n o m = some (progressOf o s.cfg.masteryStreak m e) := by
  simp [State.progressFor, h, entry]

theorem ite_true_eq_true_iff (p : Prop) [Decidable p] (b : Bool) : (if p then true else b) = true ↔ p ∨ b = true := by
  by_cases h : p <;> simp [h]

/-- What a counted outcome makes of a word's box, streak and mastery, under the box law (R8, R44). -/
theorem storeProgress_progressOf {o : AttemptEnd} {k : Nat} {m : Option MistakeCode} {e : WordEntry} (box : e.box ≤ 4) :
    let f := storeProgress (progressOf o k m e) e
    f.box = (match o with | .correct => min (e.box + 1) 4 | .miss => 0 | _ => e.box) ∧
    (f.mastered = true ↔ f.box = 4 ∧ (k ≤ f.streak ∨ e.mastered = true)) := by
  have rise : (progressOf o k m e).box = (match o with | .correct => min (e.box + 1) 4 | .miss => 0 | _ => e.box) := rfl
  have capped : (progressOf o k m e).box ≤ 4 := by
    rw [rise]
    cases o <;> dsimp only <;> omega
  have stored : (storeProgress (progressOf o k m e) e).box = (progressOf o k m e).box := Nat.min_eq_left capped
  refine ⟨stored.trans rise, ?_⟩
  rw [stored]
  have mastered : (storeProgress (progressOf o k m e) e).mastered =
      ((progressOf o k m e).mastered && decide ((progressOf o k m e).box = 4)) := by
    rw [← stored]
    rfl
  rw [mastered, Bool.and_eq_true, decide_eq_true_eq, and_comm]
  refine and_congr_right fun four => ?_
  have rule : (progressOf o k m e).mastered =
      if (progressOf o k m e).box = 4 then (if k ≤ (progressOf o k m e).streak then true else e.mastered) else false := rfl
  rw [rule, if_pos four]
  exact ite_true_eq_true_iff _ _

theorem insertIdx_eq_take_append_drop {α : Type} (x : α) : ∀ (i : Nat) (l : List α), i ≤ l.length →
    l.insertIdx i x = l.take i ++ x :: l.drop i
  | 0, _, _ => rfl
  | i + 1, [], h => absurd h (Nat.not_succ_le_zero i)
  | i + 1, y :: l, h => by
    rw [List.insertIdx_succ_cons, insertIdx_eq_take_append_drop x i l (Nat.le_of_succ_le_succ h)]
    rfl

/-- A word is put back into the first seven of a queue (R17). -/
theorem putBack_eq {l : List Nat} (n index : Nat) (h : l.length ≤ 8) :
    putBack l n index = (l.take 7).take index ++ n :: (l.take 7).drop index := by
  have short : (if l.length < 8 then l else l.take 7) = l.take 7 := by
    split
    · rw [List.take_of_length_le (by omega)]
    · rfl
  show (if l.length < 8 then l else l.take 7).insertIdx (min index (if l.length < 8 then l else l.take 7).length) n = _
  rw [short, insertIdx_eq_take_append_drop n _ _ (Nat.min_le_right _ _)]
  by_cases inside : index ≤ (l.take 7).length
  · rw [Nat.min_eq_left inside]
  · have beyond := Nat.le_of_not_le inside
    rw [Nat.min_eq_right beyond, List.take_length, List.drop_length, List.take_of_length_le beyond,
      List.drop_of_length_le beyond]

/-- Settles O17. -/
theorem outcomeMovesTheWord : Obligations.OutcomeMovesTheWord := by
  refine ⟨fun s n e p o m slot lawful => ⟨?_, fun uncounted => ?_, fun counted => ?_, fun t u none => ?_⟩,
    fun s q n e entry few => ⟨fun o => ?_, ?_, ?_, ?_⟩⟩
  · cases o <;> simp [AttemptEnd.counted]
  · exact s.progressFor_uncounted n m uncounted
  · have box : e.box ≤ 4 := by
      obtain ⟨-, -, -, -, -, -, -, -, box, -⟩ := lawful
      exact box
    obtain ⟨newBox, mastered⟩ := storeProgress_progressOf (o := o) (k := s.cfg.masteryStreak) (m := m) box
    rw [State.progressFor_counted m (State.entry_of_slot slot) counted]
    refine ⟨_, State.applyProgress_occupied slot _, newBox, ?_, rfl, ?_, mastered, ?_, rfl⟩
    · cases o <;> rfl
    · cases o <;> rfl
    · cases m <;> rfl
  · exact State.applyProgress_none none u
  · cases o <;> simp [AttemptEnd.reinsert]
  · simp only [State.reinsert, entry]
  · simp only [State.reinsert, entry, putBack_eq n 0 few, List.take_zero, List.drop_zero, List.nil_append]
  · simp only [State.reinsert, entry, putBack_eq n _ few]

end Sys2Proof.Machine
end

section
/-! PUT_WORD: the word entry layout is read back as the entry it was made of. -/

namespace Sys2Proof.Machine

/-! ### Fields of the layout -/

theorem toNat_byte {n : Nat} (h : n < 256) : (byte n).toNat = n := by
  simp only [byte, BitVec.toNat_ofNat]
  omega

theorem toNat_word16_bytes {n : Nat} (h : n < 65536) : (word16 (byte n) (byte (n / 256))).toNat = n := by
  simp only [word16, byte, BitVec.toNat_append, BitVec.toNat_ofNat]
  rw [Nat.shiftLeft_eq, Nat.mul_comm, ← Nat.two_pow_add_eq_or_of_lt]
  · omega
  · omega

theorem ownerOf_code (o : Owner) : ownerOf (byte (ownerCode o)) = some o := by
  cases o <;> rfl

theorem clipIdOf_byte {id : Nat} (low : 1 ≤ id) (high : id ≤ Config.clips) : clipIdOf (byte id) = some id := by
  have small : id ≤ 160 := high
  rw [clipIdOf, toNat_byte (by omega), if_neg (by omega)]

theorem clipRefOf_byte {r : Option Nat} (h : ∀ id, r = some id → 1 ≤ id ∧ id ≤ Config.clips) :
    clipRefOf (byte (orZero r)) = some r := by
  cases r with
  | none => rfl
  | some id =>
    obtain ⟨low, high⟩ := h id rfl
    have small : id ≤ 160 := high
    show clipRefOf (byte id) = _
    rw [clipRefOf, toNat_byte (by omega), if_neg (by omega), if_neg (by omega)]

theorem letterRefOf_byte {r : Option Nat} (h : ∀ l, r = some l → letterGood l) :
    letterRefOf (byte (orZero r)) = some r := by
  cases r with
  | none => rfl
  | some l =>
    obtain ⟨low, high⟩ := h l rfl
    have small : l ≤ 27 := high
    show letterRefOf (byte l) = _
    rw [letterRefOf, toNat_byte (by omega), if_neg (by omega), if_neg (by omega)]

theorem mistakeKindOf_code (k : MistakeKind) : mistakeKindOf (mistakeKindCode k) = some k := by
  cases k <;> rfl

theorem mistakeKindCode_range (k : MistakeKind) : 1 ≤ mistakeKindCode k ∧ mistakeKindCode k ≤ 6 := by
  cases k <;> decide

theorem letterClass_le (l : Option Nat) : letterClass l ≤ 3 := by
  unfold letterClass
  repeat' split
  all_goals omega

/-- The four bytes of a mistake code give it back (R218). -/
theorem mistakeOf_bytes {m : Option MistakeCode} (h : mistakeGood m) :
    ∃ k p x t, mistakeBytes m = [k, p, x, t] ∧ mistakeOf k p x t = some m := by
  cases m with
  | none => exact ⟨0, 0, 0, 0, rfl, rfl⟩
  | some m =>
    obtain ⟨position, expected, typed⟩ := h m rfl
    refine ⟨_, _, _, _, rfl, ?_⟩
    obtain ⟨low, high⟩ := mistakeKindCode_range m.kind
    have cls := letterClass_le m.expected
    have kind : (byte (mistakeKindCode m.kind + 16 * letterClass m.expected)).toNat % 16 = mistakeKindCode m.kind := by
      rw [toNat_byte (by omega)]
      omega
    rw [mistakeOf, kind]
    rw [if_neg (by omega), mistakeKindOf_code, letterRefOf_byte expected, letterRefOf_byte typed]
    dsimp only
    rw [toNat_byte (by omega), if_pos position]

/-! ### The spelling -/

theorem padTo_length {n : Nat} (v : Byte) (bs : List Byte) : (padTo n v bs).length = n := by
  simp only [padTo, List.length_take, List.length_append, List.length_replicate]
  omega

theorem take_padTo {n : Nat} (v : Byte) {bs : List Byte} (h : bs.length ≤ n) : (padTo n v bs).take bs.length = bs := by
  rw [padTo, List.take_take, Nat.min_eq_left h, List.take_left]

theorem map_toNat_map_byte {l : List Nat} (h : ∀ n ∈ l, n < 256) : (l.map byte).map (·.toNat) = l := by
  rw [List.map_map]
  exact (List.map_congr_left fun n hn => toNat_byte (h n hn)).trans (List.map_id l)

/-! ### The entry -/

/-- The image that the layout of an entry spells. -/
def WordEntry.image (e : WordEntry) (kind position expected typed : Byte) : WordImage :=
  { wordId := word16 (byte e.wordId) (byte (e.wordId / 256))
    owner := byte (ownerCode e.owner)
    length := byte e.spelling.length
    letters := padTo 16 0 (e.spelling.map byte)
    wordClip := byte e.wordClip
    sentenceClip := byte (orZero e.sentenceClip)
    hintClip := byte (orZero e.hintClip)
    box := byte e.box
    streak := byte e.streak
    attempts := byte e.attempts
    misses := byte e.misses
    rest := byte e.rest
    mastered := byte (bit e.mastered)
    mistakeKind := kind
    mistakePosition := position
    mistakeExpected := expected
    mistakeTyped := typed }

theorem imageSpelling_image {e : WordEntry} (some' : 0 < e.spelling.length) (good : lettersGood e.spelling)
    (k p x t : Byte) : imageSpelling (e.image k p x t) = some e.spelling := by
  obtain ⟨length, letters⟩ := good
  have short : e.spelling.length ≤ 16 := length
  have small : ∀ n ∈ e.spelling, n < 256 := fun n hn => by
    have : n ≤ 27 := (letters n hn).2
    omega
  have len : (e.image k p x t).length.toNat = e.spelling.length := toNat_byte (by omega)
  have same : ((e.image k p x t).letters.take (e.image k p x t).length.toNat).map (·.toNat) = e.spelling := by
    rw [len]
    have taken := take_padTo (n := 16) 0 (bs := e.spelling.map byte) (by simpa using short)
    rw [List.length_map] at taken
    show ((padTo 16 0 (e.spelling.map byte)).take e.spelling.length).map (·.toNat) = _
    rw [taken, map_toNat_map_byte small]
  unfold imageSpelling
  rw [same, len]
  refine if_pos ⟨some', short, ?_⟩
  rw [List.all_eq_true]
  exact fun n hn => decide_eq_true (letters n hn)

/-- A lawful entry comes back from its image. -/
theorem imageEntry_image {e : WordEntry} (lawful : e.lawful) {k p x t : Byte} (mistake : mistakeOf k p x t = some e.lastMistake) :
    imageEntry (e.image k p x t) = some e := by
  obtain ⟨id0, id, spelled, letters, clip1, clip, sentence, hint, box, streak, attempts, misses, rest, mastered, -⟩ :=
    lawful
  have wordId : (e.image k p x t).wordId.toNat = e.wordId := toNat_word16_bytes id
  have boxBack : (e.image k p x t).box.toNat = e.box := toNat_byte (by omega)
  have streakBack : (e.image k p x t).streak.toNat = e.streak := toNat_byte (by omega)
  have attemptsBack : (e.image k p x t).attempts.toNat = e.attempts := toNat_byte (by omega)
  have missesBack : (e.image k p x t).misses.toNat = e.misses := toNat_byte (by omega)
  have restBack : (e.image k p x t).rest.toNat = e.rest := toNat_byte (by omega)
  have masteredBack : (e.image k p x t).mastered.toNat = bit e.mastered := by
    exact toNat_byte (by cases e.mastered <;> decide)
  have progress : imageProgressGood (e.image k p x t) = true := by
    rw [imageProgressGood, boxBack, streakBack, masteredBack]
    cases hm : e.mastered with
    | false => simpa [bit] using ⟨box, streak⟩
    | true => simpa [bit, mastered hm] using streak
  have ownerBack : ownerOf (e.image k p x t).owner = some e.owner := ownerOf_code e.owner
  have clipBack : clipIdOf (e.image k p x t).wordClip = some e.wordClip := clipIdOf_byte clip1 clip
  have sentenceBack : clipRefOf (e.image k p x t).sentenceClip = some e.sentenceClip := clipRefOf_byte sentence
  have hintBack : clipRefOf (e.image k p x t).hintClip = some e.hintClip := clipRefOf_byte hint
  have mistakeBack : mistakeOf (e.image k p x t).mistakeKind (e.image k p x t).mistakePosition
      (e.image k p x t).mistakeExpected (e.image k p x t).mistakeTyped = some e.lastMistake := mistake
  unfold imageEntry
  rw [ownerBack, imageSpelling_image spelled letters, clipBack, sentenceBack, hintBack, mistakeBack]
  dsimp only
  rw [if_pos ⟨by omega, progress⟩, wordId, boxBack, streakBack, attemptsBack, missesBack, restBack, masteredBack]
  have flag : (bit e.mastered == 1) = e.mastered := by
    cases e.mastered <;> rfl
  rw [flag]

/-- The layout of an entry spells PUT_WORD with its image. -/
theorem parseRequest_wordBytes (tag : Byte) (n : Nat) {e : WordEntry} {k p x t : Byte}
    (mistake : mistakeBytes e.lastMistake = [k, p, x, t]) :
    parseRequest 0x08 tag (wordBytes n e) = .request (.putWord tag (byte n) (e.image k p x t)) := by
  have letters : (padTo 16 0 (e.spelling.map byte)).length = 16 := padTo_length _ _
  have split : ∀ rest : List Byte, (padTo 16 0 (e.spelling.map byte) ++ rest).take 16 = padTo 16 0 (e.spelling.map byte) ∧
      (padTo 16 0 (e.spelling.map byte) ++ rest).drop 16 = rest := fun rest =>
    ⟨by rw [List.take_append_of_le_length (by omega), List.take_of_length_le (by omega)],
      by rw [List.drop_append_of_le_length (by omega), List.drop_of_length_le (by omega), List.nil_append]⟩
  show parsePutWord tag (wordBytes n e) = _
  simp only [wordBytes, mistake, lowFirst, List.cons_append, List.nil_append, List.append_assoc, parsePutWord,
    (split _).1, (split _).2, parseWordTail]
  rfl

theorem State.wordIdElsewhere_eq_false {s : State} {n id : Nat}
    (h : ∀ k f, k ≠ n → s.entry k = some f → f.wordId ≠ id) : s.wordIdElsewhere n id = false := by
  rw [State.wordIdElsewhere, List.any_eq_false]
  intro k _ found
  simp only [Bool.and_eq_true, bne_iff_ne, ne_eq, Option.any_eq_true, beq_iff_eq] at found
  obtain ⟨other, f, hf, same⟩ := found
  exact h k f other hf same

/-- Settles O15. -/
theorem putWordStoresTheEntryOfItsLayout : Obligations.PutWordStoresTheEntryOfItsLayout := by
  intro s tag n e c low lawful parsed taken loose alone
  have good : mistakeGood e.lastMistake := by
    obtain ⟨-, -, -, -, -, -, -, -, -, -, -, -, -, -, good⟩ := lawful
    exact good
  obtain ⟨k, p, x, t, bytes, mistake⟩ := mistakeOf_bytes good
  rw [parseRequest_wordBytes tag n bytes] at parsed
  cases parsed
  refine exec_answer rfl taken ?_
  have slot : (byte n).toNat = n := toNat_byte (by omega)
  show putWordOwner (byte n) (e.image k p x t) s = _
  rw [putWordOwner, imageEntry_image lawful mistake, slot]
  dsimp only
  rw [decide_eq_false (Nat.not_le.2 low), loose, State.wordIdElsewhere_eq_false alone]
  rfl

end Sys2Proof.Machine
end

section
/-! The reads: what each reply holds, byte by byte. -/

namespace Sys2Proof.Machine

/-! ### The longest free stretch (R182) -/

/-- Blocks `b` to `b + k - 1` are free. -/
def freeRun (blocks : List (Option Nat)) (b k : Nat) : Prop := ∀ i, i < k → blocks[b + i]? = some none

/-- The longest free stretch among the first blocks, and the first of its length. -/
structure LongestRun (blocks : List (Option Nat)) (upTo b k : Nat) : Prop where
  free : freeRun blocks b k
  most : ∀ b' k', freeRun blocks b' k' → b' + k' ≤ upTo → k' ≤ k
  first : ∀ b', b' < b → ¬ freeRun blocks b' k

theorem freeRun.last {blocks : List (Option Nat)} {b k : Nat} (h : freeRun blocks b (k + 1)) :
    blocks[b + k]? = some none := h k (Nat.lt_succ_self k)

theorem freeRun.init {blocks : List (Option Nat)} {b k : Nat} (h : freeRun blocks b (k + 1)) : freeRun blocks b k :=
  fun i hi => h i (Nat.lt_succ_of_lt hi)

theorem freeRun_succ {blocks : List (Option Nat)} {b k : Nat} (h : freeRun blocks b k)
    (last : blocks[b + k]? = some none) : freeRun blocks b (k + 1) := by
  intro i hi
  obtain inside | rfl := Nat.lt_succ_iff_lt_or_eq.1 hi
  · exact h i inside
  · exact last

/-- The walk keeps the stretch under way, which no other stretch up to here begins before, and the best so far. -/
theorem longestFrom_spec (blocks : List (Option Nat)) : ∀ (rest : List (Option Nat)) (i at' len bestAt bestLen : Nat),
    blocks.drop i = rest → at' + len = i → freeRun blocks at' len →
    (∀ b k, freeRun blocks b (k + 1) → b + (k + 1) = i → at' ≤ b) → LongestRun blocks i bestAt bestLen → bestAt + bestLen ≤ i →
    LongestRun blocks blocks.length (longestFrom rest i at' len bestAt bestLen).1
      (longestFrom rest i at' len bestAt bestLen).2
  | [], i, at', len, bestAt, bestLen, here, _, _, _, best, _ => by
    have beyond : blocks.length ≤ i := List.drop_eq_nil_iff.1 here
    exact ⟨best.free, fun b' k' run low => best.most b' k' run (low.trans beyond), best.first⟩
  | some v :: rest, i, at', len, bestAt, bestLen, here, ends, run, left, best, inside => by
    have block : blocks[i]? = some (some v) := by
      rw [← List.head?_drop, here]
      rfl
    have next : blocks.drop (i + 1) = rest := by
      rw [← List.drop_drop, here]
      rfl
    refine longestFrom_spec blocks rest (i + 1) (i + 1) 0 bestAt bestLen next rfl (fun j hj => absurd hj (Nat.not_lt_zero j))
      (fun b k free stop => ?_) ⟨best.free, fun b k free low => ?_, best.first⟩ (inside.trans (Nat.le_succ i))
    · have := free.last
      rw [show b + k = i by omega, block] at this
      cases this
    · cases k with
      | zero => exact Nat.zero_le _
      | succ k =>
        by_cases stop : b + (k + 1) = i + 1
        · have := free.last
          rw [show b + k = i by omega, block] at this
          cases this
        · exact best.most b (k + 1) free (by omega)
  | none :: rest, i, at', len, bestAt, bestLen, here, ends, run, left, best, inside => by
    have block : blocks[i]? = some none := by
      rw [← List.head?_drop, here]
      rfl
    have next : blocks.drop (i + 1) = rest := by
      rw [← List.drop_drop, here]
      rfl
    have longer : freeRun blocks at' (len + 1) := freeRun_succ run (by rw [ends]; exact block)
    have left' : ∀ b k, freeRun blocks b (k + 1) → b + (k + 1) = i + 1 → at' ≤ b := fun b k free stop => by
      cases k with
      | zero => omega
      | succ k => exact left b k free.init (by omega)
    unfold longestFrom
    split
    · rename_i better
      refine longestFrom_spec blocks rest (i + 1) at' (len + 1) at' (len + 1) next (by omega) longer left'
        ⟨longer, fun b k free low => ?_, fun b before free => ?_⟩ (by omega)
      · cases k with
        | zero => exact Nat.zero_le _
        | succ k =>
          by_cases stop : b + (k + 1) = i + 1
          · have := left' b k free stop
            omega
          · have := best.most b (k + 1) free (by omega)
            omega
      · have := best.most b (len + 1) free (by omega)
        omega
    · rename_i notBetter
      refine longestFrom_spec blocks rest (i + 1) at' (len + 1) bestAt bestLen next (by omega) longer left'
        ⟨best.free, fun b k free low => ?_, best.first⟩ (inside.trans (Nat.le_succ i))
      cases k with
      | zero => exact Nat.zero_le _
      | succ k =>
        by_cases stop : b + (k + 1) = i + 1
        · have := left' b k free stop
          omega
        · exact best.most b (k + 1) free (by omega)

theorem longestFree_spec (blocks : List (Option Nat)) :
    LongestRun blocks blocks.length (longestFree blocks).1 (longestFree blocks).2 :=
  longestFrom_spec blocks blocks 0 0 0 0 0 rfl rfl (fun i hi => absurd hi (Nat.not_lt_zero i))
    (fun _ _ _ stop => absurd stop (by omega))
    ⟨fun i hi => absurd hi (Nat.not_lt_zero i), fun _ _ _ low => by omega, fun b hb => absurd hb (Nat.not_lt_zero b)⟩
    (Nat.le_refl 0)

/-- The first of the longest free stretches is found, and is the only one of its kind. -/
theorem longestFree_eq {blocks : List (Option Nat)} {start len : Nat} (free : freeRun blocks start len)
    (most : ∀ b k, freeRun blocks b k → k ≤ len)
    (first : 0 < len → ∀ b, b < start → ∃ i, i < len ∧ blocks[b + i]? ≠ some none) :
    (longestFree blocks).2 = len ∧ (0 < len → (longestFree blocks).1 = start) := by
  have spec := longestFree_spec blocks
  have length : (longestFree blocks).2 = len := by
    refine Nat.le_antisymm (most _ _ spec.free) ?_
    cases len with
    | zero => exact Nat.zero_le _
    | succ k =>
      refine spec.most start (k + 1) free ?_
      obtain ⟨inside, -⟩ := List.getElem?_eq_some_iff.1 free.last
      omega
  refine ⟨length, fun pos => ?_⟩
  have found := spec.free
  have earliest := spec.first
  rw [length] at found earliest
  refine Nat.le_antisymm (Nat.le_of_not_lt fun before => earliest start before free) (Nat.le_of_not_lt fun before => ?_)
  obtain ⟨i, hi, taken⟩ := first pos _ before
  exact taken (found i hi)

/-! ### Layouts of a fixed length -/

@[simp] theorem length_mistakeBytes (m : Option MistakeCode) : (mistakeBytes m).length = 4 := by
  cases m <;> rfl

@[simp] theorem length_lowFirst (n : Nat) : (lowFirst n).length = 2 := rfl

@[simp] theorem length_recordBody (r : ResultRecord) : (recordBody r).length = 17 := by
  simp [recordBody]

@[simp] theorem length_voiceBytes (v : Option Playing) : (voiceBytes v).length = 7 := by
  cases v <;> rfl

@[simp] theorem length_lastAnnounceBytes (l : Option LastAnnouncement) : (lastAnnounceBytes l).length = 2 := by
  cases l <;> rfl

@[simp] theorem length_faultBytes (b : Bank) (f : Option HeldFault) : (faultBytes b f).length = 8 := by
  cases f <;> rfl

theorem orZero_eq (r : Option Nat) : orZero r = match r with | some n => n | none => 0 := by
  cases r <;> rfl

/-! ### READ_ATTEMPT (R52) -/

theorem length_attemptBytes (s : State) (x : Seat) : (s.attemptBytes x).length = 55 := by
  simp only [State.attemptBytes]
  cases (s.ctx x).pendingRecord <;> simp [padTo_length]

theorem State.waitStamp_eq (s : State) (x : Seat) :
    orZero (s.waitStamp x) = match s.rl.waiting.idxOf? x with | some i => i + 1 | none => 0 := by
  unfold State.waitStamp
  cases s.rl.waiting.idxOf? x <;> rfl

theorem padTo_map_byte (n : Nat) (l : List Nat) :
    padTo n 0 (l.map byte) = (l.map byte ++ List.replicate (n - l.length) 0).take n := by
  rw [padTo, List.length_map]

/-! ### READ_SPEECH (R168) -/

theorem length_entries (q : List Utterance) : (q.flatMap Utterance.entryBytes).length = 4 * q.length := by
  induction q with
  | nil => rfl
  | cons u q ih =>
    rw [List.flatMap_cons, List.length_append, ih, List.length_cons]
    simp only [Utterance.entryBytes, List.length_cons, List.length_nil]
    omega

/-- The entries of a queue stand four bytes apart. -/
theorem drop_entries : ∀ (i : Nat) (q : List Utterance), (q.flatMap Utterance.entryBytes).drop (4 * i) =
    (q.drop i).flatMap Utterance.entryBytes
  | 0, _ => rfl
  | i + 1, [] => by simp
  | i + 1, u :: q => by
    rw [List.drop_succ_cons, ← drop_entries i q, show 4 * (i + 1) = 4 + 4 * i by omega, ← List.drop_drop]
    rfl

/-- The place of one waiting entry in the padded list. -/
theorem entry_of_queue (q : List Utterance) {i : Nat} (hi : i < 6) :
    ((padTo 24 0 (q.flatMap Utterance.entryBytes)).drop (4 * i)).take 4 =
      match q[i]? with
      | some u => u.entryBytes
      | none => [0, 0, 0, 0] := by
  rw [padTo, List.drop_take, List.take_take, Nat.min_eq_left (by omega), length_entries]
  cases hq : q[i]? with
  | some u =>
    obtain ⟨inside, rfl⟩ := List.getElem?_eq_some_iff.1 hq
    rw [List.drop_append_of_le_length (by rw [length_entries]; omega), drop_entries, List.drop_eq_getElem_cons inside]
    rfl
  | none =>
    have short : q.length ≤ i := List.getElem?_eq_none_iff.1 hq
    rw [List.drop_append, List.drop_of_length_le (by rw [length_entries]; omega), List.nil_append, length_entries,
      List.drop_replicate, List.take_replicate, show min 4 (24 - 4 * q.length - (4 * i - 4 * q.length)) = 4 by omega]
    rfl

/-- The READ_SPEECH reply in its five parts. -/
theorem State.speechBytes_eq (s : State) (r : Requester) : s.speechBytes r =
    [byte (s.speechQueue r).length] ++ (padTo 24 0 ((s.speechQueue r).flatMap Utterance.entryBytes) ++
      (voiceBytes s.se.v0 ++ (voiceBytes s.se.v1 ++
        ([byte (settingCode s.se.routes.a + 2 * settingCode s.se.routes.b), byte s.se.volumeA, byte s.se.volumeB,
          byte s.se.volumeSpeaker, byte (startOrderCode s.se.startOrder)] ++ lastAnnounceBytes s.se.lastAnnounce)))) := by
  simp [State.speechBytes]

theorem length_speechBytes (s : State) (r : Requester) : (s.speechBytes r).length = 46 := by
  simp [State.speechBytes_eq, padTo_length]

theorem State.speechBytes_entry (s : State) (r : Requester) {i : Nat} (hi : i < 6) :
    ((s.speechBytes r).drop (1 + 4 * i)).take 4 = match (s.speechQueue r)[i]? with
      | some u => u.entryBytes
      | none => [0, 0, 0, 0] := by
  rw [State.speechBytes_eq, ← List.drop_drop, List.drop_left' (by rfl : List.length [byte (s.speechQueue r).length] = 1), List.drop_append_of_le_length (by rw [padTo_length]; omega),
    List.take_append_of_le_length (by rw [List.length_drop, padTo_length]; omega), entry_of_queue _ hi]

theorem State.speechBytes_voices (s : State) (r : Requester) :
    ((s.speechBytes r).drop 25).take 7 = voiceBytes s.se.v0 ∧ ((s.speechBytes r).drop 32).take 7 = voiceBytes s.se.v1 ∧
    (s.speechBytes r).drop 39 = [byte (settingCode s.se.routes.a + 2 * settingCode s.se.routes.b), byte s.se.volumeA,
      byte s.se.volumeB, byte s.se.volumeSpeaker, byte (startOrderCode s.se.startOrder)] ++
        lastAnnounceBytes s.se.lastAnnounce := by
  have queue : (s.speechBytes r).drop 25 = voiceBytes s.se.v0 ++ (voiceBytes s.se.v1 ++
      ([byte (settingCode s.se.routes.a + 2 * settingCode s.se.routes.b), byte s.se.volumeA, byte s.se.volumeB,
        byte s.se.volumeSpeaker, byte (startOrderCode s.se.startOrder)] ++ lastAnnounceBytes s.se.lastAnnounce)) := by
    rw [State.speechBytes_eq, show 25 = 1 + 24 from rfl, ← List.drop_drop]
    exact List.drop_left' (padTo_length _ _)
  have v0 : (s.speechBytes r).drop 32 = ((s.speechBytes r).drop 25).drop 7 := by rw [List.drop_drop]
  have v1 : (s.speechBytes r).drop 39 = ((s.speechBytes r).drop 32).drop 7 := by rw [List.drop_drop]
  refine ⟨?_, ?_, ?_⟩
  · rw [queue, List.take_left' (length_voiceBytes _)]
  · rw [v0, queue, List.drop_left' (length_voiceBytes _), List.take_left' (length_voiceBytes _)]
  · rw [v1, v0, queue, List.drop_left' (length_voiceBytes _), List.drop_left' (length_voiceBytes _)]

/-! ### Every read -/

theorem length_duelBytes (s : State) : s.duelBytes.length = 18 := by
  simp [State.duelBytes]

theorem length_recordBytes (r : ResultRecord) : (recordBytes r).length = 19 := by
  simp [recordBytes]

theorem State.freeCount_eq (s : State) : s.freeCount = s.cs.blocks.count none := by
  unfold State.freeCount
  rw [List.count_eq_countP]
  refine congrArg (fun p => s.cs.blocks.countP p) (funext fun v => ?_)
  cases v <;> rfl

theorem State.validBanks_eq (s : State) : s.validBanks =
    (if s.fb.link.held.isSome then 1 else 0) + (if s.fb.scan.held.isSome then 2 else 0) +
      (if s.fb.audio.held.isSome then 4 else 0) + (if s.fb.lesson.held.isSome then 8 else 0) := by
  have weighted : ∀ (k : Nat) (b : Bool), k * bit b = if b then k else 0 := fun k b => by
    cases b <;> simp
  simp only [State.validBanks, weighted]

/-- The count by a clip's code is the count by its state. -/
theorem State.clipsIn_eq (s : State) : s.clipsIn 0 = s.cs.directory.countP (·.isNone) ∧
    s.clipsIn 1 = s.clipsInState .loading ∧ s.clipsIn 2 = s.clipsInState .verifying ∧
    s.clipsIn 3 = s.clipsInState .ready ∧ s.clipsIn 4 = s.clipsInState .bad ∧ s.clipsIn 5 = s.clipsInState .retiring := by
  have same : ∀ p q : Option Clip → Bool, (∀ c, p c = q c) → s.cs.directory.countP p = s.cs.directory.countP q :=
    fun p q h => congrArg (fun p => s.cs.directory.countP p) (funext h)
  have code : ∀ c : Clip, clipStateCode (some c) = match c.state with
      | .loading => 1 | .verifying => 2 | .ready => 3 | .bad => 4 | .retiring => 5 := fun c => rfl
  refine ⟨same _ _ fun c => ?_, same _ _ fun c => ?_, same _ _ fun c => ?_, same _ _ fun c => ?_, same _ _ fun c => ?_,
    same _ _ fun c => ?_⟩
  all_goals
    cases c with
    | none => rfl
    | some c =>
      simp only [code]
      cases hc : c.state <;> simp [hc]

theorem length_storeBytesReply (s : State) : s.storeBytesReply.length = 16 := by
  have unit : s.verifyBytes.length = 4 := by
    unfold State.verifyBytes
    split <;> rfl
  simp [State.storeBytesReply, unit]

theorem length_clipBytes (s : State) (id : Nat) : (s.clipBytes id).length = 16 := by
  unfold State.clipBytes
  split <;> simp

/-- The STORE_STATUS reply, with the longest free stretch as R182 names it. -/
theorem State.storeBytesReply_eq {s : State} {start len : Nat} (free : freeRun s.cs.blocks start len)
    (most : ∀ b k, freeRun s.cs.blocks b k → k ≤ len)
    (first : 0 < len → ∀ b, b < start → ∃ i, i < len ∧ s.cs.blocks[b + i]? ≠ some none) (none' : len = 0 → start = 65535) :
    s.storeBytesReply = [byte (s.cs.blocks.count none), byte (s.cs.blocks.count none / 256), byte len, byte (len / 256),
      byte start, byte (start / 256), byte (s.cs.directory.countP (·.isNone)), byte (s.clipsInState .loading),
      byte (s.clipsInState .verifying), byte (s.clipsInState .ready), byte (s.clipsInState .bad),
      byte (s.clipsInState .retiring)] ++ s.verifyBytes := by
  obtain ⟨length, begins⟩ := longestFree_eq free most first
  obtain ⟨absent, loading, verifying, ready, bad, retiring⟩ := s.clipsIn_eq
  have shown : longestStart (longestFree s.cs.blocks) = start := by
    unfold longestStart
    rw [length]
    split
    · rename_i zero
      exact (none' zero).symm
    · rename_i pos
      exact begins (Nat.pos_of_ne_zero pos)
  simp only [State.storeBytesReply, shown, length, absent, loading, verifying, ready, bad, retiring, State.freeCount_eq]
  rfl

/-- Settles O14. -/
theorem readsAnswerAndChangeNothing : Obligations.ReadsAnswerAndChangeNothing := by
  refine ⟨fun s tag taken => exec_answer rfl taken ?status,
    fun s tag v => ⟨fun taken => ⟨exec_answer rfl taken rfl, rfl⟩, fun taken low => exec_answer rfl taken ?word,
      fun q taken hq => exec_answer rfl taken ?queue,
      fun x taken hx => ⟨exec_answer rfl taken ?attempt, length_attemptBytes s x, ?attemptBytes⟩,
      fun taken => ⟨exec_answer rfl taken rfl, length_duelBytes s, ?duelBytes⟩,
      fun taken number => ⟨exec_answer rfl taken ?results, fun r => ⟨length_recordBytes r, ?recordBytes⟩⟩,
      fun p taken hp => ⟨exec_answer rfl taken ?speech, fun r => ⟨length_speechBytes s r, rfl, fun i u hi hu => ?entry,
        fun i hi hu => ?noEntry, fun w at' place => ?voice, fun x y z order => ?rest⟩⟩,
      fun taken low high => ⟨exec_answer rfl taken ?clip, length_clipBytes s _, fun absent => ?absent,
        fun c k present checked => ?clipBytes⟩,
      fun taken => ⟨exec_answer rfl taken rfl, length_storeBytesReply s, fun start len free most first none' => ?store⟩,
      fun bs taken hbs => ⟨exec_answer rfl taken ?faults, ?bank0, ?bank1, ?bank2, ?bank3, ?bank4,
        fun b => ⟨?bankLength, ?bankBytes⟩⟩⟩,
    ?codes⟩
  case status =>
    show (s, Status.ok, s.statusBytes) = _
    rw [State.statusBytes, State.freeCount_eq]
    have runs : bit s.generatorRuns = match s.tb.generator with | .stopped => 0 | .running _ => 1 := by
      unfold State.generatorRuns
      cases s.tb.generator <;> rfl
    rw [runs, State.validBanks_eq]
    rfl
  case word =>
    show getWordOwner v s = _
    rw [getWordOwner, decide_eq_false (Nat.not_le.2 low), State.refuseIf_false]
    cases s.slot v.toNat <;> rfl
  case queue =>
    show readQueueOwner v s = _
    rw [readQueueOwner, hq]
    rfl
  case attempt =>
    show forSeat v readAttemptOwner s = _
    rw [forSeat, hx]
    rfl
  case attemptBytes =>
    rintro c rfl
    rw [State.attemptBytes, State.waitStamp_eq, padTo_map_byte]
    cases (s.ctx x).lastMistake <;> rfl
  case duelBytes =>
    rintro d rfl
    rfl
  case results =>
    show peekResultsOwner v s = _
    rw [peekResultsOwner, decide_eq_false (by omega)]
    rfl
  case recordBytes => rfl
  case speech =>
    show readSpeechOwner v s = _
    rw [readSpeechOwner, hp]
    cases p <;> rfl
  case entry =>
    rw [s.speechBytes_entry r hi, hu]
    rfl
  case noEntry => rw [s.speechBytes_entry r hi, hu]
  case voice =>
    obtain ⟨v0, v1, -⟩ := s.speechBytes_voices r
    obtain ⟨rfl, rfl⟩ | ⟨rfl, rfl⟩ := place
    · rw [v0]
      cases hv : s.se.v0 <;> simp only [State.voice, hv] <;> rfl
    · rw [v1]
      cases hv : s.se.v1 <;> simp only [State.voice, hv] <;> rfl
  case rest =>
    obtain ⟨-, -, rest⟩ := s.speechBytes_voices r
    rw [rest, order]
    cases s.se.lastAnnounce <;> rfl
  case clip =>
    show forClip v clipStatusOwner s = _
    have inRange : ¬ (v.toNat = 0 ∨ v.toNat > 160) := by omega
    rw [forClip, clipIdOf, if_neg inRange]
    rfl
  case absent => rw [State.clipBytes, absent]
  case clipBytes =>
    have unit : s.bytesChecked v.toNat = k := checked.symm
    rw [State.clipBytes, present]
    dsimp only
    rw [unit]
    rfl
  case store =>
    rw [State.storeBytesReply_eq free most first none']
    rfl
  case faults =>
    show readFaultsOwner v s = _
    rw [readFaultsOwner, hbs]
    rfl
  case bankLength => simp [State.bankBytes]
  case bankBytes =>
    rw [State.bankBytes]
    cases (s.fb.bank b).held with
    | none => rfl
    | some f =>
      have resumable : 4 * bit (f.resumable == some true) = if f.resumable = some true then 4 else 0 := by
        by_cases h : f.resumable = some true <;> simp [h]
      simp only [faultBytes, resumable]
      cases f.context with
      | seat x => cases x <;> rfl
      | nothing => rfl
      | clip id => rfl
      | slot n => rfl
  case codes =>
    refine ⟨rfl, rfl, rfl, rfl, rfl, rfl, rfl, rfl, rfl, rfl, rfl, rfl, rfl, rfl, rfl, rfl, rfl, rfl, rfl, rfl, rfl, rfl,
      rfl, rfl, fun m => rfl⟩
  all_goals
    intro number
    simpa [readBanksOf, bankOf, number, eq_comm] using hbs

end Sys2Proof.Machine
end

section
/-! The fault banks: what a bank holds after a fault, what an arriving fault does to the part condition and to cause
FAULT, and the two requests that change a bank. -/

namespace Sys2Proof.Machine

/-! ### Banks -/

@[simp] theorem FaultBanks.bank_setBank (f : FaultBanks) (b : Bank) (v : FaultBank) : (f.setBank b v).bank b = v := by
  cases b <;> rfl

theorem FaultBanks.bank_setBank_ne (f : FaultBanks) {b k : Bank} (v : FaultBank) (h : k ≠ b) :
    (f.setBank b v).bank k = f.bank k := by
  cases b <;> cases k <;> first | rfl | exact absurd rfl h

@[simp] theorem FaultBanks.bank_escalate (f : FaultBanks) (b : Bank) : f.escalate.bank b = f.bank b := by
  unfold FaultBanks.escalate
  cases b <;> split <;> rfl

/-- A bank changes neither the part condition nor what is outstanding. -/
theorem FaultBanks.setBank_condition (f : FaultBanks) (b : Bank) (v : FaultBank) :
    (f.setBank b v).condition = f.condition ∧ (f.setBank b v).holdDue = f.holdDue ∧
      (f.setBank b v).lockdownDue = f.lockdownDue ∧ (f.setBank b v).frozen = f.frozen := by
  cases b <;> exact ⟨rfl, rfl, rfl, rfl⟩

section Record
variable (s : State) (code : FaultCode) (context : FaultContext) (detail : Nat) (resumable : Option Bool)

/-- The bank of an arriving fault holds what R188 makes of its record. -/
theorem State.recordFault_bank : ((s.recordFault code context detail resumable).fb.bank code.bank).held =
    some (holdFault (s.fb.bank code.bank).held
      ⟨false, code, s.faultEnabled code, context, detail, resumable⟩) := by
  unfold State.recordFault State.raise
  cases hon : s.faultEnabled code <;> cases hd : code.disruptive <;> simp

/-- An arriving fault leaves the other banks as they are. -/
theorem State.recordFault_bank_ne {b : Bank} (h : b ≠ code.bank) :
    (s.recordFault code context detail resumable).fb.bank b = s.fb.bank b := by
  unfold State.recordFault State.raise
  cases hon : s.faultEnabled code <;> cases hd : code.disruptive <;> simp [FaultBanks.bank_setBank_ne _ _ h]

/-- An enabled fault raises cause FAULT, another raises nothing (R190). -/
theorem State.recordFault_au : (s.recordFault code context detail resumable).au =
    if s.faultEnabled code then { s.au with raised := s.au.raised ||| 512#16 } else s.au := by
  unfold State.recordFault
  cases hon : s.faultEnabled code <;> rfl

/-- A fault that is not both disruptive and enabled leaves the part condition and the outstanding entries (R194). -/
theorem State.recordFault_mild (h : code.disruptive = false ∨ s.faultEnabled code = false) :
    (s.recordFault code context detail resumable).fb.condition = s.fb.condition ∧
    (s.recordFault code context detail resumable).fb.holdDue = s.fb.holdDue ∧
    (s.recordFault code context detail resumable).fb.lockdownDue = s.fb.lockdownDue := by
  have key := fun v => s.fb.setBank_condition code.bank v
  unfold State.recordFault
  cases hon : s.faultEnabled code with
  | false => exact ⟨(key _).1, (key _).2.1, (key _).2.2.1⟩
  | true =>
    have hd : code.disruptive = false := by simpa [hon] using h
    simp only [hd]
    exact ⟨(key _).1, (key _).2.1, (key _).2.2.1⟩

/-- An enabled disruptive fault escalates the part condition (R194). -/
theorem State.recordFault_disruptive (hd : code.disruptive = true) (hon : s.faultEnabled code = true) :
    ∃ v, (s.recordFault code context detail resumable).fb = (s.fb.setBank code.bank v).escalate := by
  unfold State.recordFault
  simp only [hd, hon, if_true]
  exact ⟨_, rfl⟩

end Record

/-! ### The rank of R188 -/

section Rank
variable {old new : HeldFault}

theorem holdFault_outranked (hd : old.code.disruptive = false)
    (h : faultRank old.code old.enabled < faultRank new.code new.enabled) :
    holdFault (some old) new = { new with overflow := true } := by
  simp [holdFault, hd, h]

theorem holdFault_stays (h : old.code.disruptive = true ∨
    faultRank new.code new.enabled ≤ faultRank old.code old.enabled) :
    holdFault (some old) new = { old with overflow := true } := by
  have : ¬ ((!old.code.disruptive && decide (faultRank old.code old.enabled < faultRank new.code new.enabled)) = true) := by
    rcases h with h | h
    · simp [h]
    · simp [Nat.not_lt.2 h]
  simp only [holdFault, if_neg this]

end Rank

/-- Settles O45: the record of the fault's bank is R188's `holdFault`, whose branches are the four cases. -/
theorem banksHoldFaultsByRank : Obligations.BanksHoldFaultsByRank := by
  unfold Obligations.BanksHoldFaultsByRank
  intro s code context detail resumable enabled t he ht
  have hbank := s.recordFault_bank code context detail resumable
  have hen : s.faultEnabled code = enabled := he.symm
  rw [hen, ← ht] at hbank
  refine ⟨fun hnone => ?_, fun old hold hd hlt => ?_, fun old hold hd hle => ?_, fun old hold hd => ?_, fun b hb => ?_⟩
  · rw [hbank, hnone]; rfl
  · rw [hbank, hold]
    exact congrArg some (holdFault_outranked (new := ⟨false, code, enabled, context, detail, resumable⟩) hd hlt)
  · rw [hbank, hold]
    exact congrArg some (holdFault_stays (new := ⟨false, code, enabled, context, detail, resumable⟩) (.inr hle))
  · rw [hbank, hold, holdFault_stays (.inl hd)]
  · rw [ht]; exact s.recordFault_bank_ne code context detail resumable hb

/-- Settles O46: the bank is changed first, which leaves the part condition, and `escalate` is R194's table. -/
theorem disruptiveFaultsEscalate : Obligations.DisruptiveFaultsEscalate := by
  unfold Obligations.DisruptiveFaultsEscalate
  rintro s code context detail resumable _ rfl
  refine ⟨by cases code <;> simp [FaultCode.disruptive], fun hd hon => ?_,
    fun h => s.recordFault_mild code context detail resumable h, fun hon => ?_, fun hon => ?_, ?_⟩
  · obtain ⟨v, hfb⟩ := s.recordFault_disruptive code context detail resumable hd hon
    obtain ⟨hcond, hhold, hlock, -⟩ := s.fb.setBank_condition code.bank v
    rw [hfb]
    refine ⟨fun h => ?_, fun h => ?_, fun h => ?_⟩
    all_goals simp [FaultBanks.escalate, hcond, hhold, hlock, h]
  · rw [State.recordFault_au, if_pos hon]
  · rw [State.recordFault_au, if_neg (by simp [hon])]
  · rw [State.recordFault_only]

/-! ### CLEAR_FAULT and SET_FAULT_ENABLE -/

/-- A set of codes lies in a bank's own codes exactly when nothing of it lies outside. -/
theorem andNot_ne_zero_iff (codes own : Word16) : ((codes &&& ~~~own) != 0) = decide (codes &&& own ≠ codes) := by
  rw [Bool.eq_iff_iff]
  simp only [bne_iff_ne, ne_eq, decide_eq_true_eq, not_iff_not]
  constructor
  all_goals
    intro h
    apply BitVec.eq_of_getLsbD_eq
    intro i hi
    have := congrArg (fun v : Word16 => v.getLsbD i) h
    simp [hi] at this ⊢
    grind

theorem clearFaultOwner_of_bank {bank : Byte} {b : Bank} (h : bankOf bank = some b) (s : State) :
    clearFaultOwner bank s = ({ s with fb := s.fb.setBank b { s.fb.bank b with held := none } }, .ok, []) := by
  simp only [clearFaultOwner, h]
  rfl

theorem setFaultEnableOwner_of_bank {bank : Byte} {b : Bank} (h : bankOf bank = some b) (codes : Word16) (s : State) :
    setFaultEnableOwner bank codes s =
      if codes &&& bankCodes b = codes
      then ({ s with fb := s.fb.setBank b { s.fb.bank b with mask := codes } }, .ok, [])
      else (s, .badField, []) := by
  simp only [setFaultEnableOwner, h, andNot_ne_zero_iff]
  split <;> rename_i hc
  · simp only [hc, ne_eq, not_true_eq_false, decide_false]; rfl
  · simp only [hc, ne_eq, not_false_eq_true, decide_true]; rfl

/-- The codes of a bank are the numbers that R187's table gives it. -/
theorem bankCodes_bits (b : Bank) (n : Nat) : (bankCodes b).getLsbD n = true ↔ n ∈ (match b with
    | .link => [1, 2, 3]
    | .scan => [4, 5, 6, 7, 8]
    | .audio => [9, 10]
    | .lesson => [11, 12]) := by
  by_cases hn : n < 16
  · revert n
    cases b <;> decide
  · have : (bankCodes b).getLsbD n = false := BitVec.getLsbD_of_ge _ _ (by omega)
    cases b <;> simp [this] <;> omega

/-- The codes of a bank are the numbers of the fault codes that belong to it. -/
theorem bankCodes_codes (b : Bank) (n : Nat) :
    (bankCodes b).getLsbD n = true ↔ ∃ code : FaultCode, code.bank = b ∧ code.number = n := by
  rw [bankCodes_bits]
  constructor
  · cases b
    all_goals
      intro h
      simp only [List.mem_cons, List.not_mem_nil, or_false] at h
    · rcases h with rfl | rfl | rfl
      exacts [⟨.frameCrc, rfl, rfl⟩, ⟨.frameGap, rfl, rfl⟩, ⟨.overrun, rfl, rfl⟩]
    · rcases h with rfl | rfl | rfl | rfl | rfl
      exacts [⟨.keyOverrun, rfl, rfl⟩, ⟨.scanOverrun, rfl, rfl⟩, ⟨.idCheck, rfl, rfl⟩, ⟨.noId, rfl, rfl⟩,
        ⟨.converterTimeout, rfl, rfl⟩]
    · rcases h with rfl | rfl
      exacts [⟨.clipParity, rfl, rfl⟩, ⟨.verifyMismatch, rfl, rfl⟩]
    · rcases h with rfl | rfl
      exacts [⟨.noAudio, rfl, rfl⟩, ⟨.tableParity, rfl, rfl⟩]
  · rintro ⟨code, rfl, rfl⟩
    cases code <;> decide

/-- Settles O47: each request changes the one bank its operand names. -/
theorem faultRequestsChangeOneBank : Obligations.FaultRequestsChangeOneBank := by
  unfold Obligations.FaultRequestsChangeOneBank
  intro s tag bank b codes hb
  refine ⟨fun taken => ?_, fun taken hc => ?_, fun taken hc => ?_,
    fun k v => ⟨FaultBanks.bank_setBank _ _ _, FaultBanks.bank_setBank_ne _ _⟩, bankCodes_bits b, bankCodes_codes b⟩
  · exact exec_answer rfl taken (clearFaultOwner_of_bank hb s)
  · refine exec_answer rfl taken ?_
    rw [requestOwner, setFaultEnableOwner_of_bank hb, if_pos hc]
  · refine exec_answer rfl taken ?_
    rw [requestOwner, setFaultEnableOwner_of_bank hb, if_neg hc]

end Sys2Proof.Machine
end

section
/-! The key scanner: rows and their alerts, the requests that act on a seat, and the timeout of a conversion. -/

namespace Sys2Proof.Machine

/-! ### Rows and alerts -/

theorem SeatRecord.row_of_getElem? {r : SeatRecord} {n : Nat} {v : RowRecord} (h : r.rows[n]? = some v) :
    r.row n = v := by
  simp [SeatRecord.row, h]

theorem SeatRecord.row_setRow {r : SeatRecord} {n : Nat} (v : RowRecord) (h : n < r.rows.length) :
    (r.setRow n v).row n = v := by
  simp [SeatRecord.row, SeatRecord.setRow, h]

/-- A seat record after the alert of a row (R117, R118). -/
def SeatRecord.alertGiven (r : SeatRecord) (n : Nat) : SeatRecord :=
  { r.setRow n { r.row n with alerted := true, due := false } with
    holdRows := match (r.row n).stable with
      | .step _ => r.holdRows ||| 1#8 <<< n
      | .idle | .ambiguous => r.holdRows
    chordRows := match (r.row n).stable with
      | .ambiguous => r.chordRows ||| 1#8 <<< n
      | .idle | .step _ => r.chordRows }

theorem State.giveAlert_eq (s : State) (x : Seat) (n : Nat) :
    s.giveAlert x n = (s.setSeat x ((s.seat x).alertGiven n)).raise .alert := by
  unfold State.giveAlert SeatRecord.alertGiven SeatRecord.setRow
  cases h : ((s.seat x).row n).stable <;> simp only [h]

theorem State.giveDue_of_due {s : State} {x : Seat} {n : Nat} (h : ((s.seat x).row n).due = true) :
    s.giveDue x n = (s.setSeat x ((s.seat x).alertGiven n)).raise .alert := by
  rw [State.giveDue, if_pos h, State.giveAlert_eq]

theorem State.giveDue_of_not_due {s : State} {x : Seat} {n : Nat} (h : ((s.seat x).row n).due = false) :
    s.giveDue x n = s := by
  simp [State.giveDue, h]

theorem SeatRecord.row_not_due {r : SeatRecord} (h : ∀ v ∈ r.rows, v.due = false) (n : Nat) :
    (r.row n).due = false := by
  unfold SeatRecord.row
  rw [List.getD_eq_getElem?_getD]
  cases hn : r.rows[n]? with
  | none => rfl
  | some v => exact h v (List.mem_of_getElem? hn)

/-- With no alert outstanding at a seat there is none to give. -/
theorem State.giveAllDue_of_none {s : State} {x : Seat} (h : ∀ r ∈ (s.seat x).rows, r.due = false) :
    s.giveAllDue x = s := by
  have key : ∀ l : List Nat, l.foldl (fun s n => State.giveDue s x n) s = s := by
    intro l
    induction l with
    | nil => rfl
    | cons n l ih => rw [List.foldl_cons, State.giveDue_of_not_due (SeatRecord.row_not_due h n), ih]
  exact key _

@[simp] theorem State.isPending_raise (s : State) (c : Cause) : (s.raise c).isPending c = true := by
  cases c <;> (try rename_i x; cases x) <;> simp [State.raise, State.isPending, Cause.number]

/-- Settles O35: HOLD_ALERT gives the alert of `alertGiven`, and CONVERTER_TIMEOUT acts on the conversion under way. -/
theorem alertsAndConverterTimeouts : Obligations.AlertsAndConverterTimeouts := by
  unfold Obligations.AlertsAndConverterTimeouts
  intro s x row r sc hr
  refine ⟨fun hrow hdue => ?_, fun hrow hdue => ?_, fun hscan => ?_, fun hscan => ?_⟩
  · rw [← SeatRecord.row_of_getElem? hrow] at hdue
    exact (event_taken hr).trans (congrArg _ (State.giveDue_of_not_due hdue))
  · have hr' := SeatRecord.row_of_getElem? hrow
    refine ⟨(s.setSeat x ((s.seat x).alertGiven row.val)).raise .alert,
      (event_taken hr).trans (congrArg _ (State.giveDue_of_due (by rw [hr', hdue]))), ?_⟩
    have hlen : row.val < (s.seat x).rows.length := (List.getElem?_eq_some_iff.1 hrow).1
    have hseat : ((s.setSeat x ((s.seat x).alertGiven row.val)).raise .alert).seat x =
        (s.seat x).alertGiven row.val := State.seat_setSeat_self _ _ _
    rw [hseat]
    refine ⟨?_, State.isPending_raise _ _, fun k hk => ?_, fun hk => ?_, rfl, State.seat_setSeat_other _ _ _, rfl, rfl⟩
    · simp [SeatRecord.alertGiven, SeatRecord.setRow, hr', hlen]
    · simp [SeatRecord.alertGiven, hr', hk, SeatRecord.setRow]
    · simp [SeatRecord.alertGiven, hr', hk, SeatRecord.setRow]
  · refine (event_taken hr).trans ?_
    simp only [State.rowTimedOut, hscan, State.timeOutRow, State.stopGenerator, State.recordFault_tb]
  · refine (event_taken hr).trans ?_
    simp only [State.rowTimedOut, hscan]

/-! ### The requests of the key scanner -/

theorem forSeat_of_seat {v : Byte} {x : Seat} (h : seatOf v = some x) (owner : Seat → State → Answer) (s : State) :
    forSeat v owner s = owner x s := by
  simp only [forSeat, h]

theorem flushKeysOwner_ready {s : State} {x : Seat} (h : (s.seat x).state = .ready) :
    flushKeysOwner x s = (s.setSeat x (s.seat x).flushed, .ok, []) := by
  simp [flushKeysOwner, h, State.ok]

theorem keyCodes_length : ∀ {keys : List Byte} {ks : List KeyCode}, keyCodes keys = some ks → ks.length = keys.length
  | [], ks, h => by cases h; rfl
  | v :: vs, ks, h => by
    unfold keyCodes at h
    split at h
    · rename_i k ks' _ h'
      cases h
      simp [keyCodes_length h']
    · cases h

/-- A seat that neither is checked nor READY has no map slot in use (R122). -/
theorem State.mapInUse_of_idle {s : State} {slot : Nat} {x : Seat}
    (h : (s.seat x).mapSlot = some slot → (s.seat x).state ≠ .checking ∧ (s.seat x).state ≠ .ready) :
    s.mapInUse slot x = false := by
  unfold State.mapInUse State.converts
  by_cases hm : (s.seat x).mapSlot = some slot
  · obtain ⟨h1, h2⟩ := h hm
    cases hs : (s.seat x).state <;> simp_all
  · simp [hm]

section LoadKeyMap
variable {s : State} {tag slot kind first rows : Byte} {keys : List Byte} {ks : List KeyCode}

/-- LOAD_KEY_MAP of a free slot writes its tag and the entries of the rows given. -/
theorem loadKeyMapOwner_free (taken : s.takes (.loadKeyMap tag slot kind first rows keys)) (hslot : slot.toNat ≤ 1)
    (hk : keyCodes keys = some ks) (hrows : 1 ≤ rows.toNat) (hfit : first.toNat + rows.toNat ≤ 8)
    (hfree : ∀ y, (s.seat y).mapSlot = some slot.toNat → (s.seat y).state ≠ .checking ∧ (s.seat y).state ≠ .ready)
    (htag : kind.toNat = 0 ∨ (s.keyMap (1 - slot.toNat)).tag ≠ kind.toNat) :
    loadKeyMapOwner slot kind first rows keys s =
      (s.setKeyMap slot.toNat ⟨kind.toNat, (s.keyMap slot.toNat).entries.take (7 * first.toNat) ++ ks ++
        (s.keyMap slot.toNat).entries.drop (7 * first.toNat + 7 * rows.toNat)⟩, .ok, []) := by
  obtain ⟨-, -, hwf, -⟩ := taken
  simp only [Instr.wellFormed, Bool.and_eq_true, beq_iff_eq, decide_eq_true_eq] at hwf
  obtain ⟨hlen, h7⟩ := hwf
  have hms : mapSlotOf slot = some slot.toNat := by simp [mapSlotOf, hslot]
  have hbad : decide (7 < first.toNat ∨ rows.toNat = 0 ∨ 7 < rows.toNat ∨ 8 < first.toNat + rows.toNat) = false := by
    simp; omega
  have hdup : (kind.toNat != 0 && (s.keyMap (1 - slot.toNat)).tag == kind.toNat) = false := by
    rcases htag with h | h <;> simp [h]
  simp only [loadKeyMapOwner, hms, hk, hbad, State.refuseIf_false, State.loadKeyMapAt,
    State.mapInUse_of_idle (hfree .a), State.mapInUse_of_idle (hfree .b), Bool.or_false, hdup, writeEntries,
    keyCodes_length hk, hlen, State.ok]

end LoadKeyMap

theorem SeatRecord.bytes_length (r : SeatRecord) : r.bytes.length = 14 := by
  unfold SeatRecord.bytes identityBytes
  cases r.identity <;> rfl

/-- A seat record that CHECK_SEAT sends to IDENTIFYING with no alert outstanding (R131). -/
theorem State.seatToIdentifying_of_none {s : State} {x : Seat} (h : ∀ r ∈ (s.seat x).rows, r.due = false) :
    s.seatToIdentifying x = ((s.mapScan (·.seatLeft x)).setSeat x { (s.seat x).forgotten with state := .identifying },
      departure (s.seat x).state x) := by
  unfold State.seatToIdentifying
  rw [State.giveAllDue_of_none h]
  rfl

/-- A seat loss changes nothing at a context of mode OFF (R53, R90). -/
theorem runTask_seatLost_off {s : State} {x : Seat} (h : (s.ctx x).mode = .off) :
    runTask (.seatLost x) s = (s, []) := by
  unfold runTask
  split
  · rfl
  · simp [runLessonTask, State.loseSeat, h]

/-- Nothing follows when a seat departs from FAULTED, or with its context in mode OFF. -/
theorem carryOut_departure {s : State} {was : SeatState} {x : Seat} (h : was ≠ .ready ∨ (s.ctx x).mode = .off) :
    s.carryOut (departure was x) = s := by
  unfold departure
  split
  · have hoff : (s.ctx x).mode = .off := h.resolve_left (not_not_intro ‹_›)
    rw [State.carryOut, Config.cascade, drain_cons, runTask_seatLost_off hoff]
    exact drain_nil _ _
  · exact drain_nil _ _

theorem checkSeatOwner_checkable {s : State} {x : Seat}
    (h : (s.seat x).state = .faulted ∨ (s.seat x).state = .ready ∧ (s.ctx x).state = .idle) :
    checkSeatOwner x s = ((s.seatToIdentifying x).done, .ok, []) := by
  have h1 : s.notCheckable x = false := by
    unfold State.notCheckable
    rcases h with h | ⟨h, -⟩ <;> simp [h]
  have h2 : s.seatBusy x = false := by
    unfold State.seatBusy
    rcases h with h | ⟨h, h'⟩ <;> simp [*]
  simp only [checkSeatOwner, h1, h2, State.refuseIf_false, State.ok]

/-- Settles O31: each request by its owner; CHECK_SEAT leads to nothing further, because no lesson runs at the seat. -/
theorem seatRequestsActOnTheSeat : Obligations.SeatRequestsActOnTheSeat := by
  unfold Obligations.SeatRequestsActOnTheSeat
  refine ⟨fun s tag seat slot kind first rows x keys ks => ⟨fun taken hx hst => ?_,
    fun taken h0 hk hr hf hfree htag => ?_, fun taken h1 hk hr hf hfree htag => ?_, fun taken => ?_,
    SeatRecord.bytes_length _, fun r hr => ?_⟩, fun s tag seat x taken hx hst hdue _ => ?_⟩
  · refine exec_answer rfl taken ?_
    rw [requestOwner, forSeat_of_seat hx, flushKeysOwner_ready hst]
    rfl
  · refine exec_answer rfl taken ?_
    rw [requestOwner, loadKeyMapOwner_free taken (by omega) hk hr hf (by rwa [h0]) (by rw [h0]; exact htag), h0]
    rfl
  · refine exec_answer rfl taken ?_
    rw [requestOwner, loadKeyMapOwner_free taken (by omega) hk hr hf (by rwa [h1]) (by rw [h1]; exact htag), h1]
    rfl
  · exact exec_answer rfl taken rfl
  · subst hr
    unfold SeatRecord.bytes identityBytes lowFirst3
    cases (s.seat x).faultCause <;> cases (s.seat x).faultRow <;> cases (s.seat x).mapSlot <;>
      cases (s.seat x).identity <;> rfl
  · have hoff : (s.seat x).state ≠ .ready ∨ (s.ctx x).mode = .off := by
      rcases hst with h | ⟨-, -, h⟩
      · exact .inl (by rw [h]; decide)
      · exact .inr h
    have hdone : (s.seatToIdentifying x).done =
        (s.mapScan (·.seatLeft x)).setSeat x { (s.seat x).forgotten with state := .identifying } := by
      rw [State.seatToIdentifying_of_none hdue]
      exact carryOut_departure hoff
    refine ⟨(s.mapScan (·.seatLeft x)).setSeat x { (s.seat x).forgotten with state := .identifying },
      exec_answer rfl taken ?_, State.seat_setSeat_self _ _ _, State.seat_setSeat_other _ _ _, rfl, rfl,
      fun sc hsc hrow => ?_, rfl, rfl, rfl, rfl, rfl, rfl, rfl, rfl⟩
    · rw [requestOwner, forSeat_of_seat hx, checkSeatOwner_checkable (hst.imp_right fun h => ⟨h.1, h.2.1⟩), hdone]
    · simp [State.mapScan, hsc, Scan.seatLeft, hrow]

end Sys2Proof.Machine
end

section
/-! Every step keeps the law of the Word Table, and the tick divider's count below the divisor in use. -/

namespace Sys2Proof.Machine

theorem Change.keeps_wordLaw {R : Prop} {s t : State} (c : Change R s t) (h : s.wordLaw) : t.wordLaw := by
  cases c with
  | move m => exact m.wordLaw h
  | announce route ids =>
    have only := SpeechOnly.enqueue s .announce .announce route ids
    exact h.congr only.wt only.ks only.ae only.dc
  | duel dc scores letters => exact h.setLessons (ps := s.ps) ⟨h.ctx .a, h.ctx .b, letters h⟩
  | scanner ks lawful letters => exact h.setScanner (letters h)
  | configure c =>
    rw [State.evaluateThreshold_only]
    exact h
  | remove k =>
    unfold State.removeOldest
    rw [State.evaluateThreshold_only]
    exact h
  | clip id => cases id <;> exact h
  | openClip id => cases id <;> exact h
  | drop id => cases id <;> exact h
  | volume c => cases c <;> exact h
  | position v => cases v <;> exact h
  | timebase | settings | verifyUnit | store | banks | normal | lockdown => exact h

theorem State.wordLaw_powerUp (s : State) : s.powerUp.wordLaw :=
  (State.wordLaw_iff _).2 ⟨State.wordLaw_reset.table, ⟨State.wordLaw_reset.scanner.1, nofun, nofun⟩,
    State.wordLaw_reset.ctx .a, State.wordLaw_reset.ctx .b, State.wordLaw_reset.duel⟩

/-- Settles O56: letters come from key maps and PUT_WORD, mistake codes from letters, and an entry is written over its own
word id or under one that no other slot holds. -/
theorem stepKeepsWordLaw : Obligations.StepKeepsWordLaw := fun _ _ =>
  step_keeps_of_change (fun _ _ c => c.keeps_wordLaw) (fun _ _ _ _ h => h) (fun s _ => s.wordLaw_powerUp)

/-! ### The tick divider -/

theorem State.tickLaw_of_fixed {s t : State} (h : t.fixed = s.fixed) (law : s.tickLaw) : t.tickLaw := by
  simp only [State.fixed, Prod.mk.injEq] at h
  obtain ⟨⟨-, -, cfg, tb, -⟩, -⟩ := h
  unfold State.tickLaw
  rw [cfg, tb]
  exact law

theorem Move.keeps_tickLaw {o s t : State} (m : Move o s t) (h : s.tickLaw) : t.tickLaw := by
  cases m with
  | speech m => exact State.tickLaw_of_fixed m.fixed h
  | append r => exact State.tickLaw_of_fixed (s.fixed_appendRecord r) h
  | fault => exact State.tickLaw_of_fixed (s.fixed_recordFault _ _ _ _) h
  | lessons | words | attention | waiting | holdEntered | keys => exact h

theorem Change.keeps_tickLaw {R : Prop} {s t : State} (c : Change R s t) (h : s.tickLaw) : t.tickLaw := by
  cases c with
  | move m => exact m.keeps (fun m => m.keeps_tickLaw) h
  | announce => exact State.tickLaw_of_fixed (State.fixed_enqueue _ _ _ _ _) h
  | timebase tb below => exact ⟨below h, h.2⟩
  | configure c positive =>
    rw [State.evaluateThreshold_only]
    exact ⟨h.1, positive⟩
  | remove k =>
    unfold State.removeOldest
    rw [State.evaluateThreshold_only]
    exact h
  | clip id => cases id <;> exact h
  | openClip id => cases id <;> exact h
  | drop id => cases id <;> exact h
  | volume c => cases c <;> exact h
  | position v => cases v <;> exact h
  | duel | scanner | settings | verifyUnit | store | banks | normal | lockdown => exact h

/-- Every step keeps the count below the divisor in use (R141, R142). -/
theorem step_keeps_tickLaw {s t : State} (h : s.tickLaw) (ht : step s = .next t) : t.tickLaw :=
  step_keeps_of_change (fun _ _ c => c.keeps_tickLaw) (fun _ _ _ _ h => h)
    (fun _ _ => ⟨(by decide : 0 < 10), (by decide : 0 < 10)⟩) h ht

end Sys2Proof.Machine
end

section
/-! The settings of speech: routes, clip tables and volumes (R151, R164 to R166). -/

namespace Sys2Proof.Machine

/-! ### Arguments -/

theorem channelOf_none {v : Byte} (h : 2 < v.toNat) : channelOf v = none := by
  unfold channelOf
  split
  case h_4 => rfl
  all_goals omega

theorem seatOf_none {v : Byte} (h : 1 < v.toNat) : seatOf v = none := by
  unfold seatOf
  split
  case h_3 => rfl
  all_goals omega

theorem settingOf_none {v : Byte} (h : 1 < v.toNat) : settingOf v = none := by
  unfold settingOf
  split
  case h_3 => rfl
  all_goals omega

theorem clipRefOf_in_range {v : Byte} (h : v.toNat ≤ 160) :
    clipRefOf v = some (if v.toNat = 0 then none else some v.toNat) := by
  unfold clipRefOf
  rw [if_neg (Nat.not_lt.2 h)]
  split <;> rfl

theorem clipRefOf_above {v : Byte} (h : 160 < v.toNat) : clipRefOf v = none := if_pos h

theorem clipIdOf_in_range {v : Byte} (low : 1 ≤ v.toNat) (high : v.toNat ≤ 160) : clipIdOf v = some v.toNat :=
  if_neg (not_or.2 ⟨Nat.ne_of_gt low, Nat.not_lt.2 high⟩)

theorem clipIdOf_above {v : Byte} (h : 160 < v.toNat) : clipIdOf v = none := if_pos (.inr h)

theorem tableEntries_length : ∀ {bytes : List Byte} {es : List (Option Nat)}, tableEntries bytes = some es →
    es.length = bytes.length
  | [], es, h => by
    cases h
    rfl
  | v :: vs, es, h => by
    rw [tableEntries] at h
    split at h
    · rename_i rest
      cases h
      simp [tableEntries_length rest]
    · cases h

theorem tableEntries_in_range : ∀ {bytes : List Byte}, (∀ b ∈ bytes, b.toNat ≤ 160) →
    tableEntries bytes = some (bytes.map fun b => if b.toNat = 0 then none else some b.toNat)
  | [], _ => rfl
  | v :: vs, h => by
    obtain ⟨head, rest⟩ := List.forall_mem_cons.1 h
    rw [tableEntries, clipRefOf_in_range head, tableEntries_in_range rest]
    rfl

theorem tableEntries_above : ∀ {bytes : List Byte}, (∃ b ∈ bytes, 160 < b.toNat) → tableEntries bytes = none
  | v :: vs, h => by
    rw [tableEntries]
    obtain ⟨b, hb, above⟩ := h
    obtain rfl | rest := List.mem_cons.1 hb
    · rw [clipRefOf_above above]
    · rw [tableEntries_above ⟨b, rest, above⟩]
      cases clipRefOf v <;> rfl

theorem clipIds_in_range : ∀ {bytes : List Byte}, (∀ b ∈ bytes, 1 ≤ b.toNat ∧ b.toNat ≤ 160) →
    clipIds bytes = some (bytes.map (·.toNat))
  | [], _ => rfl
  | v :: vs, h => by
    obtain ⟨⟨low, high⟩, rest⟩ := List.forall_mem_cons.1 h
    rw [clipIds, clipIdOf_in_range low high, clipIds_in_range rest]
    rfl

theorem clipIds_above : ∀ {bytes : List Byte}, (∃ b ∈ bytes, 160 < b.toNat) → clipIds bytes = none
  | v :: vs, h => by
    rw [clipIds]
    obtain ⟨b, hb, above⟩ := h
    obtain rfl | rest := List.mem_cons.1 hb
    · rw [clipIdOf_above above]
    · rw [clipIds_above ⟨b, rest, above⟩]
      cases clipIdOf v <;> rfl

/-! ### Volumes -/

@[simp] theorem State.volume_setVolumeTo (s : State) (c d : Channel) (n : Nat) :
    (s.setVolumeTo c n).volume d = if d = c then n else s.volume d := by
  cases c <;> cases d <;> rfl

theorem State.setVolumeTo_only (s : State) (c : Channel) (n : Nat) :
    { s.setVolumeTo c n with se := { (s.setVolumeTo c n).se with
      volumeA := s.se.volumeA, volumeB := s.se.volumeB, volumeSpeaker := s.se.volumeSpeaker } } = s := by
  cases c <;> rfl

/-! ### The requests -/

theorem setCuesOwner_above {clips : List Byte} (s : State) (h : ∃ b ∈ clips, 160 < b.toNat) :
    setCuesOwner clips s = s.deny .badField := by
  rw [setCuesOwner, tableEntries_above h]

theorem setLettersOwner_above {clips : List Byte} (s : State) (h : ∃ b ∈ clips, 160 < b.toNat) :
    setLettersOwner clips s = s.deny .badField := by
  rw [setLettersOwner, tableEntries_above h]

theorem setRouteOwner_outside {v w : Byte} (s : State) (h : 1 < v.toNat ∨ 1 < w.toNat) :
    setRouteOwner v w s = s.deny .badField := by
  rw [setRouteOwner]
  obtain h | h := h
  · rw [seatOf_none h]
  · rw [settingOf_none h]
    cases seatOf v <;> rfl

theorem setVolumeOwner_outside {v w : Byte} (s : State) (h : 15 < w.toNat ∨ 2 < v.toNat) :
    setVolumeOwner v w s = s.deny .badField := by
  rw [setVolumeOwner]
  obtain h | h := h
  · cases channelOf v
    · rfl
    · simp only [decide_eq_true h, State.refuseIf_true]
  · rw [channelOf_none h]

/-- Settles O37. -/
theorem speechSettingsAreReplaced : Obligations.SpeechSettingsAreReplaced := by
  refine ⟨fun s tag v w x r c clips es => ⟨fun taken hx hr => exec_answer rfl taken ?_,
    fun taken table => ⟨exec_answer rfl taken ?_, ?_⟩, fun taken table => ⟨exec_answer rfl taken ?_, ?_⟩,
    fun taken hc low => ⟨s.setVolumeTo c w.toNat, exec_answer rfl taken ?_, ?_, fun d other => ?_,
      s.setVolumeTo_only c _⟩,
    fun taken out => exec_answer rfl taken (setVolumeOwner_outside s out),
    fun taken out => exec_answer rfl taken (setRouteOwner_outside s out),
    fun taken out => exec_answer rfl taken (setCuesOwner_above s out),
    fun taken out => exec_answer rfl taken (setLettersOwner_above s out)⟩,
    fun bytes => ⟨tableEntries_in_range, fun out => ⟨tableEntries_above out, clipIds_above out⟩, clipIds_in_range⟩⟩
  · show setRouteOwner v w s = _
    rw [setRouteOwner, hx, hr]
    rfl
  · show setCuesOwner clips s = _
    rw [setCuesOwner, table]
    rfl
  · obtain ⟨-, -, wellFormed, -⟩ := taken
    rw [tableEntries_length table]
    simpa [Instr.wellFormed] using wellFormed
  · show setLettersOwner clips s = _
    rw [setLettersOwner, table]
    rfl
  · obtain ⟨-, -, wellFormed, -⟩ := taken
    rw [tableEntries_length table]
    simpa [Instr.wellFormed] using wellFormed
  · show setVolumeOwner v w s = _
    simp only [setVolumeOwner, hc, decide_eq_false (Nat.not_lt.2 low), State.refuseIf_false]
    rfl
  · simp
  · simp [other]

end Sys2Proof.Machine
end

section
/-! LOCKDOWN and the freeze of the lessons (R56, R93, R194, R197, R198). -/

namespace Sys2Proof.Machine

/-! ### LOCKDOWN stays but for resets -/

/-- The part is in LOCKDOWN, and its lessons are frozen if `frozen` says so. -/
def State.lockedDown (frozen : Bool) (s : State) : Prop :=
  s.fb.condition = .lockdown ∧ (frozen = true → s.fb.frozen = true)

theorem State.lockedDown_congr {frozen : Bool} {s t : State} (h : s.lockedDown frozen) (same : t.fb = s.fb) :
    t.lockedDown frozen := by
  unfold State.lockedDown
  rw [same]
  exact h

theorem State.recordFault_lockedDown {frozen : Bool} {s : State} (h : s.lockedDown frozen) (c : FaultCode)
    (k : FaultContext) (d : Nat) (r : Option Bool) : (s.recordFault c k d r).lockedDown frozen := by
  obtain ⟨condition, -, -, frozenSame⟩ := s.recordFault_condition c k d r
  have stays : s.fb.escalate = s.fb := by
    unfold FaultBanks.escalate
    rw [h.1]
  rw [stays, ite_self] at condition frozenSame
  unfold State.lockedDown
  rw [condition, frozenSame]
  exact h

theorem Move.keeps_lockedDown {frozen : Bool} {o s t : State} (m : Move o s t) (h : s.lockedDown frozen) :
    t.lockedDown frozen := by
  cases m with
  | speech m => exact State.lockedDown_congr h m.only.fb
  | append r => exact State.lockedDown_congr h (by simp)
  | fault => exact State.recordFault_lockedDown h _ _ _ _
  | lessons | words | attention | waiting | holdEntered | keys => exact h

theorem Change.keeps_lockedDown {R : Prop} {frozen : Bool} {s t : State} (c : Change R s t) (h : s.lockedDown frozen) :
    t.lockedDown frozen := by
  cases c with
  | move m => exact m.keeps (fun m => m.keeps_lockedDown) h
  | announce route ids => exact State.lockedDown_congr h (SpeechOnly.enqueue s .announce .announce route ids).fb
  | banks fb condition holdDue lockdownDue same =>
    unfold State.lockedDown
    rw [condition, same]
    exact h
  | normal unlocked => exact absurd h.1 unlocked
  | lockdown => exact ⟨h.1, fun _ => rfl⟩
  | configure c =>
    rw [State.evaluateThreshold_only]
    exact h
  | remove k =>
    unfold State.removeOldest
    rw [State.evaluateThreshold_only]
    exact h
  | clip id => cases id <;> exact h
  | openClip id => cases id <;> exact h
  | drop id => cases id <;> exact h
  | volume c => cases c <;> exact h
  | position v => cases v <;> exact h
  | duel | timebase | scanner | settings | verifyUnit | store => exact h

theorem Changes.keeps_lockedDown {R : Prop} {frozen : Bool} {s t : State} (h : Changes R s t) (hs : s.lockedDown frozen) :
    t.lockedDown frozen := h.keeps (fun _ _ c => c.keeps_lockedDown) hs

/-- The command sets the part to its power-on values. -/
def isReset (c : Instr) : Prop := c = .powerOn ∨ ∃ tag, c = .restartFull tag

/-- A command that is no reset runs none. -/
theorem not_isReset_of_runs {s : State} {c d : Instr} (runs : s.runs c d) (stays : ¬ s.resets c) : ¬ isReset d := by
  intro reset
  obtain rfl | ⟨request, v, byte, completes, parsed⟩ := runs
  · obtain rfl | ⟨tag, rfl⟩ := reset
    · exact stays trivial
    · exact stays trivial
  · obtain rfl | ⟨tag, rfl⟩ := reset
    · cases request
    · obtain rfl | rfl := byte
      · exact stays ⟨completes, tag, parsed⟩
      · exact stays ⟨completes, tag, parsed⟩

/-- What every command but a reset keeps in LOCKDOWN. -/
theorem lockedDown_kept (frozen : Bool) : KeptOutside (fun c => ¬ isReset c) (State.lockedDown frozen) :=
  { held := fun _ h => h
    link := fun _ _ _ h => h
    powerUp := fun stays => absurd (.inl rfl) stays
    restart := fun tag stays => absurd (.inr ⟨tag, rfl⟩) stays
    fault := fun _ _ _ _ _ h => State.recordFault_lockedDown h _ _ _ _
    sense := fun _ _ _ _ h => h
    owner := fun c _ _ taken other h => (requestOwner_changes (R := True) c (fun _ => trivial) taken other).keeps_lockedDown h
    act := fun c s _ inside h => (eventAct_changes (R := True) c s (fun _ => trivial) inside).keeps_lockedDown h }

/-- Settles O49: CLEAR_HOLD is refused outside HOLD, and nothing else sets the condition back. -/
theorem lockdownIsLeftByResetsOnly : Obligations.LockdownIsLeftByResetsOnly := fun _ _ _ locked ht stays =>
  ((lockedDown_kept false).exec (fun _ runs => not_isReset_of_runs runs stays) ⟨locked, nofun⟩ ht).1

/-! ### Frozen lessons take no event -/

/-- What the freeze keeps: the contexts, the duel record, the log, the words and the word queues. -/
def State.lessons (s : State) : Pair Context × DuelRecord × ResultLog × List Slot × WordQueues :=
  (s.ae, s.dc, s.rl, s.wt, s.ps)

theorem SpeechOnly.lessons {s t : State} (h : SpeechOnly s t) : t.lessons = s.lessons := by
  rw [h]
  rfl

section Lessons

variable (s : State) (x : Seat) (n : Nat)

@[simp] theorem State.lessons_recordFault (c : FaultCode) (k : FaultContext) (d : Nat) (r : Option Bool) :
    (s.recordFault c k d r).lessons = s.lessons := by
  simp [State.lessons]

@[simp] theorem State.lessons_raise (c : Cause) : (s.raise c).lessons = s.lessons := rfl
@[simp] theorem State.lessons_setSeat (r : SeatRecord) : (s.setSeat x r).lessons = s.lessons := rfl
@[simp] theorem State.lessons_mapScan (f : Scan → Scan) : (s.mapScan f).lessons = s.lessons := rfl
@[simp] theorem State.lessons_advanceScan (sc : Scan) : (s.advanceScan sc).lessons = s.lessons := rfl

@[simp] theorem State.lessons_setVoice (v : Voice) (p : Option Playing) : (s.setVoice v p).lessons = s.lessons := by
  cases v <;> rfl

@[simp] theorem State.lessons_setClip (c : Option Clip) : (s.setClip n c).lessons = s.lessons := by
  cases n <;> rfl

@[simp] theorem State.lessons_giveAlert : (s.giveAlert x n).lessons = s.lessons := rfl

@[simp] theorem State.lessons_giveDue : (s.giveDue x n).lessons = s.lessons := by
  unfold State.giveDue
  split <;> rfl

@[simp] theorem State.lessons_giveAllDue : (s.giveAllDue x).lessons = s.lessons := by
  have each : ∀ (l : List Nat) (u : State), (l.foldl (fun s n => s.giveDue x n) u).lessons = u.lessons := by
    intro l
    induction l with
    | nil => exact fun _ => rfl
    | cons n l ih => exact fun u => (ih _).trans (u.lessons_giveDue x n)
  exact each _ s

@[simp] theorem State.lessons_tickSeat : (s.tickSeat x).lessons = s.lessons := by
  unfold State.tickSeat
  dsimp only
  split <;> rfl

@[simp] theorem State.lessons_faultSeat (c : SeatFault) (r : Option Nat) :
    (s.faultSeat x c r).lessons = s.lessons := rfl

@[simp] theorem State.lessons_appendKey (k : KeyCode) : (s.appendKey x k).1.lessons = s.lessons := by
  unfold State.appendKey
  dsimp only
  split <;> simp

@[simp] theorem State.lessons_debounce (d : Decode) : (s.debounce x n d).1.lessons = s.lessons := by
  unfold State.debounce State.keyDown
  dsimp only
  repeat' split
  all_goals simp

@[simp] theorem State.lessons_ladderCheck (t : Tally) : (s.ladderCheck x n t).lessons = s.lessons := by
  unfold State.ladderCheck State.countScan State.raiseSeatChange
  dsimp only
  repeat' split
  all_goals simp

@[simp] theorem State.lessons_completeRow (sc : Scan) (level : Nat) :
    (s.completeRow sc level).1.lessons = s.lessons := by
  unfold State.completeRow
  split <;> simp

@[simp] theorem State.lessons_settleSense : (s.settleSense x).1.lessons = s.lessons := by
  unfold State.settleSense State.seatToEmpty State.raiseSeatChange
  dsimp only
  repeat' split
  all_goals simp

@[simp] theorem State.lessons_readDone (answer : Option Identity) : (s.readDone x answer).lessons = s.lessons := by
  unfold State.readDone State.completeRead State.failRead State.matchMap
  dsimp only
  repeat' split
  all_goals simp

@[simp] theorem State.lessons_completeVerify : s.completeVerify.lessons = s.lessons := by
  unfold State.completeVerify
  split
  · rfl
  · split
    · rfl
    · dsimp only
      rw [State.lessons_raise]
      split
      · exact s.lessons_setClip _ _
      · exact (State.lessons_recordFault _ _ _ _ _).trans (s.lessons_setClip _ _)

@[simp] theorem State.lessons_reportClipParity : (s.reportClipParity n).lessons = s.lessons := by
  unfold State.reportClipParity
  repeat' split
  all_goals simp

@[simp] theorem State.lessons_takeScanStart : s.takeScanStart.lessons = s.lessons := by
  unfold State.takeScanStart
  split
  · rfl
  · simp

end Lessons

@[simp] theorem State.fb_tickSeat (s : State) (x : Seat) : (s.tickSeat x).fb = s.fb := by
  unfold State.tickSeat
  dsimp only
  split <;> rfl

theorem State.lessons_lessonTick {s : State} (frozen : s.fb.frozen = true) : s.lessonTick.lessons = s.lessons := by
  unfold State.lessonTick State.tickContexts
  simp only [State.fb_tickSeat, frozen, if_true, State.lessons_tickSeat]
  rfl

/-- While the lessons are frozen a scan start, even one that brings a lesson tick, leaves them (R56). -/
theorem State.lessons_scanStart {s : State} (frozen : s.fb.frozen = true) : s.scanStart.lessons = s.lessons := by
  unfold State.scanStart
  split
  · unfold State.issueScanStart State.countScanStart
    rw [State.lessons_takeScanStart]
    split
    · exact State.lessons_lessonTick (s := s.loadGenerator) frozen
    · rfl
  · rfl

theorem SpeechOnly.arbitrate (s : State) : SpeechOnly s s.arbitrate.1 := by
  unfold State.arbitrate
  split
  · rfl
  · rename_i v fill
    split
    · rfl
    · rename_i u best
      have started := (SpeechMove.start s v u fill best).only
      dsimp only
      split
      · split
        · exact started.trans (.freeVoice _ v)
        · exact started
      · exact started

theorem SpeechOnly.runTask_frozen {s : State} (frozen : s.fb.frozen = true) (t : Task) :
    SpeechOnly s (runTask t s).1 := by
  cases speech : t.ofSpeech
  · rw [Machine.runTask_frozen t s frozen speech]
    rfl
  · unfold runTask
    rw [speech, Bool.not_true, Bool.and_false]
    unfold Task.ofSpeech at speech
    split at speech
    · exact .arbitrate s
    · rfl
    · cases speech

theorem SpeechOnly.drain_frozen : ∀ (k : Nat) (ts : List Task) {s : State}, s.fb.frozen = true →
    SpeechOnly s (drain k ts s)
  | 0, _, s, _ => .refl s
  | _ + 1, [], s, _ => .refl s
  | k + 1, t :: ts, s, frozen => by
    have ran := SpeechOnly.runTask_frozen frozen t
    rw [drain_cons]
    exact ran.trans (SpeechOnly.drain_frozen k _ (by rw [ran.fb, frozen]))

/-- While the lessons are frozen a cascade acts on speech alone. -/
theorem SpeechOnly.carryOut_frozen {s : State} (frozen : s.fb.frozen = true) (ts : List Task) :
    SpeechOnly s (s.carryOut ts) := .drain_frozen _ ts frozen

theorem State.lessons_done {a : Act} (frozen : a.1.fb.frozen = true) : a.done.lessons = a.1.lessons :=
  (SpeechOnly.carryOut_frozen frozen a.2).lessons

theorem State.lessons_endPlaying {s : State} (frozen : s.fb.frozen = true) (v : Voice) (u : Utterance) (st : EndStatus) :
    (s.endPlaying v u st).lessons = s.lessons := by
  have freed := SpeechOnly.freeVoice s v
  exact (SpeechOnly.trans freed (.carryOut_frozen (by rw [freed.fb, frozen]) _)).lessons

theorem State.lessons_advanceVoice {s : State} (frozen : s.fb.frozen = true) (v : Voice) :
    (s.advanceVoice v).lessons = s.lessons := by
  unfold State.advanceVoice
  split
  · split
    · split
      · exact State.lessons_endPlaying frozen _ _ _
      · simp
    · rfl
  · rfl

theorem State.lessons_parityError {s : State} (h : s.lockedDown true) (v : Voice) (holdFirst : Bool) :
    (s.parityError v holdFirst).lessons = s.lessons := by
  unfold State.parityError
  split
  · split
    · rename_i p _ _ id _
      have reported : ((s.setVoice v none).reportClipParity id).lockedDown true := by
        rw [State.reportClipParity_setVoice]
        have cs : ∀ w : State, (w.setVoice v none).fb = w.fb := fun w => by cases v <;> rfl
        refine State.lockedDown_congr ?_ (cs _)
        exact (Changes.reportClipParity (R := True) .refl).keeps_lockedDown h
      have unpinned := SpeechOnly.unpinAll p.utterance.clips ((s.setVoice v none).reportClipParity id)
      have faulted := State.recordFault_lockedDown (State.lockedDown_congr reported unpinned.fb) .clipParity (.clip id) 0
        (some true)
      dsimp only
      rw [(SpeechOnly.carryOut_frozen (faulted.2 rfl) _).lessons]
      simp [unpinned.lessons]
    · rfl
  · rfl

/-- An event of a block leaves frozen lessons as they are. -/
theorem State.lessons_eventAct {c : Instr} {s : State} (h : s.lockedDown true) : (eventAct c s).lessons = s.lessons := by
  have frozen : s.fb.frozen = true := h.2 rfl
  unfold eventAct
  split
  case h_1 =>
    unfold State.gapExpired
    split
    · simp only [State.lessons_recordFault]
      rfl
    · rfl
  case h_2 | h_3 => rfl
  case h_4 => exact State.lessons_scanStart frozen
  case h_5 =>
    unfold State.tickStart
    split
    · exact State.lessons_scanStart frozen
    · rfl
  case h_6 level =>
    unfold State.rowDone
    split
    · rename_i sc _
      rw [State.lessons_done (((Changes.completeRow (R := True) (.refl (a := s))).keeps_lockedDown h).2 rfl)]
      simp
    · rfl
  case h_7 =>
    unfold State.rowTimedOut
    split
    · exact State.lessons_recordFault _ _ _ _ _
    · rfl
  case h_8 x =>
    unfold State.senseDone
    split
    · rw [State.lessons_done (((Changes.settleSense (R := True) (.refl (a := s))).keeps_lockedDown h).2 rfl)]
      simp
    · rfl
  case h_9 => simp
  case h_10 => simp
  case h_11 x =>
    have idle : s.idleExpired x = false := by simp [State.idleExpired, frozen]
    simp [idle]
  case h_12 v =>
    unfold State.voiceDone
    split
    · exact State.lessons_endPlaying frozen _ _ _
    · rfl
  case h_13 v => exact State.lessons_advanceVoice frozen v
  case h_14 v holdFirst => exact State.lessons_parityError h v holdFirst
  case h_15 => simp
  case h_16 x =>
    unfold State.takeInFlight
    split
    · rw [if_pos frozen]
    · rfl
  case h_17 => exact (SpeechOnly.carryOut_frozen frozen _).lessons
  case h_18 =>
    split
    · exact (SpeechOnly.cancel s.stopGenerator _).lessons
    · rfl
  case h_19 => rfl

/-- A request that passes the lockdown filter, but for RESTART FULL, leaves the lessons as they are (R204). -/
theorem State.lessons_requestOwner {c : Instr} {s : State} (passes : c.passesLockdown = true)
    (other : ∀ tag, c ≠ .restartFull tag) : (requestOwner c s).1.lessons = s.lessons := by
  unfold Instr.passesLockdown at passes
  split at passes
  case h_1 | h_3 => rfl
  case h_2 tag bank =>
    show (readFaultsOwner bank s).1.lessons = _
    unfold readFaultsOwner
    split <;> rfl
  case h_4 tag seat =>
    show (forSeat seat readAttemptOwner s).1.lessons = _
    unfold forSeat
    split <;> rfl
  case h_5 tag => exact absurd rfl (other tag)
  case h_6 => cases passes

/-- Settles O50: an event finds AE, DC and RL frozen, and of the requests that pass LOCKDOWN none but RESTART FULL acts on
them. -/
theorem frozenLessonsStand : Obligations.FrozenLessonsStand := by
  intro c s t locked frozen ht stays
  have kept : KeptOutside (fun c => ¬ isReset c) fun u : State => u.lockedDown true ∧ u.lessons = s.lessons :=
    { held := fun _ h => h
      link := fun _ _ _ h => h
      powerUp := fun stays => absurd (.inl rfl) stays
      restart := fun tag stays => absurd (.inr ⟨tag, rfl⟩) stays
      fault := fun u _ _ _ _ ⟨lock, same⟩ =>
        ⟨State.recordFault_lockedDown lock _ _ _ _, (u.lessons_recordFault _ _ _ _).trans same⟩
      sense := fun _ _ _ _ h => h
      owner := fun c u stays taken other ⟨lock, same⟩ => ⟨(lockedDown_kept true).owner c u stays taken other lock,
        (State.lessons_requestOwner (taken.2.2.2 lock.1) other).trans same⟩
      act := fun c u stays inside ⟨lock, same⟩ => ⟨(lockedDown_kept true).act c u stays inside lock,
        (State.lessons_eventAct lock).trans same⟩ }
  obtain ⟨lock, same⟩ := kept.exec (fun _ runs => not_isReset_of_runs runs stays) ⟨⟨locked, fun _ => frozen⟩, rfl⟩ ht
  simp only [State.lessons, Prod.mk.injEq] at same
  obtain ⟨ae, dc, rl, wt, ps⟩ := same
  exact ⟨lock.2 rfl, ae, dc, rl, wt, ps⟩

end Sys2Proof.Machine
end

section
/-! The scan generator, scan starts and lesson ticks (R28, R111, R112, R117, R137 to R142). -/

namespace Sys2Proof.Machine

/-! ### The scan generator -/

theorem State.generatorRuns_of_stopped {s : State} (h : s.tb.generator = .stopped) : s.generatorRuns = false := by
  rw [State.generatorRuns, h]

theorem State.generatorRuns_of_running {s : State} {n : Nat} (h : s.tb.generator = .running n) :
    s.generatorRuns = true := by
  rw [State.generatorRuns, h]

theorem State.scanStart_running {s : State} {n : Nat} (h : s.tb.generator = .running n) :
    s.scanStart = s.issueScanStart := by
  rw [State.scanStart, State.generatorRuns_of_running h, if_pos rfl]

theorem State.scanStart_stopped {s : State} (h : s.tb.generator = .stopped) : s.scanStart = s := by
  simp [State.scanStart, State.generatorRuns_of_stopped h]

/-- What a fault makes of the banks and the pending causes depends on these alone. -/
theorem State.recordFault_congr {s t : State} (fb : t.fb = s.fb) (au : t.au = s.au) (c : FaultCode) (k : FaultContext)
    (d : Nat) (r : Option Bool) : (t.recordFault c k d r).fb = (s.recordFault c k d r).fb ∧
      (t.recordFault c k d r).au = (s.recordFault c k d r).au := by
  have enabled : t.faultEnabled c = s.faultEnabled c := by
    unfold State.faultEnabled
    rw [fb]
  unfold State.recordFault
  dsimp only
  rw [fb, enabled]
  split
  · exact ⟨rfl, congrArg (fun a => ({ s with au := a } : State).raise .fault |>.au) au⟩
  · exact ⟨rfl, au⟩

/-! ### The scan that begins (R111) -/

theorem State.nextRow_zero (s : State) : s.nextRow 0 =
    if s.converts .a then some 0 else if s.converts .b then some 8 else none := by
  have rows : (List.range 16).drop 0 = [0, 1, 2, 3, 4, 5, 6, 7, 8, 9, 10, 11, 12, 13, 14, 15] := rfl
  unfold State.nextRow
  rw [rows]
  cases ha : s.converts .a
  · cases hb : s.converts .b <;> simp [rowSeat, ha, hb]
  · simp [rowSeat, ha]

theorem State.converts_exists_iff (s : State) :
    (∃ y, s.converts y = true) ↔ s.converts .a = true ∨ s.converts .b = true := by
  constructor
  · rintro ⟨y, h⟩
    cases y
    · exact .inl h
    · exact .inr h
  · rintro (h | h)
    · exact ⟨_, h⟩
    · exact ⟨_, h⟩

/-- A scan begins at the first row to convert, with fresh tallies; it begins exactly if a seat has rows to convert. -/
theorem State.beginScan_scan (s : State) :
    ((∃ y, s.converts y = true) ↔ s.beginScan.ks.scan.isSome = true) ∧
    ∀ sc, s.beginScan.ks.scan = some sc → s.converts (rowSeat sc.row) = true ∧ sc.row % 8 = 0 ∧ sc.discard = false ∧
      (∀ y, sc.tally.get y = ⟨0, none⟩) ∧ (sc.row = 8 → s.converts .a = false) := by
  have first : s.beginScan.ks.scan =
      (s.nextRow 0).map fun i => { row := i, discard := false, tally := ⟨Tally.fresh, Tally.fresh⟩ : Scan } := rfl
  have tallies : ∀ y, (⟨Tally.fresh, Tally.fresh⟩ : Pair Tally).get y = ⟨0, none⟩ := fun y => by cases y <;> rfl
  rw [State.converts_exists_iff, first, State.nextRow_zero]
  cases ha : s.converts .a
  · cases hb : s.converts .b
    · exact ⟨by simp, nofun⟩
    · refine ⟨by simp, fun sc h => ?_⟩
      cases h
      exact ⟨hb, rfl, rfl, tallies, fun _ => rfl⟩
  · refine ⟨by simp, fun sc h => ?_⟩
    cases h
    exact ⟨ha, rfl, rfl, tallies, nofun⟩

/-! ### Lesson ticks -/

/-- A lesson tick in a context that is not frozen (R28). -/
theorem State.ctx_tickContexts {s : State} (frozen : s.fb.frozen = false) (x : Seat) :
    s.tickContexts.ctx x = (s.ctx x).tick (s.round x).ended.isSome := by
  unfold State.tickContexts
  rw [frozen]
  cases x <;> rfl

theorem Context.tick_eq (c : Context) (ended : Option AttemptEnd) : c.tick ended.isSome = { c with
    elapsed := if c.target.isSome ∧ c.startTick.isSome ∧ (c.mode ≠ .duel ∨ ended = none)
      then min (c.elapsed + 1) 65535 else c.elapsed
    idleTimer := if c.state = .typing ∧ c.idleRunning = true then c.idleTimer - 1 else c.idleTimer } := by
  have counted : c.counts ended.isSome = true ↔
      (c.target.isSome ∧ c.startTick.isSome ∧ (c.mode ≠ .duel ∨ ended = none)) := by
    cases ended <;> simp [Context.counts, and_assoc]
  unfold Context.tick satSucc
  simp only [counted]

@[simp] theorem State.ks_tickContexts (s : State) : s.tickContexts.ks = s.ks := by
  unfold State.tickContexts
  split <;> rfl

theorem State.seat_tickSeat (s : State) (x y : Seat) : (s.tickSeat x).seat y =
    if y = x ∧ (s.seat x).state = .ready then
      { s.seat x with rows := (s.seat x).rows.map (RowRecord.tick s.cfg.holdLimit) }
    else s.seat y := by
  unfold State.tickSeat
  dsimp only
  split
  · rename_i ready
    rw [State.seat_setSeat]
    by_cases h : y = x
    · rw [if_pos h, if_pos ⟨h, ready⟩]
    · rw [if_neg h, if_neg fun both => h both.1]
  · rename_i notReady
    rw [if_neg fun both => notReady both.2]

/-- A seat after both seats were ticked. -/
theorem State.seat_tickSeats (s : State) (x : Seat) : ((s.tickSeat .a).tickSeat .b).seat x =
    if (s.seat x).state = .ready then
      { s.seat x with rows := (s.seat x).rows.map (RowRecord.tick s.cfg.holdLimit) }
    else s.seat x := by
  have cfg : (s.tickSeat .a).cfg = s.cfg := by
    unfold State.tickSeat
    dsimp only
    split <;> rfl
  rw [State.seat_tickSeat, cfg]
  cases x <;> simp [State.seat_tickSeat]

theorem RowRecord.tick_eq (limit : Nat) (r : RowRecord) :
    (r.tick limit).stable = r.stable ∧ (r.tick limit).candidate = r.candidate ∧ (r.tick limit).streak = r.streak ∧
    (r.tick limit).alerted = r.alerted ∧
    (r.tick limit).holdCount = (if r.stable = .idle then r.holdCount else min (r.holdCount + 1) 2000) ∧
    ((r.tick limit).due = true ↔ r.due = true ∨
      r.stable ≠ .idle ∧ limit ≤ (r.tick limit).holdCount ∧ r.alerted = false) := by
  unfold RowRecord.tick
  split
  · rename_i idle
    simp [idle]
  · rename_i held
    simp [held]

/-- What a lesson tick changes. -/
theorem State.lessonTick_only (s : State) :
    s.lessonTick = { s with tb := s.lessonTick.tb, ae := s.lessonTick.ae,
                            ks := { s.ks with seats := s.lessonTick.ks.seats } } := by
  unfold State.lessonTick State.tickContexts State.tickSeat
  dsimp only
  repeat' split
  all_goals rfl

/-! ### Scan starts (R137, R141) -/

/-- A scan start below the divisor in use counts up. -/
theorem State.issueScanStart_below {s : State} (below : s.tb.count + 1 < s.tb.divisorInUse) :
    s.issueScanStart = ({ s with tb := { s.tb with
      generator := .running s.cfg.scanDivisor, count := s.tb.count + 1 } } : State).takeScanStart := by
  have notNext : s.loadGenerator.tickIsNext = false := decide_eq_false (Nat.not_le.2 below)
  rw [State.issueScanStart, State.countScanStart, notNext]
  rfl

/-- A scan start at the divisor in use brings a lesson tick. -/
theorem State.issueScanStart_tick {s : State} (reached : s.tb.divisorInUse ≤ s.tb.count + 1) :
    s.issueScanStart = s.loadGenerator.lessonTick.takeScanStart := by
  have next : s.loadGenerator.tickIsNext = true := decide_eq_true reached
  rw [State.issueScanStart, State.countScanStart, next]
  rfl

theorem State.takeScanStart_busy {s : State} {sc : Scan} (h : s.ks.scan = some sc) :
    s.takeScanStart = s.recordFault .scanOverrun .nothing 0 none := by
  rw [State.takeScanStart, h]

theorem State.takeScanStart_free {s : State} (h : s.ks.scan = none) : s.takeScanStart = s.beginScan := by
  rw [State.takeScanStart, h]

/-- Whether a seat's rows are converted depends on its state alone. -/
theorem State.converts_congr {s t : State} {x : Seat} (h : (t.seat x).state = (s.seat x).state) :
    t.converts x = s.converts x := by
  rw [State.converts, State.converts, h]

/-- A scan start takes a scan or drops it; the rest of the part it leaves, but for the fault it then records. -/
theorem State.takeScanStart_only (s : State) : s.takeScanStart =
    { s with ks := { s.ks with scan := s.takeScanStart.ks.scan }, fb := s.takeScanStart.fb,
             au := s.takeScanStart.au } := by
  unfold State.takeScanStart
  split
  · rfl
  · rw [State.recordFault_only]

theorem State.seat_takeScanStart (s : State) (x : Seat) : s.takeScanStart.seat x = s.seat x := by
  rw [State.takeScanStart_only]
  rfl

theorem State.ctx_takeScanStart (s : State) (x : Seat) : s.takeScanStart.ctx x = s.ctx x := by
  rw [State.takeScanStart_only]
  rfl

@[simp] theorem State.ctx_tickSeat (s : State) (x y : Seat) : (s.tickSeat x).ctx y = s.ctx y := by
  unfold State.tickSeat
  dsimp only
  split <;> rfl

@[simp] theorem State.round_tickSeat (s : State) (x y : Seat) : (s.tickSeat x).round y = s.round y := by
  unfold State.tickSeat
  dsimp only
  split <;> rfl

theorem State.seat_lessonTick (s : State) (x : Seat) : s.lessonTick.seat x =
    if (s.seat x).state = .ready then
      { s.seat x with rows := (s.seat x).rows.map (RowRecord.tick s.cfg.holdLimit) }
    else s.seat x := by
  show (State.tickContexts _).seat x = _
  rw [State.seat, State.ks_tickContexts]
  exact State.seat_tickSeats _ x

theorem State.ctx_lessonTick {s : State} (frozen : s.fb.frozen = false) (x : Seat) :
    s.lessonTick.ctx x = (s.ctx x).tick (s.round x).ended.isSome := by
  unfold State.lessonTick
  dsimp only
  rw [State.ctx_tickContexts (by simpa using frozen)]
  simp only [State.ctx_tickSeat, State.round_tickSeat]
  rfl

/-! ### The requests and events -/

theorem scanStartOwner_stopped {s : State} (h : s.tb.generator = .stopped) : scanStartOwner s =
    ({ s with tb := { s.tb with generator := .running s.cfg.scanDivisor } } : State).ok
      [1, byte s.tb.counter, byte (s.tb.counter / 256)] := by
  simp only [scanStartOwner, State.generatorRuns_of_stopped h]
  rfl

theorem scanStartOwner_running {s : State} {n : Nat} (h : s.tb.generator = .running n) :
    scanStartOwner s = s.ok [1, byte s.tb.counter, byte (s.tb.counter / 256)] := by
  simp only [scanStartOwner, State.generatorRuns_of_running h, if_true, State.generatorBytes]
  rfl

/-- A scan start below the divisor in use while no scan is in progress begins one (R111). -/
theorem State.issueScanStart_begins {s : State} (below : s.tb.count + 1 < s.tb.divisorInUse) (free : s.ks.scan = none) :
    s.issueScanStart = ({ s with tb := { s.tb with
      generator := .running s.cfg.scanDivisor, count := s.tb.count + 1 } } : State).beginScan := by
  exact (State.issueScanStart_below below).trans (State.takeScanStart_free (by exact free))

/-- The scan start that brings a lesson tick, field by field. -/
theorem State.issueScanStart_ticks {s : State} (reached : s.tb.divisorInUse ≤ s.tb.count + 1)
    (frozen : s.fb.frozen = false) :
    (∀ x, s.issueScanStart.ctx x = (s.ctx x).tick (s.round x).ended.isSome) ∧
    (∀ x, s.issueScanStart.seat x = if (s.seat x).state = .ready then
      { s.seat x with rows := (s.seat x).rows.map (RowRecord.tick s.cfg.holdLimit) } else s.seat x) ∧
    (∀ sc, s.ks.scan = some sc → s.issueScanStart.ks.scan = some sc ∧
      s.issueScanStart.fb = (s.recordFault .scanOverrun .nothing 0 none).fb ∧
      s.issueScanStart.au = (s.recordFault .scanOverrun .nothing 0 none).au) ∧
    (s.ks.scan = none → s.issueScanStart.fb = s.fb ∧ s.issueScanStart.au = s.au ∧
      ((∃ y, s.converts y = true) ↔ s.issueScanStart.ks.scan.isSome = true)) := by
  have only := s.loadGenerator.lessonTick_only
  have scan : s.loadGenerator.lessonTick.ks.scan = s.ks.scan := by
    rw [only]
    rfl
  have fb : s.loadGenerator.lessonTick.fb = s.fb := by
    rw [only]
    rfl
  have au : s.loadGenerator.lessonTick.au = s.au := by
    rw [only]
    rfl
  rw [State.issueScanStart_tick reached]
  refine ⟨fun x => ?_, fun x => ?_, fun sc busy => ?_, fun free => ?_⟩
  · rw [State.ctx_takeScanStart]
    exact State.ctx_lessonTick (s := s.loadGenerator) frozen x
  · rw [State.seat_takeScanStart]
    exact State.seat_lessonTick _ x
  · rw [State.takeScanStart_busy (scan.trans busy)]
    exact ⟨by simpa using scan.trans busy, State.recordFault_congr fb au _ _ _ _⟩
  · rw [State.takeScanStart_free (scan.trans free), ← (State.beginScan_scan _).1]
    refine ⟨fb, au, exists_congr fun y => iff_of_eq (congrArg (· = true) (State.converts_congr ?_).symm)⟩
    rw [State.seat_lessonTick]
    split <;> rfl

theorem State.issueScanStart_rest (s : State) : s.issueScanStart.cfg = s.cfg ∧ s.issueScanStart.dc = s.dc ∧
    s.issueScanStart.rl = s.rl ∧ s.issueScanStart.ps = s.ps ∧ s.issueScanStart.wt = s.wt ∧ s.issueScanStart.se = s.se ∧
    s.issueScanStart.cs = s.cs ∧ s.issueScanStart.lp = s.lp := by
  unfold State.issueScanStart State.countScanStart
  rw [State.takeScanStart_only]
  split
  · rw [State.lessonTick_only]
    exact ⟨rfl, rfl, rfl, rfl, rfl, rfl, rfl, rfl⟩
  · exact ⟨rfl, rfl, rfl, rfl, rfl, rfl, rfl, rfl⟩

/-- Settles O36: a scan start counts in the divider first, and KS takes it then. -/
theorem scanStartsAndLessonTicks : Obligations.ScanStartsAndLessonTicks := by
  refine ⟨fun s tag => ⟨fun taken stopped => exec_answer rfl taken (scanStartOwner_stopped stopped),
      fun n taken running => exec_answer rfl taken (scanStartOwner_running running),
      fun taken => exec_answer rfl taken rfl⟩, fun s out => ?_, fun s t below positive ht =>
      step_keeps_tickLaw ⟨below, positive⟩ ht⟩
  have issued : exec .scanStartIssued s = .next s.scanStart := event_taken out
  have ticked : exec .lessonTick s = .next s.tickStart := event_taken out
  rw [issued, ticked]
  refine ⟨fun stopped => ?_, fun below => ?_, fun reached => ?_, fun n sc running below busy => ?_,
    fun n running below free => ?_, fun n running reached frozen => ?_⟩
  · rw [State.scanStart_stopped stopped, State.tickStart_stopped s stopped]
    exact ⟨rfl, rfl⟩
  · rw [State.tickStart, State.tickIsNext, decide_eq_false (Nat.not_le.2 below)]
    rfl
  · rw [State.tickStart, State.tickIsNext, decide_eq_true reached]
    rfl
  · rw [State.scanStart_running running]
    exact congrArg Host.Outcome.next
      ((State.issueScanStart_below below).trans (State.takeScanStart_busy (sc := sc) (by exact busy)))
  · rw [State.scanStart_running running, State.issueScanStart_begins below free]
    obtain ⟨begins, scan⟩ := State.beginScan_scan { s with tb := { s.tb with
      generator := .running s.cfg.scanDivisor, count := s.tb.count + 1 } }
    refine ⟨_, rfl, rfl, ?_, begins, scan⟩
    rw [← free]
    rfl
  · obtain ⟨ctx, seat, busy, free⟩ := State.issueScanStart_ticks reached frozen
    rw [State.scanStart_running running]
    refine ⟨_, rfl, ?_, fun x => ?_, fun x notReady => ?_, fun x r k ready row => ?_, fun x => ?_, busy, free,
      s.issueScanStart_rest⟩
    · rw [State.tb_issueScanStart, if_pos reached]
      rfl
    · rw [ctx, Context.tick_eq]
    · rw [seat, if_neg notReady]
    · rw [seat, if_pos ready]
      obtain ⟨stable, candidate, streak, alerted, holdCount, due⟩ := RowRecord.tick_eq s.cfg.holdLimit r
      exact ⟨_, by simp [row], stable, candidate, streak, alerted, holdCount, due⟩
    · rw [seat]
      split <;> rfl

end Sys2Proof.Machine
end

section
/-! The Clip Store: OPEN_CLIP, CLIP_DATA, COMMIT_CLIP, DELETE_CLIP and the verify's completion (R172 to R178). -/

namespace Sys2Proof.Machine

/-! ### Blocks (R173) -/

theorem runFree_iff {blocks : List (Option Nat)} {c b : Nat} (h : 0 < c) :
    runFree blocks c b = true ↔ ∀ i, i < c → blocks[b + i]? = some none := by
  unfold runFree
  simp only [Bool.and_eq_true, decide_eq_true_eq, List.all_eq_true]
  constructor
  · rintro ⟨fits, free⟩ i hi
    have here : ((blocks.drop b).take c)[i]? = some (blocks[b + i]'(by omega)) := by
      rw [List.getElem?_take_of_lt hi, List.getElem?_drop, List.getElem?_eq_getElem (by omega)]
    have none := free _ (List.mem_of_getElem? here)
    rw [List.getElem?_eq_getElem (by omega)]
    simpa using none
  · intro free
    obtain ⟨last, -⟩ := List.getElem?_eq_some_iff.1 (free (c - 1) (by omega))
    refine ⟨by omega, fun v hv => ?_⟩
    obtain ⟨i, hi, rfl⟩ := List.getElem_of_mem hv
    rw [List.length_take] at hi
    have := free i (by omega)
    rw [List.getElem?_eq_getElem (by omega)] at this
    simp only [Option.some.injEq] at this
    simp [this]

/-- First-fit gives the lowest free run (R173). -/
theorem firstFit_lowest {blocks : List (Option Nat)} {c b : Nat} (h : 0 < c)
    (free : ∀ i, i < c → blocks[b + i]? = some none)
    (lowest : ∀ d, d < b → ∃ i, i < c ∧ blocks[d + i]? ≠ some none) : firstFit blocks c = some b := by
  obtain ⟨within, -⟩ := List.getElem?_eq_some_iff.1 (free 0 h)
  unfold firstFit
  rw [List.find?_range_eq_some]
  refine ⟨(runFree_iff h).2 free, List.mem_range.2 within, fun d hd => ?_⟩
  obtain ⟨i, hi, held⟩ := lowest d hd
  rw [Bool.not_eq_true', ← Bool.not_eq_true, runFree_iff h]
  exact fun all => held (all i hi)

theorem firstFit_full {blocks : List (Option Nat)} {c : Nat} (h : 0 < c)
    (full : ∀ d, ∃ i, i < c ∧ blocks[d + i]? ≠ some none) : firstFit blocks c = none := by
  unfold firstFit
  rw [List.find?_range_eq_none]
  intro d _
  obtain ⟨i, hi, held⟩ := full d
  rw [Bool.not_eq_true', ← Bool.not_eq_true, runFree_iff h]
  exact fun all => held (all i hi)

theorem blocksFor_eq (length : Nat) : blocksFor length = (length + 1023) / 1024 := rfl

theorem blocksFor_pos {length : Nat} (h : length ≠ 0) : 0 < blocksFor length := by
  rw [blocksFor_eq]
  omega

theorem holdBlocks_getElem? (blocks : List (Option Nat)) (id b c i : Nat) (h : i < blocks.length) :
    (holdBlocks blocks id b c)[i]? = if b ≤ i ∧ i < b + c then some (some id) else blocks[i]? := by
  rw [holdBlocks, List.getElem?_mapIdx, List.getElem?_eq_getElem h]
  by_cases inside : b ≤ i ∧ i < b + c <;> simp [inside]

theorem freeBlocks_getElem? (blocks : List (Option Nat)) (id i : Nat) :
    (freeBlocks blocks id)[i]? = if blocks[i]? = some (some id) then some none else blocks[i]? := by
  rw [freeBlocks, List.getElem?_map]
  cases blocks[i]? with
  | none => rfl
  | some v => by_cases mine : v = some id <;> simp [mine]

/-! ### What an act on a clip leaves -/

theorem State.setClip_only (s : State) (id : Nat) (d : Option Clip) : s.setClip id d =
    { s with cs := { s.cs with directory := (s.setClip id d).cs.directory } } := by
  cases id <;> rfl

theorem State.clip_openRun {s : State} {id : Nat} (h0 : id ≠ 0) (h : id ≤ s.cs.directory.length) (c : Clip) (k : Nat) :
    (s.openRun id c).clip k = if k = id then some c else s.clip k := by
  rw [← State.clip_setClip h0 h (some c) k]
  exact State.clip_congr rfl k

theorem State.blocks_openRun (s : State) (id : Nat) (c : Clip) :
    (s.openRun id c).cs.blocks = holdBlocks s.cs.blocks id c.firstBlock c.blockCount := by
  cases id <;> rfl

theorem State.openRun_only (s : State) (id : Nat) (c : Clip) : (s.openRun id c).cs.bytes = s.cs.bytes ∧
    (s.openRun id c).cs.verify = s.cs.verify ∧ { s.openRun id c with cs := s.cs } = s := by
  unfold State.openRun
  rw [State.setClip_only]
  exact ⟨rfl, rfl, rfl⟩

theorem State.clip_writeClip {s : State} {id : Nat} {c : Clip} (present : s.clip id = some c) (bytes : List Byte)
    (k : Nat) : (s.writeClip id c bytes).clip k = if k = id then some { c with fill := c.fill + bytes.length }
      else s.clip k := by
  have stored : ∀ j, (s.storeBytes (c.address c.fill) bytes).clip j = s.clip j := State.clip_congr rfl
  unfold State.writeClip
  rw [State.clip_setClip_present ((stored id).trans present), stored]

theorem State.writeClip_only (s : State) (id : Nat) (c : Clip) (bytes : List Byte) :
    (s.writeClip id c bytes).cs.bytes = Memory.writeAll s.cs.bytes (c.address c.fill) bytes ∧
    (s.writeClip id c bytes).cs.parity = Memory.writeAll s.cs.parity (c.address c.fill) (bytes.map parityMark) ∧
    (s.writeClip id c bytes).cs.blocks = s.cs.blocks ∧ (s.writeClip id c bytes).cs.verify = s.cs.verify ∧
    { s.writeClip id c bytes with cs := s.cs } = s := by
  unfold State.writeClip
  rw [State.setClip_only]
  exact ⟨rfl, rfl, rfl, rfl, rfl⟩

/-! ### Bytes (R174) -/

/-- A written range reads as written. -/
theorem Memory.read_writeAll_inside : ∀ (vs : List Byte) (m : List Host.Cell) (a i : Nat), Memory.wf m = true →
    i < vs.length → Memory.read (Memory.writeAll m a vs) (a + i) = vs.getD i 0
  | v :: vs, m, a, 0, wf, _ => by
    unfold Memory.writeAll
    rw [Memory.read_writeAll_outside vs _ (a + 1) (a + 0) (by omega)]
    exact Memory.read_write_self m 0 a v wf (Nat.zero_le a)
  | v :: vs, m, a, i + 1, wf, h => by
    have here : a + (i + 1) = a + 1 + i := by omega
    unfold Memory.writeAll
    rw [here, Memory.read_writeAll_inside vs _ (a + 1) i (Memory.wf_write m a v wf) (Nat.lt_of_succ_lt_succ h)]
    rfl

/-! ### OPEN_CLIP and CLIP_DATA -/

theorem lengthGood_of {f : Format} {n : Nat} (h0 : n ≠ 0) (even : f = .s16 → n % 2 = 0) : lengthGood f n = true := by
  cases f
  · simp [lengthGood, h0]
  · simp [lengthGood, h0, even rfl]

theorem openClipOwner_good {id format rate : Byte} {length crc : Word16} {s : State} {f : Format} {r : Nat}
    (low : 1 ≤ id.toNat) (high : id.toNat ≤ 160) (hf : formatOf format = some f) (hr : rateOf rate = some r)
    (h0 : length.toNat ≠ 0) (even : f = .s16 → length.toNat % 2 = 0) :
    openClipOwner id format rate length crc s = s.openClipAt id.toNat f r length.toNat crc := by
  simp only [openClipOwner, clipIdOf_in_range low high, hf, hr, lengthGood_of h0 even, Bool.not_true,
    State.refuseIf_false]

theorem State.openClipAt_fits {s : State} {id b length : Nat} (absent : s.clip id = none)
    (fit : firstFit s.cs.blocks (blocksFor length) = some b) (f : Format) (r : Nat) (crc : BitVec 16) :
    s.openClipAt id f r length crc =
      (s.openRun id (Clip.opened f r length b crc)).ok (lowFirst b ++ [byte (blocksFor length)]) := by
  simp only [State.openClipAt, absent, fit, Option.isSome_none, State.refuseIf_false]

theorem State.openClipAt_full {s : State} {id length : Nat} (absent : s.clip id = none)
    (full : firstFit s.cs.blocks (blocksFor length) = none) (f : Format) (r : Nat) (crc : BitVec 16) :
    s.openClipAt id f r length crc = s.deny .noSpace := by
  simp only [State.openClipAt, absent, full, Option.isSome_none, State.refuseIf_false]

theorem clipDataOwner_next {id : Byte} {offset : Word16} {count : Byte} {bytes : List Byte} {s : State} {c : Clip}
    (low : 1 ≤ id.toNat) (high : id.toNat ≤ 160) (hcount : bytes.length = count.toNat) (some' : 1 ≤ count.toNat)
    (most : count.toNat ≤ 48) (present : s.clip id.toNat = some c) (loading : c.state = .loading)
    (next : offset.toNat = c.fill) (fits : c.fill + count.toNat ≤ c.length) :
    clipDataOwner id offset count bytes s =
      (s.writeClip id.toNat c bytes).ok (lowFirst (c.fill + count.toNat)) := by
  have counts : decide (count.toNat = 0 ∨ 48 < count.toNat) = false := decide_eq_false (by omega)
  have short : decide (c.length < c.fill + count.toNat) = false := decide_eq_false (by omega)
  simp only [clipDataOwner, clipIdOf_in_range low high, counts, State.clipDataAt, present, loading, next, short,
    bne_self_eq_false, State.refuseIf_false, hcount]

/-- Settles O42. -/
theorem clipsAreOpenedAndWritten : Obligations.ClipsAreOpenedAndWritten := by
  refine ⟨fun s tag id format rate length crc f r b taken low high hf hr h0 even absent size entries => ?_,
    fun s tag id offset count bytes c taken low high some' most present loading next fits wf entries => ?_⟩
  · have owner := openClipOwner_good (s := s) (crc := crc) low high hf hr h0 even
    have named : id.toNat ≠ 0 := Nat.ne_of_gt low
    have listed : id.toNat ≤ s.cs.directory.length := by
      rw [entries]
      exact high
    have clip := fun c => State.clip_openRun (s := s) named listed c
    rw [← blocksFor_eq] at *
    refine ⟨fun free lowest => ?_, fun full => ?_⟩
    · rw [State.openClipAt_fits absent (firstFit_lowest (blocksFor_pos h0) free lowest)] at owner
      obtain ⟨bytes, verify, rest⟩ := s.openRun_only id.toNat (Clip.opened f r length.toNat b crc)
      refine ⟨_, exec_answer rfl taken owner, ?_, fun k other => ?_, fun i hi => ?_, bytes, verify, rest⟩
      · rw [clip, if_pos rfl]
        rfl
      · rw [clip, if_neg other]
      · rw [State.blocks_openRun, holdBlocks_getElem? _ _ _ _ _ (by rw [size]; exact hi)]
        rfl
    · rw [State.openClipAt_full absent (firstFit_full (blocksFor_pos h0) full)] at owner
      exact exec_answer rfl taken owner
  · have ⟨_, _, wellFormed, _⟩ := taken
    have hcount : bytes.length = count.toNat := by
      simp only [Instr.wellFormed, Bool.and_eq_true, beq_iff_eq] at wellFormed
      exact wellFormed.1
    obtain ⟨stored, marks, blocks, verify, rest⟩ := s.writeClip_only id.toNat c bytes
    have address : c.address c.fill = c.firstBlock * 1024 + c.fill := rfl
    rw [address] at stored marks
    refine ⟨_, exec_answer rfl taken (clipDataOwner_next low high hcount some' most present loading next fits), ?_,
      fun k other => ?_, fun i hi => ?_, fun a outside => ⟨?_, ?_⟩, blocks, verify, rest⟩
    · rw [State.clip_writeClip present, if_pos rfl, hcount]
    · rw [State.clip_writeClip present, if_neg other]
    · rw [stored]
      exact Memory.read_writeAll_inside bytes _ _ i wf (by rw [hcount]; exact hi)
    · rw [stored]
      exact Memory.read_writeAll_outside _ _ _ _ (by rw [hcount]; exact outside)
    · rw [marks]
      exact Memory.read_writeAll_outside _ _ _ _ (by rw [List.length_map, hcount]; exact outside)

/-! ### COMMIT_CLIP and DELETE_CLIP -/

theorem forClip_in_range {id : Byte} (low : 1 ≤ id.toNat) (high : id.toNat ≤ 160) (owner : Nat → State → Answer)
    (s : State) : forClip id owner s = owner id.toNat s := by
  rw [forClip, clipIdOf_in_range low high]

/-- A clip that loads, is verified or has no pin is deleted at once (R178). -/
theorem deleteClipOwner_loose {s : State} {id : Nat} {c : Clip} (present : s.clip id = some c)
    (loose : c.state = .loading ∨ c.state = .verifying ∨ c.pins = 0) (stays : c.state ≠ .retiring) :
    deleteClipOwner id s = (s.deleteNow id).ok [0] := by
  simp only [deleteClipOwner, present]
  cases state : c.state
  case loading | verifying => rfl
  case retiring => exact absurd state stays
  case ready | bad =>
    rw [state] at loose
    simp only [reduceCtorEq, false_or] at loose
    exact if_pos loose

theorem deleteClipOwner_pinned {s : State} {id : Nat} {c : Clip} (present : s.clip id = some c)
    (done : c.state = .ready ∨ c.state = .bad) (pinned : 0 < c.pins) :
    deleteClipOwner id s = (s.setClip id (some { c with state := .retiring })).ok [5] := by
  have notFree : ¬ c.pins = 0 := Nat.ne_of_gt pinned
  simp only [deleteClipOwner, present]
  obtain state | state := done
  all_goals
    rw [state]
    exact if_neg notFree

theorem State.clip_deleteNow {s : State} {id : Nat} {c : Clip} (present : s.clip id = some c) (k : Nat) :
    (s.deleteNow id).clip k = if k = id then none else s.clip k := by
  have same : ∀ v j, ({ s with cs := { s.cs with verify := v } } : State).clip j = s.clip j := fun _ =>
    State.clip_congr rfl
  unfold State.deleteNow
  dsimp only
  rw [State.clip_dropClip ((same _ id).trans present), same]

theorem State.deleteNow_only (s : State) (id : Nat) :
    (s.deleteNow id).cs.blocks = freeBlocks s.cs.blocks id ∧
    (∀ v, s.cs.verify = some v → (s.deleteNow id).cs.verify = if v.clip = id then none else some v) ∧
    (s.deleteNow id).cs.bytes = s.cs.bytes ∧ { s.deleteNow id with cs := s.cs } = s := by
  unfold State.deleteNow State.dropClip
  dsimp only
  rw [State.setClip_only]
  refine ⟨rfl, fun v hv => ?_, rfl, rfl⟩
  simp only [hv]

theorem State.clip_beginVerify {s : State} {id : Nat} {c : Clip} (present : s.clip id = some c) (k : Nat) :
    (s.beginVerify id c).clip k = if k = id then some { c with state := .verifying } else s.clip k := by
  rw [← State.clip_setClip_present present]
  exact State.clip_congr rfl k

theorem State.beginVerify_only (s : State) (id : Nat) (c : Clip) :
    (s.beginVerify id c).cs.verify = some ⟨id, 0, 0xFFFF, 0⟩ ∧ (s.beginVerify id c).cs.blocks = s.cs.blocks ∧
    { s.beginVerify id c with cs := s.cs } = s := by
  unfold State.beginVerify
  rw [State.setClip_only]
  exact ⟨rfl, rfl, rfl⟩

/-- Settles O43. -/
theorem commitAndDeleteClips : Obligations.CommitAndDeleteClips := by
  intro s tag id c low high present
  have commit : ∀ (st : c.state = .loading) (filled : c.fill = c.length),
      requestOwner (.commitClip tag id) s = s.refuseIf s.cs.verify.isSome .busy
        (s.beginVerify id.toNat c, .accepted, []) := fun st filled => by
    show forClip id (fun n s => s.commitClipAt n) s = _
    simp only [forClip_in_range low high, State.commitClipAt, present, st, filled, bne_self_eq_false,
      State.refuseIf_false]
  have delete : requestOwner (.deleteClip tag id) s = deleteClipOwner id.toNat s := forClip_in_range low high _ s
  refine ⟨fun taken st filled free => ?_, fun v taken st filled busy => exec_answer rfl taken ?_,
    fun taken loose stays => ?_, fun taken done pinned => exec_answer rfl taken ?_⟩
  · obtain ⟨verify, blocks, rest⟩ := s.beginVerify_only id.toNat c
    refine ⟨s.beginVerify id.toNat c, exec_answer rfl taken ?_, ?_, fun k other => ?_, verify, blocks, rest⟩
    · rw [commit st filled, free]
      rfl
    · rw [State.clip_beginVerify present, if_pos rfl]
    · rw [State.clip_beginVerify present, if_neg other]
  · rw [commit st filled, busy]
    rfl
  · obtain ⟨blocks, verify, bytes, rest⟩ := s.deleteNow_only id.toNat
    refine ⟨s.deleteNow id.toNat, exec_answer rfl taken (delete.trans (deleteClipOwner_loose present loose stays)), ?_,
      fun k other => ?_, fun i _ => ?_, verify, bytes, rest⟩
    · rw [State.clip_deleteNow present, if_pos rfl]
    · rw [State.clip_deleteNow present, if_neg other]
    · rw [blocks, freeBlocks_getElem?]
  · exact delete.trans (deleteClipOwner_pinned present done pinned)

/-! ### The verify's completion (R176, R177) -/

theorem State.crcOver_eq (s : State) (c : Clip) : ∀ (k from' : Nat) (r : BitVec 16),
    s.crcOver c r from' k = ((List.range k).map fun i => s.clipByte c (from' + i)).foldl crcByte r
  | 0, _, _ => rfl
  | k + 1, from', r => by
    rw [State.crcOver, State.crcOver_eq s c k, List.range_succ_eq_map, List.map_cons, List.foldl_cons, List.map_map]
    have shift : ∀ i, from' + 1 + i = from' + (i + 1) := fun i => by omega
    simp only [shift]
    rfl

/-- A register that holds the CRC of the bytes checked goes on to the CRC of the clip (R176). -/
theorem State.computedCrc_eq {s : State} {v : Verify} {c : Clip} (within : v.checked ≤ c.length)
    (register : v.register = ((List.range v.checked).map (s.clipByte c)).foldl crcByte 0xFFFF#16) :
    s.computedCrc v c = crc16 ((List.range c.length).map (s.clipByte c)) := by
  have parts : List.range c.length = List.range v.checked ++ (List.range (c.length - v.checked)).map (v.checked + ·) := by
    rw [← List.range_add, Nat.add_sub_cancel' within]
  unfold State.computedCrc crc16
  rw [State.crcOver_eq, register, parts, List.map_append, List.foldl_append, List.map_map]
  rfl

/-- A clip's entry as its verify leaves it, with the unit FREE. -/
def State.verified (s : State) (id : Nat) (c : Clip) : State :=
  { s.setClip id (some c) with cs := { (s.setClip id (some c)).cs with verify := none } }

theorem State.clip_verified {s : State} {id : Nat} {c : Clip} (present : s.clip id = some c) (d : Clip) (k : Nat) :
    (s.verified id d).clip k = if k = id then some d else s.clip k := by
  rw [← State.clip_setClip_present present]
  exact State.clip_congr rfl k

theorem State.verified_only (s : State) (id : Nat) (d : Clip) : s.verified id d =
    { s with cs := { s.cs with directory := (s.verified id d).cs.directory, verify := none } } := by
  unfold State.verified
  rw [State.setClip_only]

/-- The completion of a verify, by the computed CRC (R177). -/
theorem State.completeVerify_eq {s : State} {v : Verify} {c : Clip} (busy : s.cs.verify = some v)
    (present : s.clip v.clip = some c) : s.completeVerify =
      if s.computedCrc v c = c.crc then (s.verified v.clip { c with state := .ready }).raise .clipDone
      else ((s.verified v.clip { c with state := .bad, badCause := some .verifyMismatch }).recordFault .verifyMismatch
        (.clip v.clip) (s.computedCrc v c).toNat none).raise .clipDone := by
  simp only [State.completeVerify, busy, present]
  by_cases good : s.computedCrc v c = c.crc
  · simp only [good, beq_self_eq_true, if_true]
    rfl
  · simp only [beq_eq_false_iff_ne.2 good, Bool.false_eq_true, if_false, if_neg good]
    rfl

/-- Settles O44. -/
theorem verifyCompletes : Obligations.VerifyCompletes := by
  intro s v c crc out busy present within register computed
  have ran : exec .verifyComplete s = .next s.completeVerify := event_taken out
  rw [← State.computedCrc_eq within register] at computed
  rw [ran, State.completeVerify_eq busy present, ← computed]
  refine ⟨fun good => ?_, fun mismatch => ?_⟩
  · rw [if_pos good]
    have clip := State.clip_verified present { c with state := .ready }
    have only := s.verified_only v.clip { c with state := .ready }
    refine ⟨_, rfl, (clip v.clip).trans (if_pos rfl), fun k other => (clip k).trans (if_neg other), rfl, ?_, ?_, ?_, ?_, ?_⟩
    all_goals
      rw [only]
      rfl
  · rw [if_neg mismatch]
    have clip := State.clip_verified present { c with state := .bad, badCause := some .verifyMismatch }
    have only := s.verified_only v.clip { c with state := .bad, badCause := some .verifyMismatch }
    have recorded : ∀ k, (((s.verified v.clip { c with state := .bad, badCause := some .verifyMismatch }).recordFault
        .verifyMismatch (.clip v.clip) crc.toNat none).raise .clipDone).clip k =
        (s.verified v.clip { c with state := .bad, badCause := some .verifyMismatch }).clip k :=
      State.clip_congr (congrArg ClipStore.directory (State.recordFault_cs _ _ _ _ _))
    refine ⟨_, rfl, (recorded _).trans ((clip v.clip).trans (if_pos rfl)),
      fun k other => (recorded k).trans ((clip k).trans (if_neg other)),
      congrArg ClipStore.verify (State.recordFault_cs _ _ _ _ _), ?_, State.isPending_raise _ _,
      (congrArg ClipStore.blocks (State.recordFault_cs _ _ _ _ _)).trans ?_, (State.recordFault_se _ _ _ _ _).trans ?_,
      (State.recordFault_ae _ _ _ _ _).trans ?_⟩
    · exact (State.recordFault_congr (by rw [only]) (by rw [only]) _ _ _ _).1
    all_goals rw [only]

end Sys2Proof.Machine
end

section
/-! The sense lines and the identity reads move the seats (R125 to R131). -/

namespace Sys2Proof.Machine

/-! ### Giving every alert of a seat -/

/-- Giving alerts changes the rows and the sticky rows of one seat, and the pending causes. -/
def AlertsOnly (x : Seat) (s t : State) : Prop :=
  (∃ rows holdRows chordRows, t.seat x = { s.seat x with rows := rows, holdRows := holdRows, chordRows := chordRows }) ∧
  t.seat x.other = s.seat x.other ∧ t = { s with ks := { s.ks with seats := t.ks.seats }, au := t.au }

theorem AlertsOnly.refl (x : Seat) (s : State) : AlertsOnly x s s := ⟨⟨_, _, _, rfl⟩, rfl, rfl⟩

theorem AlertsOnly.trans {x : Seat} {s t u : State} (h : AlertsOnly x s t) (k : AlertsOnly x t u) : AlertsOnly x s u := by
  obtain ⟨⟨_, _, _, seat⟩, other, rest⟩ := h
  obtain ⟨⟨rows, holdRows, chordRows, seat'⟩, other', rest'⟩ := k
  refine ⟨⟨rows, holdRows, chordRows, ?_⟩, other'.trans other, ?_⟩
  · rw [seat', seat]
  · rw [rest', rest]

theorem State.giveDue_alertsOnly (s : State) (x : Seat) (n : Nat) : AlertsOnly x s (s.giveDue x n) := by
  unfold State.giveDue
  split
  · rw [State.giveAlert_eq]
    exact ⟨⟨_, _, _, State.seat_setSeat_self _ _ _⟩, State.seat_setSeat_other _ _ _, rfl⟩
  · exact .refl x s

theorem State.giveAllDue_alertsOnly (s : State) (x : Seat) : AlertsOnly x s (s.giveAllDue x) := by
  have each : ∀ (l : List Nat) (u : State), AlertsOnly x u (l.foldl (fun s n => s.giveDue x n) u) := by
    intro l
    induction l with
    | nil => exact fun u => .refl x u
    | cons n l ih => exact fun u => (u.giveDue_alertsOnly x n).trans (ih _)
  exact each _ s

/-! ### A cascade changes the keys of a seat record alone -/

theorem State.seat_of_fixed {s t : State} (h : t.fixed = s.fixed) (x : Seat) :
    t.seat x = { s.seat x with keys := (t.seat x).keys } := by
  simp only [State.fixed, Prod.mk.injEq] at h
  obtain ⟨-, ⟨a, b, -⟩, -⟩ := h
  have keys : ∀ r q : SeatRecord, { r with keys := [] } = { q with keys := [] } → r = { q with keys := r.keys } := by
    intro r q same
    cases r
    cases q
    cases same
    rfl
  cases x
  · exact keys _ _ a
  · exact keys _ _ b

theorem State.lp_of_fixed {s t : State} (h : t.fixed = s.fixed) : t.lp = s.lp := congrArg (·.1.2.1) h
theorem State.cfg_of_fixed {s t : State} (h : t.fixed = s.fixed) : t.cfg = s.cfg := congrArg (·.1.2.2.1) h
theorem State.tb_of_fixed {s t : State} (h : t.fixed = s.fixed) : t.tb = s.tb := congrArg (·.1.2.2.2.1) h

@[simp] theorem State.recordFault_seat (s : State) (c : FaultCode) (k : FaultContext) (d : Nat) (r : Option Bool)
    (x : Seat) : (s.recordFault c k d r).seat x = s.seat x := by
  rw [State.seat, State.recordFault_ks]
  rfl

@[simp] theorem State.setSeat_setSeat (s : State) (x : Seat) (r q : SeatRecord) :
    (s.setSeat x r).setSeat x q = s.setSeat x q := by
  cases x <;> rfl

/-! ### Settled sense (R125, R130) -/

theorem State.mapScan_of_none {s : State} (h : s.ks.scan = none) (f : Scan → Scan) : s.mapScan f = s := by
  unfold State.mapScan
  rw [h]
  exact congrArg (fun sc => ({ s with ks := { s.ks with scan := sc } } : State)) h.symm

/-- What an absent keyboard makes of a seat that is not EMPTY, before what follows from it. -/
theorem State.settleSense_absent {s : State} {x : Seat} (absent : (s.seat x).senseLine = false)
    (state : (s.seat x).state ≠ .empty) : s.settleSense x =
      (s.setSeat x { s.seat x with settled := false, settleTimer := none }).seatToEmpty x := by
  unfold State.settleSense
  dsimp only
  rw [absent]
  simp [state]

theorem State.seatToEmpty_only (s : State) (x : Seat) :
    (∃ h c, (s.seatToEmpty x).1.seat x =
      { (s.seat x).forgotten with state := .empty, holdRows := h, chordRows := c }) ∧
    (s.seatToEmpty x).1.seat x.other = s.seat x.other ∧ (s.seatToEmpty x).1.lp = s.lp ∧
    (s.seatToEmpty x).1.tb = s.tb ∧ (s.seatToEmpty x).1.cfg = s.cfg := by
  obtain ⟨⟨rows, holdRows, chordRows, seat⟩, other, rest⟩ := s.giveAllDue_alertsOnly x
  have seat' : ((s.giveAllDue x).mapScan (·.seatLeft x)).seat x =
    { s.seat x with rows := rows, holdRows := holdRows, chordRows := chordRows } := seat
  have lp : (s.giveAllDue x).lp = s.lp := by rw [rest]
  have tb : (s.giveAllDue x).tb = s.tb := by rw [rest]
  have cfg : (s.giveAllDue x).cfg = s.cfg := by rw [rest]
  refine ⟨⟨holdRows, chordRows, ?_⟩, ?_, lp, tb, cfg⟩
  · refine (State.seat_setSeat_self _ _ _).trans ?_
    rw [seat']
    rfl
  · exact (State.seat_setSeat_other _ _ _).trans other

/-- A seat with no alert due and no scan under way goes to EMPTY with nothing else changed. -/
theorem State.seatToEmpty_of_none {s : State} {x : Seat} (due : ∀ r ∈ (s.seat x).rows, r.due = false)
    (scan : s.ks.scan = none) : s.seatToEmpty x =
      ((s.setSeat x { (s.seat x).forgotten with state := .empty }).raise (.seatChange x),
        departure (s.seat x).state x) := by
  unfold State.seatToEmpty
  rw [State.giveAllDue_of_none due, State.mapScan_of_none scan]
  rfl

/-! ### Identity reads (R126, R127) -/

theorem State.failRead_first {s : State} {x : Seat} (first : (s.seat x).readFailures = 0) (cause : SeatFault)
    (code : FaultCode) (detail : Nat) : s.failRead x cause code detail =
      (s.recordFault code (.seat x) detail none).setSeat x { s.seat x with readFailures := 1 } := by
  simp [State.failRead, first]

theorem State.failRead_second {s : State} {x : Seat} (second : (s.seat x).readFailures = 1) (cause : SeatFault)
    (code : FaultCode) (detail : Nat) : s.failRead x cause code detail =
      ((s.recordFault code (.seat x) detail none).setSeat x { s.seat x with
        state := .faulted, faultCause := some cause, faultRow := none, identity := none }).raise (.seatChange x) := by
  simp [State.failRead, second, State.faultSeat, State.raiseSeatChange]

theorem State.readDone_identifying {s : State} {x : Seat} (h : (s.seat x).state = .identifying)
    (answer : Option Identity) : s.readDone x answer = s.completeRead x answer := if_pos h

theorem State.completeRead_good {s : State} {x : Seat} {i : Identity} (h : identityCheck i.kind i.serial = i.check) :
    s.completeRead x (some i) = s.matchMap x i := if_pos h

theorem State.completeRead_bad {s : State} {x : Seat} {i : Identity} (h : identityCheck i.kind i.serial ≠ i.check) :
    s.completeRead x (some i) = s.failRead x .idCheck .idCheck i.check.toNat := if_neg h

/-- The map slot of a kind (R127). -/
theorem State.matchingMap_zero {s : State} {kind : Nat} (h : kind ≠ 0) (slot : s.ks.map0.tag = kind) :
    s.matchingMap kind = some 0 := by
  simp [State.matchingMap, h, slot]

theorem State.matchingMap_one {s : State} {kind : Nat} (h : kind ≠ 0) (not : s.ks.map0.tag ≠ kind)
    (slot : s.ks.map1.tag = kind) : s.matchingMap kind = some 1 := by
  simp [State.matchingMap, h, not, slot]

theorem State.matchingMap_none {s : State} {kind : Nat} (h : kind = 0 ∨ s.ks.map0.tag ≠ kind ∧ s.ks.map1.tag ≠ kind) :
    s.matchingMap kind = none := by
  obtain h | ⟨not0, not1⟩ := h
  · exact if_pos h
  · simp [State.matchingMap, not0, not1]

/-- A good identity with a map slot: the seat enters CHECKING. -/
theorem State.matchMap_found {s : State} {x : Seat} {i : Identity} {slot : Nat}
    (found : s.matchingMap i.kind.toNat = some slot) : s.matchMap x i =
      (s.setSeat x { s.seat x with
        state := .checking, identity := some i, mapSlot := some slot, rows := List.replicate 8 RowRecord.fresh
        idleRun := 0, scansCounted := 0, lastBusyRow := none }).mapScan (·.seatEntered x) := by
  unfold State.matchMap
  dsimp only
  rw [show (s.setSeat x _).matchingMap i.kind.toNat = some slot from found]
  simp

theorem State.matchMap_unknown {s : State} {x : Seat} {i : Identity} (unknown : s.matchingMap i.kind.toNat = none) :
    s.matchMap x i = (s.setSeat x { s.seat x with
        state := .faulted, faultCause := some .unknownKind, faultRow := none, identity := some i
        mapSlot := none }).raise (.seatChange x) := by
  unfold State.matchMap
  dsimp only
  rw [show (s.setSeat x _).matchingMap i.kind.toNat = none from unknown]
  simp [State.faultSeat, State.raiseSeatChange]

/-- Settles O34. -/
theorem senseAndIdentityMoveTheSeat : Obligations.SenseAndIdentityMoveTheSeat := by
  refine ⟨fun s x level periods out => ?_, fun s x i out reading => ?_⟩
  · have settled : exec (.senseSettled x) s = .next (s.senseDone x) := event_taken (act := fun s => s.senseDone x) out
    have changed : exec (.senseChange x level) s = .next (s.changeSense x level) := by
      show Host.Outcome.next (if s.resetHeld then _ else _) = _
      rw [out]
      rfl
    have done : ∀ n, (s.seat x).settleTimer = some n → s.senseDone x = (s.settleSense x).done := fun n h => by
      rw [State.senseDone, h]
    rw [settled, changed]
    refine ⟨fun differs => ?_, fun same => ?_, fun stopped => ?_, fun runs present empty => ?_,
      fun runs present state => ?_, fun runs absent state => ?_, fun runs absent faulted due rows scan => ?_⟩
    · exact congrArg _ (if_neg differs)
    · exact congrArg _ (if_pos same)
    · rw [State.senseDone, stopped]
    · rw [done _ runs, State.settleSense]
      simp [present, empty, Act.done, State.carryOut]
    · rw [done _ runs, State.settleSense]
      simp [present, state, Act.done, State.carryOut]
    · rw [done _ runs, State.settleSense_absent absent state]
      obtain ⟨⟨h, c, seat⟩, other, lp, tb, cfg⟩ :=
        (s.setSeat x { s.seat x with settled := false, settleTimer := none }).seatToEmpty_only x
      have fixed := Act.fixed_done ((s.setSeat x { s.seat x with settled := false, settleTimer := none }).seatToEmpty x)
      have kept := State.seat_of_fixed fixed x
      rw [seat, State.seat_setSeat_self] at kept
      refine ⟨_, rfl, congrArg SeatRecord.state kept, congrArg SeatRecord.settled kept,
        congrArg SeatRecord.settleTimer kept, congrArg SeatRecord.identity kept, congrArg SeatRecord.mapSlot kept,
        congrArg SeatRecord.faultCause kept, congrArg SeatRecord.rows kept, ?_, (State.lp_of_fixed fixed).trans lp,
        (State.tb_of_fixed fixed).trans tb, (State.cfg_of_fixed fixed).trans cfg⟩
      rw [State.seat_of_fixed fixed x.other, other, State.seat_setSeat_other]
    · have state : (s.seat x).state ≠ .empty := by simp [faulted]
      have emptied := State.seatToEmpty_of_none (x := x)
        (s := s.setSeat x { s.seat x with settled := false, settleTimer := none }) (by simpa using due) (by exact scan)
      rw [done _ runs, State.settleSense_absent absent state, emptied]
      refine congrArg _ ((carryOut_departure (.inl ?_)).trans ?_)
      · simp [faulted]
      · simp [SeatRecord.forgotten]
  · have ran : ∀ answer, exec (.identityReadComplete x answer) s = .next (s.completeRead x answer) := fun answer =>
      (event_taken out).trans (congrArg _ (State.readDone_identifying reading answer))
    rw [ran, ran]
    refine ⟨fun first => congrArg _ (State.failRead_first first _ _ _),
      fun second => congrArg _ (State.failRead_second second _ _ _), fun bad first => ?_, fun bad second => ?_,
      fun good kind slot scan => ?_, fun good kind not slot scan => ?_, fun sc slot good kind scan found => ?_,
      fun good unknown => ?_⟩
    · rw [State.completeRead_bad bad, State.failRead_first first]
    · rw [State.completeRead_bad bad, State.failRead_second second]
    · rw [State.completeRead_good good, State.matchMap_found (State.matchingMap_zero kind slot),
        State.mapScan_of_none (by exact scan)]
    · rw [State.completeRead_good good, State.matchMap_found (State.matchingMap_one kind not slot),
        State.mapScan_of_none (by exact scan)]
    · have map : s.matchingMap i.kind.toNat = some slot := by
        obtain ⟨rfl, slot⟩ | ⟨rfl, not, slot⟩ := found
        · exact State.matchingMap_zero kind slot
        · exact State.matchingMap_one kind not slot
      rw [State.completeRead_good good, State.matchMap_found map]
      refine ⟨_, rfl, State.seat_setSeat_self _ _ _, ?_, State.seat_setSeat_other _ _ _, rfl⟩
      show s.ks.scan.map _ = _
      rw [scan]
      rfl
    · rw [State.completeRead_good good, State.matchMap_unknown (State.matchingMap_none unknown)]

end Sys2Proof.Machine
end

section
/-! Row conversions: the row record, key events, the scan and the ladder check (R111, R115, R116, R119, R128). -/

namespace Sys2Proof.Machine

/-! ### The row record (R115) -/

/-- A row record after a conversion. -/
def RowRecord.debounced (r : RowRecord) (count : Nat) (d : Decode) : RowRecord :=
  if (r.see d).accepts count then (r.see d).settle else r.see d

theorem RowRecord.see_eq (r : RowRecord) (d : Decode) : (r.see d).candidate = d ∧
    (r.see d).streak = (if d = r.candidate then min (r.streak + 1) 15 else 1) ∧ (r.see d).stable = r.stable ∧
    (r.see d).holdCount = r.holdCount ∧ (r.see d).alerted = r.alerted ∧ (r.see d).due = r.due := by
  unfold RowRecord.see
  split
  · rename_i same
    exact ⟨same.symm, rfl, rfl, rfl, rfl, rfl⟩
  · exact ⟨rfl, rfl, rfl, rfl, rfl, rfl⟩

theorem RowRecord.debounced_eq (r : RowRecord) (count : Nat) (d : Decode) :
    let q := r.debounced count d
    q.candidate = d ∧ q.streak = (if d = r.candidate then min (r.streak + 1) 15 else 1) ∧
    q.stable = (if count ≤ q.streak then q.candidate else r.stable) ∧
    (q.stable ≠ r.stable → q.holdCount = 0 ∧ q.alerted = false) ∧
    (q.stable = r.stable → q.holdCount = r.holdCount ∧ q.alerted = r.alerted) := by
  obtain ⟨candidate, streak, stable, holdCount, alerted, -⟩ := r.see_eq d
  unfold RowRecord.debounced
  dsimp only
  by_cases accepts : (r.see d).accepts count = true
  · have enough := accepts
    simp only [RowRecord.accepts, Bool.and_eq_true, decide_eq_true_eq, bne_iff_ne, ne_eq] at enough
    rw [if_pos accepts]
    refine ⟨candidate, streak, (if_pos enough.1).symm, fun _ => ⟨rfl, rfl⟩, fun same => ?_⟩
    exact absurd (same.trans stable.symm) enough.2
  · have rejects := accepts
    simp only [RowRecord.accepts, Bool.and_eq_true, decide_eq_true_eq, bne_iff_ne, ne_eq, not_and, not_not] at rejects
    rw [if_neg accepts]
    refine ⟨candidate, streak, ?_, fun differs => absurd stable differs, fun _ => ⟨holdCount, alerted⟩⟩
    split
    · rename_i enough
      exact (rejects enough).symm
    · exact stable

/-! ### The seat after a conversion -/

/-- What a debounce may change: rows, sticky rows and keys of one seat, the pending causes and the fault banks. -/
def DebounceOnly (x : Seat) (s t : State) : Prop :=
  (∃ rows holdRows chordRows keys, t.seat x =
    { s.seat x with rows := rows, holdRows := holdRows, chordRows := chordRows, keys := keys }) ∧
  t.seat x.other = s.seat x.other ∧ t = { s with ks := { s.ks with seats := t.ks.seats }, au := t.au, fb := t.fb }

theorem DebounceOnly.trans {x : Seat} {s t u : State} (h : DebounceOnly x s t) (k : DebounceOnly x t u) :
    DebounceOnly x s u := by
  obtain ⟨⟨_, _, _, _, seat⟩, other, rest⟩ := h
  obtain ⟨⟨rows, holdRows, chordRows, keys, seat'⟩, other', rest'⟩ := k
  refine ⟨⟨rows, holdRows, chordRows, keys, ?_⟩, other'.trans other, ?_⟩
  · rw [seat', seat]
  · rw [rest', rest]

theorem AlertsOnly.debounceOnly {x : Seat} {s t : State} (h : AlertsOnly x s t) : DebounceOnly x s t := by
  obtain ⟨⟨rows, holdRows, chordRows, seat⟩, other, rest⟩ := h
  refine ⟨⟨rows, holdRows, chordRows, (s.seat x).keys, seat⟩, other, ?_⟩
  have fb : t.fb = s.fb := by rw [rest]
  rw [fb]
  exact rest

theorem State.setRow_debounceOnly (s : State) (x : Seat) (n : Nat) (v : RowRecord) :
    DebounceOnly x s (s.setSeat x ((s.seat x).setRow n v)) :=
  ⟨⟨_, _, _, _, State.seat_setSeat_self _ _ _⟩, State.seat_setSeat_other _ _ _, rfl⟩

theorem State.keyDown_debounceOnly (s : State) (x : Seat) (row step : Nat) :
    DebounceOnly x s (s.keyDown x row step).1 := by
  unfold State.keyDown
  split
  · unfold State.appendKey
    dsimp only
    split
    · exact ⟨⟨_, _, _, _, State.seat_setSeat_self _ _ _⟩, State.seat_setSeat_other _ _ _, rfl⟩
    · exact ⟨⟨_, _, _, _, State.recordFault_seat _ _ _ _ _ _⟩, State.recordFault_seat _ _ _ _ _ _, by
        rw [State.recordFault_only]⟩
  · exact ⟨⟨_, _, _, _, rfl⟩, rfl, rfl⟩

theorem State.rows_keyDown (s : State) (x : Seat) (row step : Nat) :
    ((s.keyDown x row step).1.seat x).rows = (s.seat x).rows := by
  unfold State.keyDown
  split
  · unfold State.appendKey
    dsimp only
    split
    · rw [State.seat_setSeat_self]
    · rw [State.recordFault_seat]
  · rfl

/-- The accepted reading is settled in its row, whether an alert was due or not. -/
theorem State.rows_settled {s : State} {x : Seat} {n : Nat} {v : RowRecord} (hn : (s.seat x).rows[n]? = some v) :
    (((s.giveDue x n).seat x).setRow n (((s.giveDue x n).seat x).row n).settle).rows =
      (s.seat x).rows.set n v.settle := by
  have row := SeatRecord.row_of_getElem? hn
  obtain ⟨inside, -⟩ := List.getElem?_eq_some_iff.1 hn
  cases due : v.due
  · rw [State.giveDue_of_not_due (by rw [row, due]), row]
    rfl
  · rw [State.giveDue_of_due (by rw [row, due])]
    have seat : ((s.setSeat x ((s.seat x).alertGiven n)).raise .alert).seat x = (s.seat x).alertGiven n :=
      State.seat_setSeat_self _ _ _
    rw [seat]
    have given : ((s.seat x).alertGiven n).row n = { v with alerted := true, due := false } := by
      rw [← row]
      exact SeatRecord.row_setRow _ inside
    rw [given]
    exact List.set_set _

theorem State.debounce_only (s : State) (x : Seat) (n : Nat) (d : Decode) : DebounceOnly x s (s.debounce x n d).1 := by
  have seen := s.setRow_debounceOnly x n (((s.seat x).row n).see d)
  unfold State.debounce
  dsimp only
  split
  · have given := seen.trans (State.giveDue_alertsOnly _ x n).debounceOnly
    split
    · exact (given.trans (State.setRow_debounceOnly _ x n _)).trans (State.keyDown_debounceOnly _ x n _)
    · exact given.trans (State.setRow_debounceOnly _ x n _)
  · exact seen

theorem State.rows_debounce {s : State} {x : Seat} {n : Nat} {r : RowRecord} (hn : (s.seat x).rows[n]? = some r)
    (d : Decode) : ((s.debounce x n d).1.seat x).rows =
      (s.seat x).rows.set n (r.debounced s.cfg.debounceCount d) := by
  have row := SeatRecord.row_of_getElem? hn
  obtain ⟨inside, -⟩ := List.getElem?_eq_some_iff.1 hn
  unfold State.debounce RowRecord.debounced
  dsimp only
  rw [row]
  split
  · have seen : ((s.setSeat x ((s.seat x).setRow n (r.see d))).seat x).rows[n]? = some (r.see d) := by
      simp [SeatRecord.setRow, inside]
    have settled := State.rows_settled seen
    have start : ((s.setSeat x ((s.seat x).setRow n (r.see d))).seat x).rows.set n (r.see d).settle =
        (s.seat x).rows.set n (r.see d).settle := by
      simp [SeatRecord.setRow]
    split
    · rw [State.rows_keyDown, State.seat_setSeat_self, settled, start]
    · rw [State.seat_setSeat_self, settled, start]
  · simp [SeatRecord.setRow]

/-- A seat record with one more scan counted (R128). -/
def SeatRecord.counted (r : SeatRecord) (t : Tally) : SeatRecord :=
  { r with
    scansCounted := r.scansCounted + 1
    idleRun := if t.busy = none then r.idleRun + 1 else 0
    lastBusyRow := t.busy.or r.lastBusyRow }

/-- A counted scan makes the seat READY, FAULTED or leaves it in CHECKING (R128). -/
theorem State.countScan_eq (s : State) (x : Seat) (t : Tally) : s.countScan x t =
    if ((s.seat x).counted t).idleRun = 16 then
      (s.setSeat x { (s.seat x).counted t with state := .ready }).raise (.seatChange x)
    else if ((s.seat x).counted t).scansCounted = 64 then
      (s.setSeat x { (s.seat x).counted t with
        state := .faulted, faultCause := some .ladder
        faultRow := ((s.seat x).counted t).lastBusyRow }).raise (.seatChange x)
    else s.setSeat x ((s.seat x).counted t) := by
  unfold State.countScan State.faultSeat State.raiseSeatChange SeatRecord.counted
  cases t.busy <;> simp only [State.seat_setSeat_self, State.setSeat_setSeat] <;> rfl

/-- What the ladder check may change. -/
theorem State.ladderCheck_only (s : State) (x : Seat) (n : Nat) (t : Tally) :
    (∃ state cause row run scans last, (s.ladderCheck x n t).seat x = { s.seat x with
      state := state, faultCause := cause, faultRow := row, idleRun := run, scansCounted := scans
      lastBusyRow := last }) ∧
    (s.ladderCheck x n t).seat x.other = s.seat x.other ∧
    s.ladderCheck x n t = { s with ks := { s.ks with seats := (s.ladderCheck x n t).ks.seats }
                                   au := (s.ladderCheck x n t).au } := by
  unfold State.ladderCheck
  split
  · have set : ∀ r : SeatRecord, (s.setSeat x r).seat x = r ∧ (s.setSeat x r).seat x.other = s.seat x.other := fun r =>
      ⟨State.seat_setSeat_self _ _ _, State.seat_setSeat_other _ _ _⟩
    rw [State.countScan_eq]
    split
    · exact ⟨⟨_, _, _, _, _, _, (set _).1⟩, (set _).2, rfl⟩
    · split
      · exact ⟨⟨_, _, _, _, _, _, (set _).1⟩, (set _).2, rfl⟩
      · exact ⟨⟨_, _, _, _, _, _, (set _).1⟩, (set _).2, rfl⟩
  · exact ⟨⟨_, _, _, _, _, _, rfl⟩, rfl, rfl⟩

/-! ### The scan (R111) -/

theorem State.converts_iff (s : State) (x : Seat) :
    s.converts x = true ↔ (s.seat x).state = .checking ∨ (s.seat x).state = .ready := by
  unfold State.converts
  cases (s.seat x).state <;> simp

theorem State.nextRow_eq_some_iff (s : State) (i k : Nat) : s.nextRow i = some k ↔
    i ≤ k ∧ k < 16 ∧ s.converts (rowSeat k) = true ∧ ∀ j, i ≤ j → j < k → s.converts (rowSeat j) = false := by
  unfold State.nextRow
  rw [List.range_eq_range', List.drop_range', List.find?_range'_eq_some]
  simp only [List.mem_range'_1, Bool.not_eq_true']
  constructor
  · rintro ⟨found, inside, before⟩
    exact ⟨by omega, by omega, found, fun j low high => before j (by omega) high⟩
  · rintro ⟨low, high, found, before⟩
    exact ⟨found, by omega, fun j hj lt => before j (by omega) lt⟩

/-! ### A conversion (R111) -/

theorem State.completeRow_live {s : State} {sc : Scan} (live : sc.discard = false) (level : Nat) {x : Seat} {n : Nat}
    (hx : rowSeat sc.row = x) (hn : n = sc.row % 8) : s.completeRow sc level =
      (State.advanceScan ((s.debounce x n (decodeLevel level)).1.ladderCheck x n
          ((sc.tally.get x).count n (decodeLevel level)))
        { sc with tally := sc.tally.set x ((sc.tally.get x).count n (decodeLevel level)) },
        (s.debounce x n (decodeLevel level)).2) := by
  subst hx hn
  unfold State.completeRow
  rw [live]
  rfl

theorem State.scan_of_fixed {s t : State} (h : t.fixed = s.fixed) : t.ks.scan = s.ks.scan :=
  congrArg (·.2.1.2.2.2.2) h

theorem State.bytes_of_fixed {s t : State} (h : t.fixed = s.fixed) : t.cs.bytes = s.cs.bytes :=
  congrArg (·.2.2.1.1) h

theorem State.nextRow_congr {s t : State} (h : ∀ x, (t.seat x).state = (s.seat x).state) (i : Nat) :
    t.nextRow i = s.nextRow i := by
  have same : t.converts = s.converts := funext fun x => State.converts_congr (h x)
  unfold State.nextRow
  rw [same]

/-- The scan after a conversion goes on from the row converted, by the seats as they then are. -/
theorem State.scan_of_advanced {s t : State} {sc : Scan} (hs : t.fixed = (s.advanceScan sc).fixed) :
    t.ks.scan = (t.nextRow (sc.row + 1)).map fun i => { sc with row := i, discard := false } := by
  have seats : ∀ x, (t.seat x).state = (s.seat x).state := fun x => by
    rw [State.seat_of_fixed hs x]
    rfl
  rw [State.scan_of_fixed hs, State.nextRow_congr seats]
  rfl

end Sys2Proof.Machine
end

section
/-! What a row conversion leads to (R111, R115, R116, R119, R128). -/

namespace Sys2Proof.Machine

section Live

variable {s : State} {sc : Scan} {x : Seat} {n : Nat} {r : RowRecord} (level : Nat)

/-- What the debounce and the ladder check of a conversion make of the two seats and the rest of the part. -/
theorem State.converted_seats (hr : (s.seat x).rows[n]? = some r) (d : Decode) (ta : Tally) :
    let w := (s.debounce x n d).1.ladderCheck x n ta
    (w.seat x).rows = (s.seat x).rows.set n (r.debounced s.cfg.debounceCount d) ∧
    w.seat x.other = s.seat x.other ∧ w.tb = s.tb ∧ w.lp = s.lp ∧ w.cfg = s.cfg ∧ w.cs = s.cs := by
  obtain ⟨-, other, rest⟩ := s.debounce_only x n d
  obtain ⟨⟨_, _, _, _, _, _, seat'⟩, other', rest'⟩ := (s.debounce x n d).1.ladderCheck_only x n ta
  dsimp only
  refine ⟨?_, other'.trans other, ?_, ?_, ?_, ?_⟩
  · rw [seat', ← State.rows_debounce hr d]
  all_goals rw [rest', rest]

/-- A conversion that is discarded changes the scan alone. -/
theorem State.rowDone_discarded (scan : s.ks.scan = some sc) (discard : sc.discard = true) :
    s.rowDone level = s.advanceScan sc := by
  rw [State.rowDone, scan]
  show (s.completeRow sc level).done = _
  rw [State.completeRow, if_pos discard]
  exact drain_nil _ _

theorem State.rowDone_live (scan : s.ks.scan = some sc) : s.rowDone level = (s.completeRow sc level).done := by
  rw [State.rowDone, scan]

end Live

/-- Key-down: the step and key code of a row's change from IDLE (R116). -/
theorem State.debounce_keyDown {s : State} {x : Seat} {n k slot : Nat} {key : KeyCode} {r : RowRecord}
    (hr : (s.seat x).rows[n]? = some r) (idle : r.stable = .idle) (due : r.due = false)
    (streak : s.cfg.debounceCount ≤ (if r.candidate = .step k then min (r.streak + 1) 15 else 1))
    (ready : (s.seat x).state = .ready) (map : (s.seat x).mapSlot = some slot)
    (entry : (s.keyMap slot).entries[7 * n + k]? = some key) (used : key ≠ .unused) :
    ∃ rows, s.debounce x n (.step k) = (s.setSeat x { s.seat x with rows := rows }).appendKey x key := by
  have row := SeatRecord.row_of_getElem? hr
  obtain ⟨inside, -⟩ := List.getElem?_eq_some_iff.1 hr
  obtain ⟨candidate, streak', stable, -, -, due'⟩ := r.see_eq (.step k)
  have accepts : (r.see (.step k)).accepts s.cfg.debounceCount = true := by
    have enough : s.cfg.debounceCount ≤ (r.see (.step k)).streak := by
      rw [streak']
      simpa only [eq_comm] using streak
    simp [RowRecord.accepts, enough, candidate, stable, idle]
  have down : keyDownOf (r.see (.step k)).stable (r.see (.step k)).candidate = some k := by
    rw [stable, idle, candidate]
    rfl
  have noAlert : (s.setSeat x ((s.seat x).setRow n (r.see (.step k)))).giveDue x n =
      s.setSeat x ((s.seat x).setRow n (r.see (.step k))) := by
    refine State.giveDue_of_not_due ?_
    rw [State.seat_setSeat_self, SeatRecord.row_setRow _ inside, due', due]
  refine ⟨((s.seat x).rows.set n (r.see (.step k))).set n (r.see (.step k)).settle, ?_⟩
  unfold State.debounce
  dsimp only
  rw [row, if_pos accepts, noAlert, State.seat_setSeat_self, SeatRecord.row_setRow _ inside, down, State.setSeat_setSeat]
  have press : ∀ u : State, (u.seat x).state = .ready → u.mapEntry x n k = key → u.keyDown x n k = u.appendKey x key := by
    intro u h h'
    rw [State.keyDown, h', if_pos ⟨h, used⟩]
  refine press _ (by rw [State.seat_setSeat_self]; exact ready) ?_
  have list : (s.keyMap slot).entries.getD (7 * n + k) .unused = key := by
    rw [List.getD_eq_getElem?_getD, entry]
    rfl
  unfold State.mapEntry
  rw [State.seat_setSeat_self]
  show (match (s.seat x).mapSlot with | some slot => _ | none => _) = key
  rw [map]
  exact list

/-! ### Keys that stay queued (R25, R26, R86) -/

/-- A context that keeps its keys: WAITING_LOG, PAUSED, or FEEDBACK of a duel with keys queued. -/
def State.keepsKeys (s : State) (x : Seat) : Prop :=
  (s.ctx x).state = .waitingLog ∨ (s.ctx x).state = .paused ∨
    (s.ctx x).mode = .duel ∧ (s.ctx x).state = .feedback ∧ (s.seat x).keys ≠ []

theorem State.keyTake_keep {s : State} {x : Seat} (h : (s.ctx x).state = .waitingLog ∨ (s.ctx x).state = .paused)
    (k : KeyCode) : s.keyTake x k = .keep := by
  unfold State.keyTake
  dsimp only
  obtain waits | waits := h
  all_goals rw [waits]

theorem State.takeKey_keep {s : State} {x : Seat} (h : (s.ctx x).state = .waitingLog ∨ (s.ctx x).state = .paused) :
    s.takeKey x = (s, []) := by
  unfold State.takeKey
  split
  · rfl
  · rw [State.keyTake_keep h]

/-- Nothing follows from a key that stays queued. -/
theorem State.carryOut_keyKept {s t : State} {x : Seat} (keeps : s.keepsKeys x) (ctx : t.ctx x = s.ctx x) (k : KeyCode) :
    t.carryOut (s.appendKey x k).2 = t := by
  have none : t.carryOut [] = t := drain_nil _ _
  unfold State.appendKey
  dsimp only
  split
  · split
    · exact none
    · rename_i notHeld
      have waits : (t.ctx x).state = .waitingLog ∨ (t.ctx x).state = .paused := by
        rw [ctx]
        obtain waiting | paused | ⟨duel, feedback, queued⟩ := keeps
        · exact .inl waiting
        · exact .inr paused
        · simp [State.keysHeld, duel, feedback, queued] at notHeld
      have kept : runTask (.takeKeys x) t = (t, []) := by
        unfold runTask
        split
        · rfl
        · exact State.takeKey_keep waits
      show drain _ _ _ = _
      rw [Config.cascade, drain_cons, kept]
      exact drain_nil _ _
  · exact none

/-- A key-down at a READY seat whose context keeps its keys (R119). -/
theorem State.completeRow_keyDown {s : State} {sc : Scan} {level n k slot : Nat} {x : Seat} {key : KeyCode}
    {r : RowRecord} (live : sc.discard = false) (hx : rowSeat sc.row = x) (hn : n = sc.row % 8)
    (hr : (s.seat x).rows[n]? = some r) (idle : r.stable = .idle) (due : r.due = false)
    (step : decodeLevel level = .step k)
    (streak : s.cfg.debounceCount ≤ (if r.candidate = .step k then min (r.streak + 1) 15 else 1))
    (ready : (s.seat x).state = .ready) (map : (s.seat x).mapSlot = some slot)
    (entry : (s.keyMap slot).entries[7 * n + k]? = some key) (used : key ≠ .unused) (keeps : s.keepsKeys x) :
    ∃ rows sc', (s.completeRow sc level).done =
      (((s.setSeat x { s.seat x with rows := rows }).appendKey x key).1).advanceScan sc' := by
  obtain ⟨rows, pressed⟩ := State.debounce_keyDown hr idle due streak ready map entry used
  have keeps' : (s.setSeat x { s.seat x with rows := rows }).keepsKeys x := by
    unfold State.keepsKeys
    rw [State.ctx_setSeat, State.seat_setSeat_self]
    exact keeps
  have state : ((((s.setSeat x { s.seat x with rows := rows }).appendKey x key).1).seat x).state = .ready := by
    unfold State.appendKey
    dsimp only
    split
    · rw [State.seat_setSeat_self, State.seat_setSeat_self]
      exact ready
    · rw [State.recordFault_seat, State.seat_setSeat_self]
      exact ready
  have ctx : (((s.setSeat x { s.seat x with rows := rows }).appendKey x key).1).ctx x = s.ctx x := by
    unfold State.appendKey
    dsimp only
    split
    · rfl
    · rw [State.ctx, State.recordFault_ae]
      rfl
  have unchecked : ∀ ta, (((s.setSeat x { s.seat x with rows := rows }).appendKey x key).1).ladderCheck x n ta =
      ((s.setSeat x { s.seat x with rows := rows }).appendKey x key).1 := fun ta => by
    unfold State.ladderCheck
    rw [state]
    simp
  rw [State.completeRow_live live level hx hn, step, pressed, unchecked]
  exact ⟨rows, _, State.carryOut_keyKept keeps' (by exact ctx) key⟩

/-! ### A CHECKING seat (R128) -/

/-- A seat that is not READY gives no key-down: its row is debounced, and nothing follows. -/
theorem State.debounce_checking {s : State} {x : Seat} (checking : (s.seat x).state = .checking) (n : Nat) (d : Decode) :
    (s.debounce x n d).2 = [] ∧ (s.debounce x n d).1.fb = s.fb ∧
      ((s.debounce x n d).1.seat x).keys = (s.seat x).keys := by
  have quiet : ∀ (u : State) (step : Nat), (u.seat x).state = .checking → u.keyDown x n step = (u, []) := fun u step h => by
    rw [State.keyDown, h]
    simp
  obtain ⟨⟨rows, holdRows, chordRows, seat⟩, -, rest⟩ :=
    (s.setSeat x ((s.seat x).setRow n (((s.seat x).row n).see d))).giveDue_alertsOnly x n
  have state : (((s.setSeat x ((s.seat x).setRow n (((s.seat x).row n).see d))).giveDue x n).seat x).state =
      .checking := by
    rw [seat, State.seat_setSeat_self]
    exact checking
  have fb : ((s.setSeat x ((s.seat x).setRow n (((s.seat x).row n).see d))).giveDue x n).fb = s.fb := by
    rw [rest]
    rfl
  have keys : (((s.setSeat x ((s.seat x).setRow n (((s.seat x).row n).see d))).giveDue x n).seat x).keys =
      (s.seat x).keys := by
    rw [seat, State.seat_setSeat_self]
    rfl
  unfold State.debounce
  dsimp only
  split
  · split
    · rw [quiet _ _ (by rw [State.seat_setSeat_self]; exact state)]
      exact ⟨rfl, fb, by rw [State.seat_setSeat_self]; exact keys⟩
    · exact ⟨rfl, fb, by rw [State.seat_setSeat_self]; exact keys⟩
  · exact ⟨rfl, rfl, by rw [State.seat_setSeat_self]; rfl⟩

/-- The ladder check of a CHECKING seat at a conversion that completes no counted scan. -/
theorem State.ladderCheck_uncounted {s : State} {x : Seat} {n : Nat} {ta : Tally} (h : n ≠ 7 ∨ ta.rows ≠ 8) :
    s.ladderCheck x n ta = s := by
  refine if_neg ?_
  rintro ⟨-, last, all⟩
  exact h.elim (fun h => h last) fun h => h all

theorem State.ladderCheck_counted {s : State} {x : Seat} {ta : Tally} (checking : (s.seat x).state = .checking)
    (all : ta.rows = 8) : s.ladderCheck x 7 ta = s.countScan x ta := if_pos ⟨checking, rfl, all⟩

theorem State.isPending_countScan {s : State} {x : Seat} {ta : Tally}
    (evaluated : ((s.seat x).counted ta).idleRun = 16 ∨ ((s.seat x).counted ta).scansCounted = 64) :
    (s.countScan x ta).isPending (.seatChange x) = true := by
  rw [State.countScan_eq]
  split
  · exact State.isPending_raise _ _
  · rename_i notPassed
    rw [if_pos (evaluated.resolve_left notPassed)]
    exact State.isPending_raise _ _

theorem State.seat_countScan (s : State) (x : Seat) (ta : Tally) : (s.countScan x ta).seat x =
    if ((s.seat x).counted ta).idleRun = 16 then { (s.seat x).counted ta with state := .ready }
    else if ((s.seat x).counted ta).scansCounted = 64 then { (s.seat x).counted ta with
      state := .faulted, faultCause := some .ladder, faultRow := ((s.seat x).counted ta).lastBusyRow }
    else (s.seat x).counted ta := by
  have raised : ∀ (r : SeatRecord) (c : Cause), ((s.setSeat x r).raise c).seat x = r := fun r _ =>
    State.seat_setSeat_self s x r
  rw [State.countScan_eq]
  split
  · exact raised _ _
  · split
    · exact raised _ _
    · exact State.seat_setSeat_self _ _ _

/-! ### The obligation -/

@[simp] theorem State.seat_advanceScan (s : State) (sc : Scan) (x : Seat) : (s.advanceScan sc).seat x = s.seat x := rfl

theorem rowConversion_updates {s : State} {level : BitVec 10} {sc : Scan} {x : Seat} {n : Nat} {r : RowRecord}
    (out : s.resetHeld = false) (scan : s.ks.scan = some sc) (hx : rowSeat sc.row = x) (hn : n = sc.row % 8)
    (hr : (s.seat x).rows[n]? = some r) (live : sc.discard = false) :
    ∃ (t : State) (q : RowRecord), exec (.rowConversionComplete level) s = .next t ∧
      (t.seat x).rows[n]? = some q ∧
      q.candidate = decodeLevel level.toNat ∧
      q.streak = (if decodeLevel level.toNat = r.candidate then min (r.streak + 1) 15 else 1) ∧
      q.stable = (if s.cfg.debounceCount ≤ q.streak then q.candidate else r.stable) ∧
      (q.stable ≠ r.stable → q.holdCount = 0 ∧ q.alerted = false) ∧
      (q.stable = r.stable → q.holdCount = r.holdCount ∧ q.alerted = r.alerted) ∧
      (∀ m, m ≠ n → (t.seat x).rows[m]? = (s.seat x).rows[m]?) ∧
      (t.seat x.other).rows = (s.seat x.other).rows ∧
      t.ks.scan.map (·.row) = t.nextRow (sc.row + 1) ∧
      (∀ sc', t.ks.scan = some sc' → sc'.discard = false ∧ sc'.tally.get x.other = sc.tally.get x.other ∧
        (sc'.tally.get x).rows = (sc.tally.get x).rows + 1 ∧
        (sc'.tally.get x).busy = (if decodeLevel level.toNat = .idle then (sc.tally.get x).busy else some n)) ∧
      t.tb = s.tb ∧ t.lp = s.lp ∧ t.cfg = s.cfg ∧ t.cs.bytes = s.cs.bytes := by
  obtain ⟨inside, -⟩ := List.getElem?_eq_some_iff.1 hr
  obtain ⟨rows, other, tb, lp, cfg, cs⟩ := State.converted_seats hr (decodeLevel level.toNat)
    ((sc.tally.get x).count n (decodeLevel level.toNat))
  obtain ⟨candidate, streak, stable, changed, kept⟩ := r.debounced_eq s.cfg.debounceCount (decodeLevel level.toNat)
  have ran : exec (.rowConversionComplete level) s = .next (s.completeRow sc level.toNat).done :=
    (event_taken (act := fun s => s.rowDone level.toNat) out).trans (congrArg _ (State.rowDone_live _ scan))
  have fixed := Act.fixed_done (s.completeRow sc level.toNat)
  rw [State.completeRow_live live level.toNat hx hn] at fixed ran
  have rows' := congrArg SeatRecord.rows (State.seat_of_fixed fixed x)
  have scan' := State.scan_of_advanced fixed
  refine ⟨_, r.debounced s.cfg.debounceCount (decodeLevel level.toNat), ran, ?_, candidate, streak, stable, changed, kept,
    fun m hm => ?_, ?_, ?_, fun sc' h => ?_, (State.tb_of_fixed fixed).trans tb, (State.lp_of_fixed fixed).trans lp,
    (State.cfg_of_fixed fixed).trans cfg, (State.bytes_of_fixed fixed).trans (congrArg ClipStore.bytes cs)⟩
  · rw [rows', State.seat_advanceScan, rows, List.getElem?_set_self inside]
  · rw [rows', State.seat_advanceScan, rows, List.getElem?_set_ne hm.symm]
  · rw [State.seat_of_fixed fixed x.other, State.seat_advanceScan, other]
  · rw [scan', Option.map_map]
    exact Option.map_id'
  · rw [scan'] at h
    obtain ⟨i, -, rfl⟩ := Option.map_eq_some_iff.1 h
    exact ⟨rfl, Pair.get_set_other _ _ _, congrArg Tally.rows (Pair.get_set_self _ _ _),
      congrArg Tally.busy (Pair.get_set_self _ _ _)⟩

/-- Settles O33. -/
theorem rowConversionsGiveKeyEvents : Obligations.RowConversionsGiveKeyEvents := by
  have ran : ∀ (s : State) (level : BitVec 10), s.resetHeld = false →
      exec (.rowConversionComplete level) s = .next (s.rowDone level.toNat) := fun s level out =>
    event_taken (act := fun s => s.rowDone level.toNat) out
  refine ⟨fun s level sc x n r out scan hx hn hr => ⟨fun discard => ?_, rowConversion_updates out scan hx hn hr⟩,
    fun s level sc x n k slot key r out scan live hx hn hr idle due step streak ready map entry used keeps frozen => ?_,
    fun s i k => ⟨s.nextRow_eq_some_iff i k, s.converts_iff⟩,
    fun s level sc x r busy last run out scan live hx hr checking hbusy hlast hrun => ?_⟩
  · exact ⟨_, (ran s level out).trans (congrArg _ (State.rowDone_discarded _ scan discard)), rfl, rfl⟩
  · obtain ⟨rows, sc', done⟩ := State.completeRow_keyDown live hx hn hr idle due step streak ready map entry used keeps
    rw [ran s level out, State.rowDone_live _ scan, done]
    have seat : (s.setSeat x { s.seat x with rows := rows }).seat x = { s.seat x with rows := rows } :=
      State.seat_setSeat_self _ _ _
    refine ⟨_, rfl, ?_⟩
    by_cases room : (s.seat x).keys.length < 16
    · have pressed : ((s.setSeat x { s.seat x with rows := rows }).appendKey x key).1 =
          s.setSeat x { s.seat x with rows := rows, keys := (s.seat x).keys ++ [key] } := by
        unfold State.appendKey
        dsimp only
        rw [seat, if_pos room, State.setSeat_setSeat]
      rw [pressed, State.seat_advanceScan, State.seat_setSeat_self]
      exact ⟨fun _ => ⟨rfl, rfl⟩, fun full => absurd room (by omega), rfl, rfl, rfl, rfl⟩
    · have pressed : ((s.setSeat x { s.seat x with rows := rows }).appendKey x key).1 =
          (s.setSeat x { s.seat x with rows := rows }).recordFault .keyOverrun (.seat x) 0 none := by
        unfold State.appendKey
        dsimp only
        rw [seat, if_neg room]
      rw [pressed, State.seat_advanceScan, State.recordFault_seat, seat]
      refine ⟨fun few => absurd few room, fun _ => ⟨rfl, ?_⟩, ?_, ?_, ?_, ?_⟩
      · exact (State.recordFault_congr (s := s) (t := s.setSeat x { s.seat x with rows := rows }) rfl rfl _ _ _ _).1
      · exact State.recordFault_ae _ _ _ _ _
      · exact State.recordFault_dc _ _ _ _ _
      · exact State.recordFault_se _ _ _ _ _
      · exact State.recordFault_rl _ _ _ _ _
  · obtain ⟨none, fb, keys⟩ := State.debounce_checking checking (sc.row % 8) (decodeLevel level.toNat)
    obtain ⟨⟨_, _, _, _, seat⟩, -, rest⟩ := s.debounce_only x (sc.row % 8) (decodeLevel level.toNat)
    have state : ((s.debounce x (sc.row % 8) (decodeLevel level.toNat)).1.seat x).state = .checking := by
      rw [seat]
      exact checking
    have counts : ((sc.tally.get x).count (sc.row % 8) (decodeLevel level.toNat)).rows = (sc.tally.get x).rows + 1 := rfl
    rw [ran s level out, State.rowDone_live _ scan, State.completeRow_live live level.toNat hx rfl, none]
    generalize (s.debounce x (sc.row % 8) (decodeLevel level.toNat)).1 = v at *
    generalize hta : (sc.tally.get x).count (sc.row % 8) (decodeLevel level.toNat) = ta at *
    obtain ⟨⟨_, _, _, _, _, _, seat'⟩, -, rest'⟩ := v.ladderCheck_only x (sc.row % 8) ta
    refine ⟨_, congrArg _ (drain_nil _ _), ?_, ?_, ?_, fun uncounted => ?_, fun last' all => ?_⟩
    · rw [State.seat_advanceScan, seat', ← keys]
    · refine Eq.trans (b := v.ae) ?_ ?_
      · rw [rest']
        rfl
      · rw [rest]
    · refine Eq.trans (b := v.fb) ?_ fb
      rw [rest']
      rfl
    · rw [State.ladderCheck_uncounted (by omega), State.seat_advanceScan, seat]
      exact ⟨checking, rfl, rfl, rfl⟩
    · have busy' : ta.busy = busy := by
        rw [hbusy, ← hta, last']
        rfl
      have idleRun : ((v.seat x).counted ta).idleRun = run := by
        rw [hrun, ← busy', seat]
        rfl
      have scans : ((v.seat x).counted ta).scansCounted = (s.seat x).scansCounted + 1 := by
        rw [seat]
        rfl
      have lastBusy : ((v.seat x).counted ta).lastBusyRow = last := by
        rw [hlast, ← busy', seat]
        unfold SeatRecord.counted
        cases ta.busy <;> rfl
      have pending := State.isPending_countScan (s := v) (x := x) (ta := ta)
      have seatAfter := v.seat_countScan x ta
      rw [idleRun, scans] at pending seatAfter
      rw [last', State.ladderCheck_counted state (by omega), State.seat_advanceScan, seatAfter]
      refine ⟨fun passed => ?_, fun notPassed full => ?_, fun notPassed more => ?_⟩
      · rw [if_pos passed]
        exact ⟨rfl, pending (.inl passed)⟩
      · rw [if_neg notPassed, if_pos full]
        exact ⟨rfl, rfl, lastBusy, pending (.inr full)⟩
      · rw [if_neg notPassed, if_neg more]
        exact ⟨state, idleRun, scans, lastBusy⟩

end Sys2Proof.Machine
end

section
/-! What changes the scores: an EQUAL judgement of a seat still in the race, and the commands that set them to 0. -/

namespace Sys2Proof.Machine

/-! ### Moves and changes leave the scores -/

theorem Move.scores {o s t : State} (m : Move o s t) : t.dc.scores = s.dc.scores := by
  cases m with
  | speech m => rw [m.only.dc]
  | lessons ae dc ps scores => exact scores
  | append r => simp
  | fault => simp
  | words | attention | waiting | holdEntered | keys => rfl

theorem Moves.scores {s t : State} (h : Moves s t) : t.dc.scores = s.dc.scores :=
  h.keeps (P := fun u => u.dc.scores = s.dc.scores) (fun m hs => m.scores.trans hs) rfl

theorem Change.scores {s t : State} (c : Change False s t) : t.dc.scores = s.dc.scores := by
  cases c with
  | move m => exact m.scores
  | announce route ids => rw [(SpeechOnly.enqueue s .announce .announce route ids).dc]
  | duel dc scores letters => exact scores.resolve_left id
  | configure c =>
    rw [State.evaluateThreshold_only]
  | remove k =>
    unfold State.removeOldest
    rw [State.evaluateThreshold_only]
  | clip id => cases id <;> rfl
  | openClip id => cases id <;> rfl
  | drop id => cases id <;> rfl
  | volume c => cases c <;> rfl
  | position v => cases v <;> rfl
  | scanner | timebase | settings | verifyUnit | store | banks | normal | lockdown => rfl

theorem Changes.scores {s t : State} (h : Changes False s t) : t.dc.scores = s.dc.scores :=
  h.keeps (P := fun u => u.dc.scores = s.dc.scores) (fun _ _ c hs => c.scores.trans hs) rfl

/-! ### The judgement that scores -/

/-- The judgement is EQUAL, of the open round, and its seat is still in the race (R81). -/
def State.scoring (s : State) (x : Seat) (j : Judgement) : Prop :=
  j.live = true ∧ j.round = s.dc.round ∧ s.duelRuns = true ∧ (s.round x).record = .notBuilt ∧
  (s.round x).status = some .typing ∧ j.equal = true

/-- The state in which DC has taken the judgement in flight (R81). -/
def State.judgementOut (s : State) (x : Seat) : State :=
  { s with dc := { s.dc with judgements := s.dc.judgements.set x none } }

theorem State.takeJudgement_of_scoring {s : State} {x : Seat} {j : Judgement} (h : s.scoring x j) :
    s.takeJudgement x j = (s.judgementOut x).winRound x := by
  obtain ⟨live, round, runs, record, status, equal⟩ := h
  have record' : ((s.judgementOut x).round x).record = .notBuilt := record
  have status' : ((s.judgementOut x).round x).status = some .typing := status
  have runs' : (s.judgementOut x).duelRuns = true := runs
  have round' : j.round = (s.judgementOut x).dc.round := round
  unfold State.takeJudgement
  change (if (j.live && j.round == (s.judgementOut x).dc.round && (s.judgementOut x).duelRuns &&
    ((s.judgementOut x).round x).record == .notBuilt) = true then _ else _) = _
  rw [if_pos (by simp [live, round', runs', record'])]
  split
  case h_1 => exact if_pos equal
  all_goals
    rename_i other
    exact absurd (status'.symm.trans other) (by decide)

theorem State.scores_winRound (s : State) (x : Seat) :
    (s.winRound x).1.dc.scores = s.dc.scores.set x (s.dc.scores.get x + 1) := by
  unfold State.winRound
  dsimp only
  split
  · exact Moves.scores (Moves.beat .refl)
  · rfl

theorem State.scores_disregard (s : State) (x : Seat) : (s.disregard x).1.dc = s.dc := by
  unfold State.disregard
  dsimp only
  split <;> rfl

theorem State.scores_takeJudgement_of_not_scoring {s : State} {x : Seat} {j : Judgement} (h : ¬ s.scoring x j) :
    (s.takeJudgement x j).1.dc.scores = s.dc.scores := by
  unfold State.takeJudgement
  dsimp only
  split
  · rename_i open'
    simp only [Bool.and_eq_true, beq_iff_eq] at open'
    obtain ⟨⟨⟨live, round⟩, runs⟩, record⟩ := open'
    split
    · rename_i status
      split
      · rename_i equal
        exact absurd ⟨live, round, runs, record, status, equal⟩ h
      · split <;> rfl
    · split
      · rfl
      · rw [State.scores_disregard]
    all_goals rw [State.scores_disregard]
  · rw [State.scores_disregard]

theorem State.scores_takeInFlight {s : State} {x : Seat} {j : Judgement} (inFlight : s.dc.judgements.get x = some j)
    (thawed : s.fb.frozen = false) : (s.takeInFlight x).dc.scores = (s.takeJudgement x j).1.dc.scores := by
  rw [State.takeInFlight, inFlight]
  dsimp only
  rw [if_neg (by simp [thawed])]
  exact Moves.scores (Moves.carryOut .refl _ fun _ => tasksLawful_takeJudgement)

/-! ### The commands that set the scores to 0 -/

/-- The command neither sets the scores to 0 nor takes a judgement. -/
def keepsScores (c : Instr) : Prop := setsScores c = false ∧ c ≠ .powerOn ∧ ∀ tag, c ≠ .restartFull tag

theorem keptOutside_scores (k : Pair Nat) : KeptOutside keepsScores fun u => u.dc.scores = k where
  held _ h := h
  link _ _ _ h := h
  powerUp no := absurd rfl no.2.1
  restart tag no := absurd rfl (no.2.2 tag)
  fault s _ _ _ _ h := (Changes.scores (Changes.recordFault (.refl (a := s)))).trans h
  sense s _ _ _ h := (Changes.scores (Changes.changeLine (.refl (a := s)))).trans h
  owner c _ keep taken other h :=
    (Changes.scores (requestOwner_changes c (fun sets => by simp [keep.1] at sets) taken other)).trans h
  act c s keep inside h := (Changes.scores (eventAct_changes c s (fun sets => by simp [keep.1] at sets) inside)).trans h

theorem scores_startDuelOwner (rounds options : Byte) (s : State) :
    (startDuelOwner rounds options s).1.dc.scores = s.dc.scores ∨ (startDuelOwner rounds options s).1.dc.scores = ⟨0, 0⟩ := by
  unfold startDuelOwner State.refuseIf
  split
  · exact .inl rfl
  · split
    · exact .inl rfl
    · exact .inr (Moves.scores (s := s.setDuel rounds.toNat (options.getLsbD 0) (options.getLsbD 2))
        (Moves.carryOut (Moves.refillDuel .refl) _ fun _ => by simp [Task.lawful]))

/-- No command but a judgement adds to a score. -/
theorem keptOutside_zeroScores (k : Pair Nat) :
    KeptOutside (fun c => ∀ x, c ≠ .judgementTaken x) fun u => u.dc.scores = k ∨ u.dc.scores = ⟨0, 0⟩ where
  held _ h := h
  link _ _ _ h := h
  powerUp _ _ _ := .inr rfl
  restart _ _ _ _ := .inr rfl
  fault s _ _ _ _ h := by rwa [Changes.scores (Changes.recordFault (.refl (a := s)))]
  sense s _ _ _ h := by rwa [Changes.scores (Changes.changeLine (.refl (a := s)))]
  owner c s keep taken other h := by
    cases sets : setsScores c
    · rwa [Changes.scores (requestOwner_changes c (fun no => by simp [sets] at no) taken other)]
    · cases c
      case startDuel tag rounds options =>
        obtain same | zero := scores_startDuelOwner rounds options s
        · exact same.symm ▸ h
        · exact .inr zero
      case restartLesson tag => exact .inr rfl
      case judgementTaken x => exact absurd rfl (keep x)
      all_goals cases sets
  act c s keep inside h := by
    cases sets : setsScores c
    · rwa [Changes.scores (eventAct_changes c s (fun no => by simp [sets] at no) inside)]
    · cases c
      case startDuel | restartLesson => exact h
      case judgementTaken x => exact absurd rfl (keep x)
      all_goals cases sets

/-- A JUDGEMENT_TAKEN that changes the scores takes a judgement that scores. -/
theorem scored_of_changed {s t : State} {x : Seat} (out : exec (.judgementTaken x) s = .next t)
    (changed : t.dc.scores ≠ s.dc.scores) : ∃ y j, Instr.judgementTaken x = .judgementTaken y ∧
      s.dc.judgements.get y = some j ∧ j.equal = true ∧ j.live = true ∧ j.round = s.dc.round ∧ s.duelRuns = true ∧
      (s.round y).status = some .typing ∧ (s.round y).record = .notBuilt ∧
      t.dc.scores = s.dc.scores.set y (s.dc.scores.get y + 1) := by
  by_cases released : s.resetHeld = false
  · have acted : exec (.judgementTaken x) s = .next (s.takeInFlight x) :=
      event_taken (act := fun s => s.takeInFlight x) released
    rw [acted] at out
    cases out
    cases inFlight : s.dc.judgements.get x with
    | none => exact absurd (by simp [State.takeInFlight, inFlight]) changed
    | some j =>
      cases thawed : s.fb.frozen with
      | true => exact absurd (by simp [State.takeInFlight, inFlight, thawed]) changed
      | false =>
        rw [State.scores_takeInFlight inFlight thawed] at changed ⊢
        have scoring : s.scoring x j := by_contra fun no => changed (State.scores_takeJudgement_of_not_scoring no)
        have ⟨live, round, runs, record, status, equal⟩ := scoring
        refine ⟨x, j, rfl, inFlight, equal, live, round, runs, status, record, ?_⟩
        rw [State.takeJudgement_of_scoring scoring, State.scores_winRound]
        rfl
  · have held : exec (.judgementTaken x) s = .next s :=
      event_held (act := fun s => s.takeInFlight x) (by simpa using released)
    rw [held] at out
    cases out
    exact absurd rfl changed

/-- Settles O28: a judgement scores in `winRound` alone, and of the other commands only those that make the duel record
afresh change the scores. -/
theorem onlyEqualJudgementsScore : Obligations.OnlyEqualJudgementsScore := by
  refine ⟨fun s x j released thawed inFlight live round equal runs status record => ?_, fun s t c out changed => ?_⟩
  · have scoring : s.scoring x j := ⟨live, round, runs, record, status, equal⟩
    refine ⟨s.takeInFlight x, event_taken (act := fun s => s.takeInFlight x) released, ?_, ?_⟩
    · rw [State.scores_takeInFlight inFlight thawed, State.takeJudgement_of_scoring scoring, State.scores_winRound]
      rfl
    · rw [State.takeInFlight, inFlight]
      simp [thawed]
  by_cases judged : ∃ x, c = .judgementTaken x
  · obtain ⟨x, rfl⟩ := judged
    exact .inl (scored_of_changed out changed)
  · have zero : t.dc.scores = s.dc.scores ∨ t.dc.scores = ⟨0, 0⟩ :=
      (keptOutside_zeroScores s.dc.scores).exec (fun d runs x e => judged (by
        subst e
        obtain rfl | ⟨request, -⟩ := runs
        · exact ⟨x, rfl⟩
        · cases request)) (.inl rfl) out
    refine .inr ⟨zero.resolve_left changed, ?_⟩
    have ⟨d, runs, sets⟩ : ∃ d, s.runs c d ∧ ¬ keepsScores d := by
      by_contra none
      exact changed ((keptOutside_scores s.dc.scores).exec (fun d runs => by_contra fun sets => none ⟨d, runs, sets⟩) rfl out)
    have named : (c = d ∨ ∃ v, (c = .frameComplete v ∨ c = .byteReceived ⟨v, .mark⟩) ∧
        frameCompletes s.partialFrame = true ∧ s.requestAt v = .request d) := runs.imp_right And.right
    cases d
    case powerOn =>
      obtain rfl | ⟨request, -⟩ := runs
      · exact .inl rfl
      · cases request
    case startDuel tag rounds options => exact .inr ⟨_, named, .inl ⟨tag, rounds, options, rfl⟩⟩
    case restartLesson tag => exact .inr ⟨_, named, .inr (.inl ⟨tag, rfl⟩)⟩
    case restartFull tag => exact .inr ⟨_, named, .inr (.inr ⟨tag, rfl⟩)⟩
    case judgementTaken x =>
      obtain rfl | ⟨request, -⟩ := runs
      · exact absurd ⟨x, rfl⟩ judged
      · cases request
    all_goals exact absurd ⟨rfl, nofun, nofun⟩ sets

end Sys2Proof.Machine
end

section
/-! What the release of every pin and the alerts of a seat change, and RESTART LESSON (R214). -/

namespace Sys2Proof.Machine

/-! ### Pending causes that grow -/

/-- The cause with a number (R104). -/
def causeNumbered : Nat → Cause
  | 0 => .seatChange .a
  | 1 => .seatChange .b
  | 2 => .seatDone .a
  | 3 => .seatDone .b
  | 4 => .duelEnd
  | 5 => .logThreshold
  | 6 => .logFull
  | 7 => .clipDone
  | 8 => .clipFreed
  | 9 => .fault
  | _ => .alert

theorem causeNumbered_number (c : Cause) : causeNumbered c.number = c := by
  cases c with
  | seatChange x | seatDone x => cases x <;> rfl
  | duelEnd | logThreshold | logFull | clipDone | clipFreed | fault | alert => rfl

theorem Cause.number_lt (c : Cause) : c.number < 16 := by
  cases c with
  | seatChange x | seatDone x => cases x <;> decide
  | duelEnd | logThreshold | logFull | clipDone | clipFreed | fault | alert => decide

theorem State.isPending_raise_ne {s : State} {c k : Cause} (h : k ≠ c) : (s.raise c).isPending k = s.isPending k := by
  have apart : k.number ≠ c.number := fun e => h (by rw [← causeNumbered_number k, e, causeNumbered_number])
  have low := k.number_lt
  simp [State.raise, State.isPending, low]
  omega

/-- The pending causes stay, and only causes of which `P` holds may join them. -/
def Raises (P : Cause → Prop) (s t : State) : Prop :=
  (∀ k, s.isPending k = true → t.isPending k = true) ∧ ∀ k, ¬ P k → t.isPending k = s.isPending k

theorem Raises.of_au {P : Cause → Prop} {s t : State} (h : t.au = s.au) : Raises P s t := by
  have same : ∀ k, t.isPending k = s.isPending k := fun k => by rw [State.isPending, h, State.isPending]
  exact ⟨fun k hk => (same k).trans hk, fun k _ => same k⟩

theorem Raises.trans {P : Cause → Prop} {s t u : State} (h : Raises P s t) (k : Raises P t u) : Raises P s u :=
  ⟨fun c hc => k.1 c (h.1 c hc), fun c hc => (k.2 c hc).trans (h.2 c hc)⟩

theorem Raises.raise (s : State) (c : Cause) : Raises (· = c) s (s.raise c) := by
  refine ⟨fun k hk => ?_, fun k hk => State.isPending_raise_ne hk⟩
  by_cases e : k = c
  · rw [e]
    exact s.isPending_raise c
  · rwa [State.isPending_raise_ne e]

/-! ### The release of pins -/

@[simp] theorem State.au_setClip (s : State) (id : Nat) (c : Option Clip) : (s.setClip id c).au = s.au := by
  cases id <;> rfl

@[simp] theorem State.au_dropClip (s : State) (id : Nat) : (s.dropClip id).au = s.au := s.au_setClip id none

/-- The state `u` comes from `s` by pins released: a clip that is gone was RETIRING, its blocks are free and CLIP_FREED is
raised. -/
structure Released (s u : State) : Prop where
  clips : ∀ id, (s.clip id = none ∧ u.clip id = none) ∨
    ∃ c, s.clip id = some c ∧ ((c.state = .retiring ∧ u.clip id = none) ∨ ∃ k, u.clip id = some { c with pins := k })
  blocks : u.cs.blocks = s.cs.blocks.map fun v => v.filter fun id => (s.clip id).isNone || (u.clip id).isSome
  freed : u.isPending .clipFreed = true ↔ s.isPending .clipFreed = true ∨ ∃ id, (s.clip id).isSome = true ∧ u.clip id = none
  raises : Raises (· = .clipFreed) s u
  enabled : u.au.enabled = s.au.enabled

theorem Released.refl (s : State) : Released s s where
  clips id := by
    cases h : s.clip id with
    | none => exact .inl ⟨rfl, rfl⟩
    | some c => exact .inr ⟨c, rfl, .inr ⟨c.pins, rfl⟩⟩
  blocks := by
    have all : ∀ v : Option Nat, v.filter (fun id => (s.clip id).isNone || (s.clip id).isSome) = v := by
      intro v
      cases v with
      | none => rfl
      | some id => cases h : s.clip id <;> simp [h]
    simp [all]
  freed := by
    refine ⟨.inl, fun h => h.resolve_right ?_⟩
    rintro ⟨id, present, absent⟩
    simp [absent] at present
  raises := .of_au rfl
  enabled := rfl

theorem Released.drop {s u : State} (h : Released s u) {id : Nat} {d : Clip} (present : u.clip id = some d)
    (retiring : d.state = .retiring) : Released s ((u.dropClip id).raise .clipFreed) := by
  have clip : ∀ k, ((u.dropClip id).raise .clipFreed).clip k = if k = id then none else u.clip k :=
    State.clip_dropClip present
  obtain ⟨c, was, k, same⟩ : ∃ c, s.clip id = some c ∧ ∃ k, u.clip id = some { c with pins := k } := by
    obtain ⟨-, absent⟩ | ⟨c, was, ⟨-, absent⟩ | same⟩ := h.clips id
    · simp [absent] at present
    · simp [absent] at present
    · exact ⟨c, was, same⟩
  obtain rfl : d = { c with pins := k } := Option.some.inj (present.symm.trans same)
  refine ⟨fun j => ?_, ?_, ?_, ?_, ?_⟩
  · rw [clip]
    split
    · rename_i e
      rw [e]
      exact .inr ⟨c, was, .inl ⟨retiring, rfl⟩⟩
    · exact h.clips j
  · show (u.dropClip id).cs.blocks = _
    rw [State.blocks_dropClip, h.blocks, freeBlocks, List.map_map]
    refine List.map_congr_left fun v _ => ?_
    cases v with
    | none => rfl
    | some j =>
      by_cases e : j = id
      · subst e
        simp [Option.filter, was, clip, present]
      · simp [Option.filter, clip, e]
  · simp only [State.isPending_raise, true_iff]
    exact .inr ⟨id, by rw [was]; rfl, by rw [clip, if_pos rfl]⟩
  · exact h.raises.trans ((Raises.of_au (u.au_dropClip id)).trans (Raises.raise _ _))
  · show (u.dropClip id).au.enabled = _
    rw [State.au_dropClip, h.enabled]

theorem Released.unpinned {s u : State} (h : Released s u) {id : Nat} {d : Clip} (present : u.clip id = some d) (k : Nat) :
    Released s (u.setClip id (some { d with pins := k })) := by
  have clip : ∀ j, (u.setClip id (some { d with pins := k })).clip j =
      if j = id then some { d with pins := k } else u.clip j := State.clip_setClip_present present _
  have some' : ∀ j, ((u.setClip id (some { d with pins := k })).clip j).isSome = (u.clip j).isSome := by
    intro j
    rw [clip]
    split
    · rename_i e
      rw [e, present]
      rfl
    · rfl
  have none' : ∀ j, (u.setClip id (some { d with pins := k })).clip j = none ↔ u.clip j = none := by
    intro j
    rw [← Option.not_isSome_iff_eq_none, some', Option.not_isSome_iff_eq_none]
  refine ⟨fun j => ?_, ?_, ?_, ?_, ?_⟩
  · rw [clip]
    split
    · rename_i e
      rw [e]
      obtain ⟨-, absent⟩ | ⟨c, was, ⟨-, absent⟩ | ⟨n, same⟩⟩ := h.clips id
      · simp [absent] at present
      · simp [absent] at present
      · obtain rfl : d = { c with pins := n } := Option.some.inj (present.symm.trans same)
        exact .inr ⟨c, was, .inr ⟨k, rfl⟩⟩
    · exact h.clips j
  · rw [State.blocks_setClip, h.blocks]
    simp only [some']
  · have same : (u.setClip id (some { d with pins := k })).isPending .clipFreed = u.isPending .clipFreed := by
      rw [State.isPending, State.au_setClip, State.isPending]
    rw [same, h.freed]
    simp only [none']
  · exact h.raises.trans (Raises.of_au (u.au_setClip id _))
  · rw [State.au_setClip, h.enabled]

theorem Released.unpin {s u : State} (h : Released s u) (id : Nat) : Released s (u.unpin id) := by
  unfold State.unpin
  split
  · rename_i d present
    split
    · rename_i last
      exact h.drop present last.1
    · exact h.unpinned present _
  · exact h

theorem Released.unpinAll {s : State} : ∀ (clips : List Nat) {u : State}, Released s u → Released s (u.unpinAll clips)
  | [], _, h => h
  | id :: clips, _, h => Released.unpinAll clips (h.unpin id)

/-- What is left of the directory, the blocks and CLIP_FREED when the last pin has gone (R179). -/
theorem Released.to_unpinned {s u : State} (h : Released s u) (pins : u.pinned fun _ => 0) :
    (∀ id, u.clip id = (s.clip id).bind fun c => if c.state = .retiring then none else some { c with pins := 0 }) ∧
    u.cs.blocks = s.cs.blocks.map (fun v => v.filter fun id => (s.clip id).map (·.state) ≠ some .retiring) ∧
    (u.isPending .clipFreed = true ↔ s.isPending .clipFreed = true ∨ ∃ id c, s.clip id = some c ∧ c.state = .retiring) := by
  have clip : ∀ id, u.clip id = (s.clip id).bind fun c => if c.state = .retiring then none else some { c with pins := 0 } := by
    intro id
    have fits := pins id
    obtain ⟨was, absent⟩ | ⟨c, was, ⟨retiring, absent⟩ | ⟨k, same⟩⟩ := h.clips id
    · rw [was, absent]
      rfl
    · rw [was, absent, Option.bind_some, if_pos retiring]
    · rw [same] at fits
      obtain ⟨rfl, -, held⟩ : k = 0 ∧ _ ∧ (c.state = .retiring → 0 < k) := fits
      rw [was, same, Option.bind_some, if_neg fun retiring => absurd (held retiring) (by decide)]
  refine ⟨clip, ?_, ?_⟩
  · rw [h.blocks]
    refine List.map_congr_left fun v _ => congrArg (Option.filter · v) (funext fun id => ?_)
    rw [clip]
    cases was : s.clip id with
    | none => simp
    | some c => by_cases retiring : c.state = .retiring <;> simp [retiring]
  · rw [h.freed]
    refine or_congr_right (exists_congr fun id => ?_)
    rw [clip]
    cases was : s.clip id with
    | none => simp
    | some c => by_cases retiring : c.state = .retiring <;> simp [retiring]

/-! ### Cancelling everything -/

/-- SE without any utterance. -/
def Speech.silenced (se : Speech) : Speech := se.without fun _ => true

/-- The state in which every utterance has gone and its pins are released, and no end is noted yet. -/
def State.silence (s : State) : State :=
  ({ s with se := s.se.silenced } : State).unpinAll ((s.allPlaying ++ s.allWaiting).flatMap (·.clips))

theorem State.cancelAll_eq (s : State) : s.cancelAll =
    { s.silence with se := { s.silence.se with lastAnnounce := s.cancelAll.se.lastAnnounce } } := by
  have named : s.named (fun _ => true) = s.allPlaying ++ s.allWaiting := by simp [State.named]
  unfold State.cancelAll State.silence Speech.silenced
  rw [State.cancel_eq, named]
  generalize State.unpinAll _ _ = u
  cases lastAnnounced (s.allPlaying ++ s.allWaiting)
  all_goals rfl

theorem State.lastAnnounce_cancelAll {s : State} (h : ∀ u ∈ s.allPlaying ++ s.allWaiting, u.requester ≠ .announce) :
    s.cancelAll.se.lastAnnounce = s.se.lastAnnounce := by
  have none' : lastAnnounced (s.named fun _ => true) = none := by
    have empty : (s.named fun _ => true).filter (·.requester == .announce) = [] := by
      rw [List.filter_eq_nil_iff]
      intro u hu
      simpa using h u (List.mem_of_mem_filter hu)
    rw [lastAnnounced, empty]
    rfl
  rw [State.cancelAll, State.cancel_eq, none']
  dsimp only
  rw [unpinAll_se]
  rfl

theorem State.silence_released (s : State) : Released s s.silence := by
  have silenced : Released s { s with se := s.se.silenced } :=
    { clips := (Released.refl s).clips
      blocks := (Released.refl s).blocks
      freed := (Released.refl s).freed
      raises := .of_au rfl
      enabled := rfl }
  exact silenced.unpinAll _

theorem State.silence_pinned {s : State} (h : s.pinLaw) : s.silence.pinned fun _ => 0 := by
  obtain ⟨-, pins, -⟩ := h
  refine State.pinned_unpinAll _ (State.pinned_congr pins rfl fun id => ?_)
  have named : s.named (fun _ => true) = s.allPlaying ++ s.allWaiting := by simp [State.named]
  have none' : ∀ v : Option Playing, keepPlaying (fun _ => true) v = none := fun v => by cases v <;> rfl
  have quiet : ({ s with se := s.se.without fun _ => true } : State).references id = 0 := by
    simp [State.references_eq, Speech.without, none']
  rw [s.references_without (fun _ => true) id, quiet, named]

/-! ### Alerts given -/

/-- Alerts add ALERT and sticky rows, and nothing leaves. -/
def AlertsAdd (s t : State) : Prop :=
  Raises (· = .alert) s t ∧ t.au.enabled = s.au.enabled ∧
  ∀ x, (t.seat x).holdRows &&& (s.seat x).holdRows = (s.seat x).holdRows ∧
    (t.seat x).chordRows &&& (s.seat x).chordRows = (s.seat x).chordRows

theorem AlertsAdd.refl (s : State) : AlertsAdd s s := ⟨.of_au rfl, rfl, fun _ => ⟨BitVec.and_self, BitVec.and_self⟩⟩

theorem BitVec.and_eq_of_and_eq {w : Nat} {x y z : BitVec w} (h : y &&& x = x) (k : z &&& y = y) : z &&& x = x := by
  rw [← h, ← BitVec.and_assoc, k]

theorem AlertsAdd.trans {s t u : State} (h : AlertsAdd s t) (k : AlertsAdd t u) : AlertsAdd s u := by
  obtain ⟨raises, enabled, rows⟩ := h
  obtain ⟨raises', enabled', rows'⟩ := k
  exact ⟨raises.trans raises', enabled'.trans enabled, fun x =>
    ⟨BitVec.and_eq_of_and_eq (rows x).1 (rows' x).1, BitVec.and_eq_of_and_eq (rows x).2 (rows' x).2⟩⟩

theorem BitVec.or_and_self_left {w : Nat} (x y : BitVec w) : (x ||| y) &&& x = x := by
  ext i
  simp
  tauto

theorem SeatRecord.alertGiven_sticky (r : SeatRecord) (n : Nat) :
    (r.alertGiven n).holdRows &&& r.holdRows = r.holdRows ∧ (r.alertGiven n).chordRows &&& r.chordRows = r.chordRows := by
  unfold SeatRecord.alertGiven
  cases (r.row n).stable <;> simp [BitVec.or_and_self_left]

theorem State.giveDue_adds (s : State) (x : Seat) (n : Nat) : AlertsAdd s (s.giveDue x n) := by
  unfold State.giveDue
  split
  · rw [State.giveAlert_eq]
    refine ⟨(Raises.of_au (by simp)).trans (Raises.raise (s.setSeat x ((s.seat x).alertGiven n)) .alert),
      by simp [State.raise], fun y => ?_⟩
    show ((s.setSeat x ((s.seat x).alertGiven n)).seat y).holdRows &&& _ = _ ∧
      ((s.setSeat x ((s.seat x).alertGiven n)).seat y).chordRows &&& _ = _
    rw [State.seat_setSeat]
    split
    · rename_i e
      rw [e]
      exact (s.seat x).alertGiven_sticky n
    · exact (AlertsAdd.refl s).2.2 y
  · exact .refl s

theorem State.giveAllDue_adds (s : State) (x : Seat) : AlertsAdd s (s.giveAllDue x) := by
  have each : ∀ (l : List Nat) (u : State), AlertsAdd u (l.foldl (fun s n => s.giveDue x n) u) := by
    intro l
    induction l with
    | nil => exact fun u => .refl u
    | cons n l ih => exact fun u => (u.giveDue_adds x n).trans (ih _)
  exact each _ s

/-- Every alert that is due at either seat is given (R214). -/
def State.alertsGiven (s : State) : State := (s.giveAllDue .a).giveAllDue .b

theorem State.alertsGiven_adds (s : State) : AlertsAdd s s.alertsGiven :=
  (s.giveAllDue_adds .a).trans ((s.giveAllDue .a).giveAllDue_adds .b)

theorem AlertsOnly.both {s t u : State} (h : AlertsOnly .a s t) (k : AlertsOnly .b t u) :
    u = { s with ks := { s.ks with seats := u.ks.seats }, au := u.au } ∧
    ∀ x, ∃ rows holdRows chordRows, u.seat x = { s.seat x with rows := rows, holdRows := holdRows, chordRows := chordRows } := by
  obtain ⟨⟨rows, holdRows, chordRows, seat⟩, other, rest⟩ := h
  obtain ⟨⟨rows', holdRows', chordRows', seat'⟩, other', rest'⟩ := k
  refine ⟨?_, fun x => ?_⟩
  · rw [rest', rest]
  · cases x with
    | a => exact ⟨rows, holdRows, chordRows, Eq.trans other' seat⟩
    | b =>
      have same : t.seat .b = s.seat .b := other
      exact ⟨rows', holdRows', chordRows', by rw [seat', same]⟩

theorem State.alertsGiven_only (s : State) :
    s.alertsGiven = { s with ks := { s.ks with seats := s.alertsGiven.ks.seats }, au := s.alertsGiven.au } ∧
    ∀ x, ∃ rows holdRows chordRows,
      s.alertsGiven.seat x = { s.seat x with rows := rows, holdRows := holdRows, chordRows := chordRows } :=
  (s.giveAllDue_alertsOnly .a).both ((s.giveAllDue .a).giveAllDue_alertsOnly .b)

theorem State.alertsGiven_of_none {s : State} (h : ∀ x, ∀ r ∈ (s.seat x).rows, r.due = false) : s.alertsGiven = s := by
  rw [State.alertsGiven, State.giveAllDue_of_none (h .a), State.giveAllDue_of_none (h .b)]

/-! ### RESTART LESSON -/

/-- What RESTART LESSON sets back once everything is cancelled and the alerts are given (R214). -/
def State.lessonsReset (s : State) : State :=
  { s with
    ae := ⟨s.ae.a.restarted, s.ae.b.restarted⟩
    dc := DuelRecord.fresh
    rl := { s.rl with waiting := [] }
    ps := { practice := ⟨[], []⟩, duel := [] }
    ks := { s.ks with seats := ⟨s.ks.seats.a.restarted, s.ks.seats.b.restarted⟩ }
    fb := { s.fb with condition := .normal, holdDue := false } }

theorem State.lessonRestart_eq (s : State) : s.lessonRestart = s.cancelAll.alertsGiven.lessonsReset := by
  unfold State.lessonRestart State.lessonsReset State.alertsGiven
  rfl

/-- Once everything is cancelled SE has no utterance, and only its last announcement record may change else (R159). -/
theorem State.se_cancelAll (s : State) :
    s.cancelAll.se = { s.se.silenced with lastAnnounce := s.cancelAll.se.lastAnnounce } := by
  have silent : s.silence.se = s.se.silenced := unpinAll_se _ _
  conv_lhs => rw [s.cancelAll_eq]
  rw [silent]

theorem State.quiet_cancelAll (s : State) : s.cancelAll.speechQuiet := cancel_everything fun _ _ => rfl

theorem State.cs_cancelAll (s : State) : s.cancelAll.cs = s.silence.cs := congrArg (·.cs) s.cancelAll_eq

theorem State.au_cancelAll (s : State) : s.cancelAll.au = s.silence.au := congrArg (·.au) s.cancelAll_eq

/-- A seat without an alert due is given none. -/
theorem State.seat_alertsGiven_of_none {s : State} {x : Seat} (h : ∀ r ∈ (s.seat x).rows, r.due = false) :
    s.alertsGiven.seat x = s.seat x := by
  unfold State.alertsGiven
  have other : (s.giveAllDue .a).seat .b = s.seat .b := (s.giveAllDue_alertsOnly .a).2.1
  have other' := ((s.giveAllDue .a).giveAllDue_alertsOnly .b).2.1
  cases x with
  | a =>
    rw [State.giveAllDue_of_none h] at other' ⊢
    exact other'
  | b => rw [State.giveAllDue_of_none (s := s.giveAllDue .a) (by rwa [other]), other]

theorem State.seat_lessonsReset (s : State) (x : Seat) : s.lessonsReset.seat x = (s.seat x).restarted := by
  cases x <;> rfl

theorem State.ctx_lessonsReset (s : State) (x : Seat) : s.lessonsReset.ctx x = (s.ctx x).restarted := by
  cases x <;> rfl

/-- Settles O12: everything is cancelled, which releases every pin, the alerts due are given, and the lessons are set back. -/
theorem lessonRestartClearsLessons : Obligations.LessonRestartClearsLessons := by
  intro s tag taken
  have cancelled : SpeechOnly s s.cancelAll := SpeechOnly.cancel s _
  have fixed : s.cancelAll.fixed = s.fixed := s.fixed_cancelAll
  obtain ⟨given, rows⟩ := s.cancelAll.alertsGiven_only
  obtain ⟨alerts, enabled, sticky⟩ := s.cancelAll.alertsGiven_adds
  have released := s.silence_released
  have seat : ∀ x, s.cancelAll.seat x = s.seat x := fun x => by rw [State.seat, cancelled.ks, State.seat]
  have ks := cancelled.ks
  have quiet := s.quiet_cancelAll
  have speech := s.se_cancelAll
  have last := s.lastAnnounce_cancelAll
  have cleared : Raises (· = .clipFreed) s s.cancelAll := released.raises.trans (.of_au s.au_cancelAll)
  have cs := s.cs_cancelAll
  have au := s.au_cancelAll
  have none' : (∀ x, ∀ r ∈ (s.seat x).rows, r.due = false) → s.cancelAll.alertsGiven = s.cancelAll :=
    fun h => State.alertsGiven_of_none fun x => by rw [seat]; exact h x
  have answer : requestOwner (.restartLesson tag) s = (s.cancelAll.alertsGiven.lessonsReset, .ok, []) := by
    show restartLessonOwner s = _
    rw [restartLessonOwner, State.lessonRestart_eq]
    rfl
  have still : ∀ x, (∀ r ∈ (s.seat x).rows, r.due = false) → s.cancelAll.alertsGiven.seat x = s.seat x :=
    fun x h => (State.seat_alertsGiven_of_none (by rwa [seat])).trans (seat x)
  generalize s.cancelAll = c at *
  generalize c.alertsGiven = g at *
  have spoken : g.lessonsReset.se = { s.se.silenced with lastAnnounce := c.se.lastAnnounce } :=
    (congrArg State.se given).trans speech
  have clips : g.cs = s.silence.cs := (congrArg State.cs given).trans cs
  have freed : g.isPending .clipFreed = s.silence.isPending .clipFreed :=
    (alerts.2 .clipFreed nofun).trans (congrArg (fun a => a.raised.getLsbD 8) au)
  have ctx : ∀ x, g.ctx x = s.ctx x := fun x => by
    rw [State.ctx, given]
    exact congrArg (·.get x) cancelled.ae
  have wt : g.wt = s.wt := (congrArg State.wt given).trans cancelled.wt
  have lp : g.lp = s.lp := (congrArg State.lp given).trans cancelled.lp
  have cfg : g.cfg = s.cfg := (congrArg State.cfg given).trans cancelled.cfg
  have tb : g.tb = s.tb := (congrArg State.tb given).trans cancelled.tb
  have rl : g.rl = s.rl := (congrArg State.rl given).trans cancelled.rl
  have fb : g.fb = s.fb := (congrArg State.fb given).trans cancelled.fb
  have map0 : g.ks.map0 = s.ks.map0 := (congrArg (·.ks.map0) given).trans (congrArg (·.map0) ks)
  have map1 : g.ks.map1 = s.ks.map1 := (congrArg (·.ks.map1) given).trans (congrArg (·.map1) ks)
  have scan : g.ks.scan = s.ks.scan := (congrArg (·.ks.scan) given).trans (congrArg (·.scan) ks)
  have silent : g.lessonsReset.speechQuiet := by
    have same : g.lessonsReset.speechQuiet ↔ c.speechQuiet := by
      rw [speechQuiet_iff, speechQuiet_iff, show g.lessonsReset.se = c.se from (congrArg State.se given :)]
    exact same.2 quiet
  have bytes : c.cs.bytes = s.cs.bytes := congrArg (·.2.2.1.1) fixed
  have parity : c.cs.parity = s.cs.parity := congrArg (·.2.2.1.2.1) fixed
  have verify : c.cs.verify = s.cs.verify := congrArg (·.2.2.1.2.2.1) fixed
  have pins : s.pinLaw → _ := fun law => released.to_unpinned (State.silence_pinned law)
  refine ⟨g.lessonsReset, exec_answer rfl taken answer, fun x => ?ctx, rfl, rfl, ?rl, ?playing, ?waiting, ?fb,
    fun x => ?seats, map0, map1, scan, wt, lp, cfg, tb, ?enabled, fun k hk => ?stay, fun k alert freed' => ?others,
    ?alert,
    fun law => ⟨fun id => ?clips, fun b => ?blocks, ?clipFreed⟩, ?bytes, ?parity, ?verify, ?routes, ?cues, ?letters,
    ?lastHandle, ?startOrder, ?volumeA, ?volumeB, ?speaker, ?last⟩
  case ctx =>
    rw [State.ctx_lessonsReset, ctx]
    rfl
  case rl =>
    rw [← rl]
    rfl
  case fb =>
    rw [← fb]
    rfl
  case playing => exact silent.1
  case waiting => exact silent.2
  case seats =>
    obtain ⟨rows, holdRows, chordRows, after⟩ := rows x
    rw [State.seat_lessonsReset]
    refine ⟨?_, ?_, ?_, fun none => ?_⟩
    · rw [after, seat]
      rfl
    · exact seat x ▸ (sticky x).1
    · exact seat x ▸ (sticky x).2
    · rw [still x none]
      rfl
  case enabled => exact enabled.trans ((congrArg (·.enabled) au).trans released.enabled)
  case stay => exact alerts.1 k (cleared.1 k hk)
  case others => exact (alerts.2 k alert).trans (cleared.2 k freed')
  case alert =>
    intro none
    rw [State.isPending, show g.lessonsReset = c.lessonsReset from congrArg _ (none' none)]
    exact cleared.2 .alert nofun
  case bytes => exact (congrArg (·.cs.bytes) given).trans bytes
  case parity => exact (congrArg (·.cs.parity) given).trans parity
  case verify => exact (congrArg (·.cs.verify) given).trans verify
  case last =>
    intro none
    rw [spoken]
    exact last none
  case clips =>
    have clip := (pins law).1 id
    rw [show g.lessonsReset.clip id = s.silence.clip id from State.clip_congr (congrArg (·.directory) clips) id, clip]
    cases s.clip id <;> rfl
  case blocks =>
    have blocks : g.lessonsReset.cs.blocks = _ := (congrArg (·.blocks) clips).trans (pins law).2.1
    rw [blocks, List.getElem?_map]
    rcases s.cs.blocks[b]? with _ | _ | id
    · rfl
    · rfl
    · dsimp only [Option.map_some]
      split
      · rename_i retiring
        rw [Option.filter_some, if_neg (by simpa using retiring)]
      · rename_i other
        rw [Option.filter_some, if_pos (by simpa using other)]
  case clipFreed =>
    rw [← (pins law).2.2, ← freed]
    rfl
  all_goals
    rw [spoken]
    rfl

end Sys2Proof.Machine
end

section
/-! Keys: which a context takes from its queue (R25, R26, R34), and how a key taken in TYPING is judged (R27, R35 to R40). -/

namespace Sys2Proof.Machine

/-! ### What a cancellation leaves -/

theorem toList_keepPlaying (p : Utterance → Bool) (v : Option Playing) :
    (keepPlaying p v).toList.map (·.utterance) = (v.toList.map (·.utterance)).filter (!p ·) := by
  cases v with
  | none => rfl
  | some q => cases hp : p q.utterance <;> simp [keepPlaying, hp]

theorem State.se_cancel (s : State) (p : Utterance → Bool) :
    (s.cancel p).se = { s.se.without p with lastAnnounce := (s.cancel p).se.lastAnnounce } := by
  rw [State.cancel_eq]
  split
  · simp only [State.noteAnnouncement, unpinAll_se]
  · rw [unpinAll_se]

theorem State.allPlaying_cancel (s : State) (p : Utterance → Bool) :
    (s.cancel p).allPlaying = s.allPlaying.filter (!p ·) := by
  rw [State.allPlaying, s.se_cancel p, State.allPlaying]
  simp only [Speech.without, List.map_append, toList_keepPlaying, List.filter_append]

theorem State.allWaiting_cancel (s : State) (p : Utterance → Bool) :
    (s.cancel p).allWaiting = s.allWaiting.filter (!p ·) := by
  rw [State.allWaiting, s.se_cancel p, State.allWaiting]
  simp only [Speech.without, List.filter_append]

/-- The utterances that wait or play after a cancellation are those it does not name (R159). -/
theorem State.mem_cancel (s : State) (p : Utterance → Bool) (u : Utterance) :
    u ∈ (s.cancel p).allPlaying ++ (s.cancel p).allWaiting ↔ u ∈ s.allPlaying ++ s.allWaiting ∧ p u = false := by
  rw [s.allPlaying_cancel, s.allWaiting_cancel, ← List.filter_append, List.mem_filter]
  simp

theorem State.mem_cancelHandle (s : State) (h : Option Nat) (u : Utterance) :
    u ∈ (s.cancelHandle h).allPlaying ++ (s.cancelHandle h).allWaiting ↔
      u ∈ s.allPlaying ++ s.allWaiting ∧ h ≠ some u.handle := by
  cases h with
  | none => simp [State.cancelHandle]
  | some k =>
    refine (s.mem_cancel (·.handle == k) u).trans (and_congr_right fun _ => ?_)
    rw [beq_eq_false_iff_ne, ne_eq, ne_eq, Option.some.injEq, eq_comm]

/-! ### Keys taken -/

theorem State.dropKey_eq {s : State} {x : Seat} {k : KeyCode} {ks : List KeyCode} (h : (s.seat x).keys = k :: ks) :
    s.dropKey x = s.setSeat x { s.seat x with keys := ks } := by
  unfold State.dropKey
  dsimp only
  rw [h, List.drop_succ_cons, List.drop_zero]

/-- What is done with the key at the head (R26). -/
theorem State.takeKey_eq {s : State} {x : Seat} {k : KeyCode} {ks : List KeyCode} (h : (s.seat x).keys = k :: ks) :
    (s.keyTake x k = .keep → s.takeKey x = (s, [])) ∧
    (s.keyTake x k = .discard → s.takeKey x = (s.dropKey x, [.takeKeys x])) ∧
    (s.keyTake x k = .judged → s.takeKey x = (s.dropKey x, [.judge x k, .takeKeys x])) ∧
    (s.keyTake x k = .cut → s.takeKey x = ((s.dropKey x).bargeIn x, [.arbitrate, .judge x k, .takeKeys x])) := by
  unfold State.takeKey
  rw [h]
  refine ⟨?_, ?_, ?_, ?_⟩
  all_goals
    intro e
    dsimp only
    rw [e]

/-- A context whose prompt has ended: it types, with the start tick and a fresh idle timer (R33). -/
def Context.prompted (c : Context) (limit now : Nat) (inFlight : Bool) : Context :=
  { c with state := .typing, startTick := c.startTick.or (some now), idleTimer := limit, idleRunning := !inFlight }

theorem State.completePrompt_eq {s : State} {x : Seat} {c : Context} (h : s.ctx x = c) (prompting : c.state = .prompting) :
    s.completePrompt x = s.setCtx x (c.prompted s.cfg.idleLimit s.tb.counter (s.inFlight x)) := by
  unfold State.completePrompt
  dsimp only
  rw [h, if_pos prompting]
  unfold Context.prompted
  cases c.startTick with
  | none => exact congrArg _ rfl
  | some n => exact congrArg _ rfl

theorem State.setCtx_setCtx (s : State) (x : Seat) (c d : Context) : (s.setCtx x c).setCtx x d = s.setCtx x d := by
  cases x <;> rfl

/-- A key that cuts the prompt short: the prompt is cancelled and its completion made (R34). -/
theorem State.bargeIn_eq {s : State} {x : Seat} {c : Context} (h : s.ctx x = c) (prompting : c.state = .prompting) :
    s.bargeIn x = (s.cancelHandle c.firm).setCtx x
      ({ c with firm := none }.prompted s.cfg.idleLimit s.tb.counter (s.inFlight x)) := by
  have only : SpeechOnly s (s.cancelHandle c.firm) := SpeechOnly.cancelHandle s _
  have ctx : (s.cancelHandle c.firm).ctx x = c := by rw [State.ctx, only.ae, ← h, State.ctx]
  unfold State.bargeIn
  dsimp only
  rw [h, ctx, State.completePrompt_eq (c := { c with firm := none }) (State.ctx_setCtx_self _ _ _) prompting,
    State.setCtx_setCtx]
  simp only [State.setCtx_cfg, State.setCtx_tb, State.inFlight, State.setCtx_dc, only.cfg, only.tb, only.dc]

/-! ### Keys judged -/

section Judging

variable {s : State} {x : Seat} {c d : Context} {tasks : List Task} {k : KeyCode}

/-- The context after a key is counted (R27). -/
def Context.counted (c : Context) : Context := { c with keys := min (c.keys + 1) 255 }

/-- The idle timer afresh at the limit (R27). -/
def Context.rewound (c : Context) (limit : Nat) (inFlight : Bool) : Context :=
  { c with idleTimer := limit, idleRunning := !inFlight }

theorem State.consumeKey_eq (h : s.ctx x = c) : s.consumeKey x = s.setCtx x c.counted := by
  rw [← h]
  rfl

/-- A key that leaves the context in TYPING restarts the idle timer (R27). -/
theorem State.judgeKey_goesOn (h : s.ctx x = c) (handled : (s.setCtx x c.counted).handleKey x k = (s.setCtx x d, tasks))
    (typing : d.state = .typing) (goesOn : tasks.any Task.endsAttempt = false) :
    s.judgeKey x k = (s.setCtx x (d.rewound s.cfg.idleLimit (s.inFlight x)), tasks) := by
  rw [State.judgeKey, State.consumeKey_eq h, handled, afterKey, if_pos]
  · rw [State.restartIdle, State.ctx_setCtx_self, State.setCtx_setCtx]
    rfl
  · exact ⟨by rw [State.ctx_setCtx_self]; exact typing, goesOn⟩

/-- A key that ends the attempt or leaves TYPING does not (R27). -/
theorem State.judgeKey_leaves (h : s.ctx x = c) (handled : (s.setCtx x c.counted).handleKey x k = (s.setCtx x d, tasks))
    (leaves : d.state ≠ .typing ∨ tasks.any Task.endsAttempt = true) :
    s.judgeKey x k = (s.setCtx x d, tasks) := by
  rw [State.judgeKey, State.consumeKey_eq h, handled, afterKey, if_neg]
  rintro ⟨typing, goesOn⟩
  rw [State.ctx_setCtx_self] at typing
  obtain leaves | ends := leaves
  · exact leaves typing
  · rw [ends] at goesOn
    cases goesOn

end Judging

/-- The first position at which a typed list leaves the spelling (R39). -/
theorem firstDeparture_eq : ∀ {t w : List Nat} {p : Nat}, p ≤ t.length → p ≤ w.length →
    (∀ q, q < p → t[q]? = w[q]?) → (p < t.length → p < w.length → t[p]? ≠ w[p]?) → firstDeparture t w = p
  | [], w, p, ht, _, _, _ => by
    cases w <;> simp_all [firstDeparture]
  | y :: t, [], p, _, hw, _, _ => by simp_all [firstDeparture]
  | y :: t, z :: w, 0, _, _, _, leaves => by
    have apart := leaves (Nat.succ_pos _) (Nat.succ_pos _)
    simp only [List.getElem?_cons_zero, ne_eq, Option.some.injEq] at apart
    simp [firstDeparture, apart]
  | y :: t, z :: w, p + 1, ht, hw, same, leaves => by
    have first := same 0 (Nat.succ_pos p)
    simp only [List.getElem?_cons_zero, Option.some.injEq] at first
    have rest : firstDeparture t w = p := firstDeparture_eq (Nat.le_of_succ_le_succ ht) (Nat.le_of_succ_le_succ hw)
      (fun q hq => by simpa using same (q + 1) (Nat.succ_lt_succ hq))
      (fun h k => by simpa using leaves (Nat.succ_lt_succ h) (Nat.succ_lt_succ k))
    simp [firstDeparture, first, rest]

section Styles

variable {s : State} {x : Seat} {c : Context} {k : TargetCopy}

theorem Context.spelling_of_copy (h : c.copy = some k) : c.spelling = k.spelling := by
  rw [Context.spelling, h]

/-- REPEAT, in either style (R40). -/
theorem State.judgeKey_again (h : s.ctx x = c) (typing : c.state = .typing) (copy : c.copy = some k) :
    (c.firm = none ∧ c.repeats < s.cfg.repeatLimit →
      s.judgeKey x .again = (s.setCtx x { c.counted with
        repeats := c.repeats + 1, state := .prompting, idleRunning := false },
        [.firm x .prompt [k.wordClip], .takeKeys x])) ∧
    (c.firm ≠ none ∨ s.cfg.repeatLimit ≤ c.repeats →
      s.judgeKey x .again = (s.setCtx x (c.counted.rewound s.cfg.idleLimit (s.inFlight x)),
        [.say x .cue (s.cueClips .bump)])) := by
  have again : ∀ t : State, t.handleKey x .again = t.repeatKey x := fun t => by
    unfold State.handleKey
    cases (t.ctx x).style <;> rfl
  refine ⟨fun granted => ?_, fun refused => ?_⟩
  · refine State.judgeKey_leaves h ?_ (.inl nofun)
    rw [again, State.repeatKey, State.ctx_setCtx_self]
    dsimp only
    rw [if_pos (by exact granted), State.startRePrompt, State.ctx_setCtx_self, State.setCtx_setCtx, State.setCtx_setCtx]
    simp [Context.rePrompt, Context.counted, copy]
  · refine State.judgeKey_goesOn h ?_ typing rfl
    rw [again, State.repeatKey, State.ctx_setCtx_self, if_neg]
    · rfl
    · rintro ⟨firm, repeats⟩
      exact refused.elim (· firm) fun more => absurd repeats (Nat.not_lt_of_le more)

/-! LETTERWISE (R35, R36). -/

theorem Context.finished_letterwise (h : c.style = .letterwise) : c.finished =
    if c.autofills ≠ 0 then .miss else if c.wrongTotal = 0 ∧ c.hints = 0 then .correct else .helped := by
  unfold Context.finished
  rw [h]

theorem Context.finished_wordwise (h : c.style = .wordwise) : c.finished =
    if c.tries = 1 ∧ c.hints = 0 then .correct else .helped := by
  unfold Context.finished
  rw [h]

variable {l : Nat}

theorem State.letterwiseLetter_match (h : s.ctx x = c) (here : c.spelling[c.cursor]? = some l) :
    s.letterwiseLetter x l = s.advanceCursor x c (if c.echo then [.say x .echo (s.letterClips (some l))] else []) := by
  obtain ⟨inside, -⟩ := List.getElem?_eq_some_iff.1 here
  rw [State.letterwiseLetter, h, if_neg (Nat.not_le_of_lt inside), if_pos here]

/-- A wrong letter is counted and classified (R35). -/
def Context.wrong (c : Context) (l : Nat) : Context :=
  { c with wrongHere := c.wrongHere + 1, wrongTotal := min (c.wrongTotal + 1) 255,
           lastMistake := some (classifyLetter c.spelling c.cursor l) }

/-- The letter after the last miss allowed is filled in (R35). -/
def Context.filled (c : Context) (l : Nat) : Context := { c.wrong l with autofills := c.autofills + 1 }

theorem State.letterwiseLetter_wrong (h : s.ctx x = c) (inside : c.cursor < c.spelling.length)
    (other : c.spelling[c.cursor]? ≠ some l) :
    (c.wrongHere + 1 < s.cfg.letterMissLimit →
      s.letterwiseLetter x l = (s.setCtx x (c.wrong l), [s.sayCue x .buzz])) ∧
    (s.cfg.letterMissLimit ≤ c.wrongHere + 1 →
      s.letterwiseLetter x l = s.advanceCursor x (c.filled l)
        [s.sayCue x .buzz, s.sayLetter x c.spelling[c.cursor]?]) := by
  rw [State.letterwiseLetter, h, if_neg (Nat.not_le_of_lt inside), if_neg other]
  exact ⟨fun below => if_neg (Nat.not_le_of_lt below), fun limit => if_pos limit⟩

/-- The cursor moves past a letter (R35). -/
def Context.moved (c : Context) : Context := { c with cursor := c.cursor + 1, wrongHere := 0 }

theorem State.advanceCursor_eq (said : List Task) :
    (c.cursor + 1 < c.spelling.length →
      s.advanceCursor x c said = (s.setCtx x c.moved, said)) ∧
    (c.cursor + 1 = c.spelling.length →
      s.advanceCursor x c said = (s.setCtx x c.moved,
        said ++ [.endSolo x c.moved.finished])) := by
  unfold State.advanceCursor
  exact ⟨fun more => congrArg _ (if_neg (Nat.ne_of_lt more)), fun last => congrArg _ (if_pos last)⟩

theorem State.handleKey_letterwise (h : s.ctx x = c) (style : c.style = .letterwise) :
    s.handleKey x (.letter l) = s.letterwiseLetter x l ∧ s.handleKey x .hint = s.letterwiseHint x ∧
    s.handleKey x .enter = (s, [s.sayCue x .bump]) ∧ s.handleKey x .back = (s, [s.sayCue x .bump]) := by
  unfold State.handleKey
  rw [h, style]
  exact ⟨rfl, rfl, rfl, rfl⟩

theorem State.handleKey_wordwise (h : s.ctx x = c) (style : c.style = .wordwise) :
    s.handleKey x (.letter l) = s.wordwiseLetter x l ∧ s.handleKey x .hint = s.wordwiseHint x ∧
    s.handleKey x .enter = s.wordwiseEnter x ∧ s.handleKey x .back = s.wordwiseBack x := by
  unfold State.handleKey
  rw [h, style]
  exact ⟨rfl, rfl, rfl, rfl⟩

/-- What is said of a matched letter ends no attempt. -/
theorem echo_goesOn (b : Bool) (clips : List Nat) :
    (if b then [Task.say x .echo clips] else []).any Task.endsAttempt = false := by
  cases b <;> rfl

/-- A LETTER key that matches (R35). -/
theorem State.judgeKey_match (h : s.ctx x = c) (typing : c.state = .typing) (style : c.style = .letterwise)
    (here : c.spelling[c.cursor]? = some l) :
    (c.cursor + 1 < c.spelling.length →
      s.judgeKey x (.letter l) = (s.setCtx x
        (c.counted.moved.rewound s.cfg.idleLimit (s.inFlight x)),
        if c.echo then [.say x .echo (s.letterClips (some l))] else [])) ∧
    (c.cursor + 1 = c.spelling.length →
      s.judgeKey x (.letter l) = (s.setCtx x c.counted.moved,
        (if c.echo then [.say x .echo (s.letterClips (some l))] else []) ++
          [.endSolo x (if c.autofills ≠ 0 then .miss
            else if c.wrongTotal = 0 ∧ c.hints = 0 then .correct else .helped)])) := by
  have self := State.ctx_setCtx_self s x c.counted
  have handled := (State.handleKey_letterwise (l := l) self style).1.trans (State.letterwiseLetter_match self here)
  refine ⟨fun more => ?_, fun last => ?_⟩
  · refine State.judgeKey_goesOn h (handled.trans (((State.advanceCursor_eq (c := c.counted) _).1 more).trans ?_)) typing (echo_goesOn _ _)
    rw [State.setCtx_setCtx]
    rfl
  · refine State.judgeKey_leaves h (handled.trans (((State.advanceCursor_eq (c := c.counted) _).2 last).trans ?_)) (.inr ?_)
    · rw [State.setCtx_setCtx,
        Context.finished_letterwise (c := c.counted.moved) style]
      rfl
    · rw [List.any_append]
      simp [Task.endsAttempt]

/-- A LETTER key that does not match (R35). -/
theorem State.judgeKey_wrong (h : s.ctx x = c) (typing : c.state = .typing) (style : c.style = .letterwise)
    (inside : c.cursor < c.spelling.length) (other : c.spelling[c.cursor]? ≠ some l) :
    (c.wrongHere + 1 < s.cfg.letterMissLimit →
      s.judgeKey x (.letter l) = (s.setCtx x ((c.counted.wrong l).rewound s.cfg.idleLimit (s.inFlight x)),
        [.say x .cue (s.cueClips .buzz)])) ∧
    (s.cfg.letterMissLimit ≤ c.wrongHere + 1 →
      (c.cursor + 1 < c.spelling.length → s.judgeKey x (.letter l) = (s.setCtx x
        ((c.counted.filled l).moved.rewound
          s.cfg.idleLimit (s.inFlight x)),
        [.say x .cue (s.cueClips .buzz), .say x .cue (s.letterClips c.spelling[c.cursor]?)])) ∧
      (c.cursor + 1 = c.spelling.length → s.judgeKey x (.letter l) = (s.setCtx x
        (c.counted.filled l).moved,
        [.say x .cue (s.cueClips .buzz), .say x .cue (s.letterClips c.spelling[c.cursor]?), .endSolo x .miss]))) := by
  have self := State.ctx_setCtx_self s x c.counted
  have handled := (State.handleKey_letterwise (l := l) self style).1
  have ⟨below, limit⟩ := State.letterwiseLetter_wrong self inside other
  refine ⟨fun few => ?_, fun many => ⟨fun more => ?_, fun last => ?_⟩⟩
  · refine State.judgeKey_goesOn h (handled.trans ((below few).trans ?_)) typing rfl
    rw [State.setCtx_setCtx]
    rfl
  · refine State.judgeKey_goesOn h (handled.trans ((limit many).trans
      (((State.advanceCursor_eq (c := c.counted.filled l) _).1 more).trans ?_)))
      typing rfl
    rw [State.setCtx_setCtx]
    rfl
  · refine State.judgeKey_leaves h (handled.trans ((limit many).trans
      (((State.advanceCursor_eq (c := c.counted.filled l) _).2 last).trans ?_)))
      (.inr rfl)
    rw [State.setCtx_setCtx, Context.finished_letterwise (c := (c.counted.filled l).moved) style,
      if_pos (show (c.counted.filled l).moved.autofills ≠ 0 from Nat.succ_ne_zero _)]
    rfl

/-- HINT in LETTERWISE style (R36). -/
theorem State.judgeKey_letterwiseHint (h : s.ctx x = c) (typing : c.state = .typing) (style : c.style = .letterwise) :
    s.judgeKey x .hint = (s.setCtx x
      ({ c.counted with hints := min (c.hints + 1) 15 }.rewound s.cfg.idleLimit (s.inFlight x)),
      [.say x .cue (s.letterClips c.spelling[c.cursor]?)]) := by
  have self := State.ctx_setCtx_self s x c.counted
  refine State.judgeKey_goesOn h ((State.handleKey_letterwise (l := 0) self style).2.1.trans ?_) typing rfl
  rw [State.letterwiseHint, self, State.setCtx_setCtx]
  rfl

/-- A key that has no effect but the bump (R35, R37, R38, R39). -/
theorem State.judgeKey_bump {key : KeyCode} (h : s.ctx x = c) (typing : c.state = .typing)
    (handled : (s.setCtx x c.counted).handleKey x key = (s.setCtx x c.counted, [(s.setCtx x c.counted).sayCue x .bump])) :
    s.judgeKey x key = (s.setCtx x (c.counted.rewound s.cfg.idleLimit (s.inFlight x)),
      [.say x .cue (s.cueClips .bump)]) := State.judgeKey_goesOn h handled typing rfl

/-! WORDWISE (R37 to R39). -/

/-- A LETTER key in WORDWISE style (R37). -/
theorem State.judgeKey_wordwiseLetter (h : s.ctx x = c) (typing : c.state = .typing) (style : c.style = .wordwise) :
    (c.typed.length < 16 → s.judgeKey x (.letter l) = (s.setCtx x
      ({ c.counted with typed := c.typed ++ [l] }.rewound s.cfg.idleLimit (s.inFlight x)),
      if c.echo then [.say x .echo (s.letterClips (some l))] else [])) ∧
    (16 ≤ c.typed.length → s.judgeKey x (.letter l) = (s.setCtx x (c.counted.rewound s.cfg.idleLimit (s.inFlight x)),
      [.say x .cue (s.cueClips .bump)])) := by
  have self := State.ctx_setCtx_self s x c.counted
  have handled := (State.handleKey_wordwise (l := l) self style).1
  refine ⟨fun room => ?_, fun full => State.judgeKey_bump h typing (handled.trans ?_)⟩
  · refine State.judgeKey_goesOn h (handled.trans ?_) typing (echo_goesOn _ _)
    rw [State.wordwiseLetter, self, if_pos (by exact room), State.setCtx_setCtx]
    rfl
  · rw [State.wordwiseLetter, self, if_neg (by exact Nat.not_lt_of_le full)]

/-- BACK in WORDWISE style (R37). -/
theorem State.judgeKey_wordwiseBack (h : s.ctx x = c) (typing : c.state = .typing) (style : c.style = .wordwise) :
    (c.typed = [] → s.judgeKey x .back = (s.setCtx x (c.counted.rewound s.cfg.idleLimit (s.inFlight x)),
      [.say x .cue (s.cueClips .bump)])) ∧
    (c.typed ≠ [] → s.judgeKey x .back = (s.setCtx x
      ({ c.counted with typed := c.typed.dropLast }.rewound s.cfg.idleLimit (s.inFlight x)), [])) := by
  have self := State.ctx_setCtx_self s x c.counted
  have handled := (State.handleKey_wordwise (l := 0) self style).2.2.2
  refine ⟨fun empty => State.judgeKey_bump h typing (handled.trans ?_), fun some' => ?_⟩
  · rw [State.wordwiseBack, self, if_pos (by exact List.isEmpty_iff.2 empty)]
  · refine State.judgeKey_goesOn h (handled.trans ?_) typing rfl
    rw [State.wordwiseBack, self, if_neg (by exact fun e => some' (List.isEmpty_iff.1 e)), State.setCtx_setCtx]
    rfl

/-- A submission is counted, and an UNEQUAL one classified (R38). -/
def Context.submitted (c : Context) : Context :=
  { c with
    tries := c.tries + 1
    wrongTotal := if c.typed = c.spelling then c.wrongTotal else min (c.wrongTotal + 1) 255
    lastMistake := if c.typed = c.spelling then c.lastMistake else some (classifyWord c.spelling c.typed) }

theorem Context.submitted_equal (h : c.typed = c.spelling) : c.submitted = { c with tries := c.tries + 1 } := by
  unfold Context.submitted
  rw [if_pos h, if_pos h]

theorem Context.submitted_unequal (h : c.typed ≠ c.spelling) : c.submitted = { c with
    tries := c.tries + 1, wrongTotal := min (c.wrongTotal + 1) 255
    lastMistake := some (classifyWord c.spelling c.typed) } := by
  unfold Context.submitted
  rw [if_neg h, if_neg h]

/-- ENTER in WORDWISE style, by the mode and the submission (R38, R80). -/
theorem State.wordwiseEnter_eq (h : s.ctx x = c) (some' : c.typed ≠ []) :
    (c.mode = .duel → s.wordwiseEnter x = (s.handJudgement x c.submitted (decide (c.typed = c.spelling)), [])) ∧
    (c.mode ≠ .duel → c.typed = c.spelling →
      s.wordwiseEnter x = (s.setCtx x c.submitted, [.endSolo x c.submitted.finished])) ∧
    (c.mode ≠ .duel → c.typed ≠ c.spelling → c.tries + 1 < s.cfg.tryLimit →
      s.wordwiseEnter x = (s.setCtx x { c.submitted with typed := [] }, [s.sayCue x .tryAgain])) ∧
    (c.mode ≠ .duel → c.typed ≠ c.spelling → s.cfg.tryLimit ≤ c.tries + 1 →
      s.wordwiseEnter x = (s.setCtx x c.submitted, [.endSolo x .miss])) := by
  have typed : ¬ c.typed.isEmpty = true := fun e => some' (List.isEmpty_iff.1 e)
  unfold State.wordwiseEnter
  rw [h]
  dsimp only
  rw [if_neg typed]
  by_cases equal : c.typed = c.spelling
  · simp only [equal, decide_true, if_true, Context.submitted_equal equal]
    refine ⟨fun duel => if_pos duel, fun solo _ => if_neg solo, fun _ no => absurd rfl no, fun _ no => absurd rfl no⟩
  · simp only [equal, decide_false, Bool.false_eq_true, if_false, Context.submitted_unequal equal]
    refine ⟨fun duel => if_pos duel, fun _ no => no.elim, fun solo _ below => ?_, fun solo _ limit => ?_⟩
    · exact (if_neg solo).trans (if_pos below)
    · exact (if_neg solo).trans (if_neg (Nat.not_lt_of_le limit))

/-- ENTER in WORDWISE style (R38). -/
theorem State.judgeKey_enter (h : s.ctx x = c) (typing : c.state = .typing) (style : c.style = .wordwise) :
    (c.typed = [] → s.judgeKey x .enter = (s.setCtx x (c.counted.rewound s.cfg.idleLimit (s.inFlight x)),
      [.say x .cue (s.cueClips .bump)])) ∧
    (c.typed ≠ [] → c.mode ≠ .duel → c.typed = c.spelling →
      s.judgeKey x .enter = (s.setCtx x { c.counted with tries := c.tries + 1 },
        [.endSolo x (if c.tries = 0 ∧ c.hints = 0 then .correct else .helped)])) ∧
    (c.typed ≠ [] → c.mode ≠ .duel → c.typed ≠ c.spelling → c.tries + 1 < s.cfg.tryLimit →
      s.judgeKey x .enter = (s.setCtx x ({ c.counted.submitted with typed := [] }.rewound s.cfg.idleLimit (s.inFlight x)),
        [.say x .cue (s.cueClips .tryAgain)])) ∧
    (c.typed ≠ [] → c.mode ≠ .duel → c.typed ≠ c.spelling → s.cfg.tryLimit ≤ c.tries + 1 →
      s.judgeKey x .enter = (s.setCtx x c.counted.submitted, [.endSolo x .miss])) := by
  have self := State.ctx_setCtx_self s x c.counted
  have handled := (State.handleKey_wordwise (l := 0) self style).2.2.1
  refine ⟨fun empty => State.judgeKey_bump h typing (handled.trans ?_), fun some' solo equal => ?_,
    fun some' solo unequal below => ?_, fun some' solo unequal limit => ?_⟩
  · rw [State.wordwiseEnter, self]
    exact if_pos (List.isEmpty_iff.2 empty)
  all_goals have ⟨_, correct, again, missed⟩ := State.wordwiseEnter_eq self some'
  · refine State.judgeKey_leaves h (handled.trans ((correct solo equal).trans ?_)) (.inr rfl)
    rw [State.setCtx_setCtx, Context.finished_wordwise (c := c.counted.submitted) style,
      Context.submitted_equal (c := c.counted) equal]
    simp [Context.counted]
  · refine State.judgeKey_goesOn h (handled.trans ((again solo unequal below).trans ?_)) typing rfl
    rw [State.setCtx_setCtx]
    rfl
  · refine State.judgeKey_leaves h (handled.trans ((missed solo unequal limit).trans ?_)) (.inr rfl)
    rw [State.setCtx_setCtx]

theorem afterKey_typing {t : State} {tasks : List Task} (typing : (t.ctx x).state = .typing)
    (goesOn : tasks.any Task.endsAttempt = false) : afterKey x (t, tasks) = (t.restartIdle x, tasks) :=
  if_pos ⟨typing, goesOn⟩

/-- ENTER in mode DUEL hands the submission to DC and stops the idle timer (R80). -/
theorem State.judgeKey_submit (h : s.ctx x = c) (typing : c.state = .typing) (style : c.style = .wordwise)
    (some' : c.typed ≠ []) (duel : c.mode = .duel) : ∃ t : State, s.judgeKey x .enter = (t, []) ∧
      t.ctx x = { c.counted.submitted with idleTimer := s.cfg.idleLimit, idleRunning := false } ∧
      t.ctx x.other = s.ctx x.other ∧
      { t with ae := s.ae } = { s with dc := { s.dc with judgements := s.dc.judgements.set x (some
        ⟨s.dc.round, decide (c.typed = c.spelling), decide (s.cfg.tryLimit ≤ c.tries + 1),
          c.submitted.lastMistake, true⟩) } } := by
  have self := State.ctx_setCtx_self s x c.counted
  have handled : (s.setCtx x c.counted).handleKey x .enter = _ :=
    (State.handleKey_wordwise (l := 0) self style).2.2.1.trans ((State.wordwiseEnter_eq self some').1 duel)
  have after : ∀ u : State, u = (s.setCtx x c.counted).handJudgement x c.counted.submitted (decide (c.typed = c.spelling)) →
      u.ctx x = { c.counted.submitted with idleRunning := false } ∧ u.inFlight x = true ∧
      u.ctx x.other = s.ctx x.other ∧ u.cfg = s.cfg ∧ { u with ae := s.ae } = { s with dc := { s.dc with
        judgements := s.dc.judgements.set x (some ⟨s.dc.round, decide (c.typed = c.spelling),
          decide (s.cfg.tryLimit ≤ c.tries + 1), c.submitted.lastMistake, true⟩) } } := by
    rintro _ rfl
    cases x <;> exact ⟨rfl, rfl, rfl, rfl, rfl⟩
  obtain ⟨u, hu⟩ : ∃ u, u = (s.setCtx x c.counted).handJudgement x c.counted.submitted (decide (c.typed = c.spelling)) :=
    ⟨_, rfl⟩
  obtain ⟨ctx, inFlight, other, cfg, rest⟩ := after u hu
  have handed : (s.setCtx x c.counted).handleKey x .enter = (u, []) := hu ▸ handled
  refine ⟨u.restartIdle x, ?_, ?_, ?_, rest⟩
  · rw [State.judgeKey, State.consumeKey_eq h, handed]
    exact afterKey_typing (by rw [ctx]; exact typing) rfl
  · rw [State.restartIdle, State.ctx_setCtx_self, ctx, inFlight, cfg]
    rfl
  · rw [State.restartIdle, State.ctx_setCtx_other, other]

theorem State.hintClips_eq (copy : c.copy = some k) : s.hintClips c = s.built k.hintClip := by
  rw [State.hintClips, copy]

theorem State.built_ready {id : Nat} (ready : s.clipReady id = true) : s.built (some id) = [id] := if_pos ready

theorem State.built_unready {r : Option Nat} (unready : ∀ id, r = some id → s.clipReady id = false) : s.built r = [] := by
  cases r with
  | none => rfl
  | some id => exact if_neg (by simp [unready id rfl])

/-- HINT in WORDWISE style (R39). -/
theorem State.judgeKey_wordwiseHint (h : s.ctx x = c) (typing : c.state = .typing) (style : c.style = .wordwise)
    (copy : c.copy = some k) :
    (∀ id, k.hintClip = some id → s.clipReady id = true →
      s.judgeKey x .hint = (s.setCtx x
        ({ c.counted with hints := min (c.hints + 1) 15 }.rewound s.cfg.idleLimit (s.inFlight x)), [.say x .cue [id]])) ∧
    ((∀ id, k.hintClip = some id → s.clipReady id = false) →
      (c.hintPosition < c.spelling.length → s.judgeKey x .hint = (s.setCtx x
        ({ c.counted with hints := min (c.hints + 1) 15 }.rewound s.cfg.idleLimit (s.inFlight x)),
        [.say x .cue (s.letterClips c.spelling[c.hintPosition]?)])) ∧
      (c.spelling.length ≤ c.hintPosition →
        s.judgeKey x .hint = (s.setCtx x (c.counted.rewound s.cfg.idleLimit (s.inFlight x)),
          [.say x .cue (s.cueClips .bump)]))) := by
  have self := State.ctx_setCtx_self s x c.counted
  have handled := (State.handleKey_wordwise (l := 0) self style).2.1
  have clips : (s.setCtx x c.counted).hintClips c.counted = s.built k.hintClip := State.hintClips_eq copy
  refine ⟨fun id hint ready => ?_, fun unready => ⟨fun inside => ?_, fun past => ?_⟩⟩
  · refine State.judgeKey_goesOn h (handled.trans ?_) typing rfl
    rw [State.wordwiseHint, self]
    dsimp only
    rw [clips, hint, State.built_ready ready, if_pos (List.cons_ne_nil _ _), State.setCtx_setCtx]
    rfl
  all_goals rw [State.built_unready unready] at clips
  · refine State.judgeKey_goesOn h (handled.trans ?_) typing rfl
    rw [State.wordwiseHint, self]
    dsimp only
    rw [clips, if_neg (by simp), if_pos (by exact inside), State.setCtx_setCtx]
    rfl
  · refine State.judgeKey_bump h typing (handled.trans ?_)
    rw [State.wordwiseHint, self]
    rw [clips, if_neg (by simp), if_neg (by exact Nat.not_lt_of_le past)]

end Styles

/-- Which key a context takes from its queue, and what it does with it (R25, R26, R34). -/
theorem takesKeysByState {s : State} {x : Seat} {c : Context} {k : KeyCode} {ks : List KeyCode} {taken : State}
    (h : s.ctx x = c) (queue : (s.seat x).keys = k :: ks) (takes : taken = s.setSeat x { s.seat x with keys := ks }) :
    (c.state = .idle ∨ c.state = .feedback ∨ c.state = .done → s.takeKey x = (taken, [.takeKeys x])) ∧
    (c.state = .waitingLog ∨ c.state = .paused → s.takeKey x = (s, [])) ∧
    (c.state = .typing → s.inFlight x = false → s.takeKey x = (taken, [.judge x k, .takeKeys x])) ∧
    (c.state = .typing → s.inFlight x = true → s.takeKey x = (s, [])) ∧
    (c.state = .prompting → c.mode = .duel → s.takeKey x = (taken, [.takeKeys x])) ∧
    (c.state = .prompting → c.mode ≠ .duel → c.bargeIn = false → s.takeKey x = (s, [])) ∧
    (c.state = .prompting → c.mode ≠ .duel → c.bargeIn = true → k = .again → s.takeKey x = (taken, [.takeKeys x])) ∧
    (c.state = .prompting → c.mode ≠ .duel → c.bargeIn = true → k ≠ .again →
      s.takeKey x = (taken.bargeIn x, [.arbitrate, .judge x k, .takeKeys x])) := by
  obtain ⟨keep, discard, judged, cut⟩ := State.takeKey_eq queue
  rw [State.dropKey_eq queue, ← takes] at discard judged cut
  refine ⟨fun st => discard ?_, fun st => keep ?_, fun st free => judged ?_, fun st busy => keep ?_,
    fun st duel => discard ?_, fun st solo quiet => keep ?_, fun st solo loud again => discard ?_,
    fun st solo loud other => cut ?_⟩
  all_goals
    unfold State.keyTake
    simp_all
  · obtain st | st | st := st <;> simp [st]
  · obtain st | st := st <;> simp [st]

theorem mode_solo_ne_duel {c : Context} (h : c.mode = .solo) : c.mode ≠ .duel := by
  rw [h]
  decide

/-- What a key that cuts the prompt short leaves (R34). -/
theorem State.bargeIn_leaves {s : State} {x : Seat} {c : Context} (h : s.ctx x = c) (prompting : c.state = .prompting) :
    (s.bargeIn x).seat x = s.seat x ∧
    (s.bargeIn x).ctx x = { c with firm := none }.prompted s.cfg.idleLimit s.tb.counter (s.inFlight x) ∧
    (∀ u, u ∈ (s.bargeIn x).allPlaying ++ (s.bargeIn x).allWaiting ↔
      u ∈ s.allPlaying ++ s.allWaiting ∧ c.firm ≠ some u.handle) ∧
    (s.bargeIn x).ctx x.other = s.ctx x.other ∧ (s.bargeIn x).dc = s.dc ∧ (s.bargeIn x).rl = s.rl ∧
    (s.bargeIn x).ps = s.ps ∧ (s.bargeIn x).wt = s.wt ∧ (s.bargeIn x).fb = s.fb ∧ (s.bargeIn x).fixed = s.fixed := by
  have only : SpeechOnly s (s.cancelHandle c.firm) := SpeechOnly.cancelHandle s _
  rw [State.bargeIn_eq h prompting]
  refine ⟨?_, State.ctx_setCtx_self _ _ _, s.mem_cancelHandle c.firm, ?_, only.dc, only.rl, only.ps, only.wt, only.fb,
    s.fixed_cancelHandle c.firm⟩
  · exact congrArg (fun ks => ks.seats.get x) only.ks
  · rw [State.ctx_setCtx_other]
    exact congrArg (·.get x.other) only.ae

/-- Settles O19: the key at the head goes by the context's state, and a key judged by its style. -/
theorem keysAreJudgedByStyle : Obligations.KeysAreJudgedByStyle := by
  refine ⟨fun s x c k ks taken h queue takes => ?_, fun s x c d k l h typing copy hd => ?_⟩
  · obtain ⟨discard, keep, judged, flight, duel, quiet, again, cut⟩ := takesKeysByState h queue takes
    refine ⟨fun thawed => ?_, discard, keep, judged, flight, duel, quiet, again, fun st solo loud other => ?_⟩
    · rw [runTask, if_neg (by simp [thawed])]
      rfl
    · have h' : taken.ctx x = c := by rw [takes]; exact h
      obtain ⟨seat, ctx, speech, rest⟩ := State.bargeIn_leaves h' st
      refine ⟨taken.bargeIn x, cut st solo loud other, seat, ?_, ?_, ?_⟩
      · rw [ctx, takes]
        unfold Context.prompted
        cases c.startTick <;> rfl
      · rw [takes] at speech ⊢
        exact speech
      · obtain ⟨ctx', dc, rl, ps, wt, fb, fixed⟩ := rest
        rw [takes] at ctx' dc rl ps wt fb fixed ⊢
        refine ⟨ctx', dc, rl, ps, wt, fb, fixed.trans ?_⟩
        rw [← State.dropKey_eq queue, State.fixed_dropKey]
  have spelling := Context.spelling_of_copy copy
  obtain rfl : d = c.counted.rewound s.cfg.idleLimit (s.inFlight x) := hd
  obtain ⟨again, bump⟩ := State.judgeKey_again h typing copy
  refine ⟨again, bump, fun style => ?_, fun style => ?_⟩
  · have bumped : ∀ key, (s.setCtx x c.counted).handleKey x key = _ → _ := fun key => State.judgeKey_bump (key := key) h typing
    have ⟨_, _, enter, back⟩ := State.handleKey_letterwise (l := 0) (State.ctx_setCtx_self s x c.counted) style
    refine ⟨fun here more => ?_, fun here last => ?_, fun inside other below => ?_,
      fun inside other limit => ⟨fun more => ?_, fun last => ?_⟩,
      ?_, bumped _ enter, bumped _ back⟩
    · exact (State.judgeKey_match h typing style (spelling ▸ here)).1 (spelling ▸ more)
    · exact (State.judgeKey_match h typing style (spelling ▸ here)).2 (spelling ▸ last)
    · rw [← spelling] at inside other ⊢
      exact (State.judgeKey_wrong h typing style inside other).1 below
    · rw [← spelling] at inside other more ⊢
      exact ((State.judgeKey_wrong h typing style inside other).2 limit).1 more
    · rw [← spelling] at inside other last ⊢
      exact ((State.judgeKey_wrong h typing style inside other).2 limit).2 last
    · rw [← spelling]
      exact State.judgeKey_letterwiseHint h typing style
  · obtain ⟨room, full⟩ := State.judgeKey_wordwiseLetter (l := l) h typing style
    obtain ⟨backEmpty, back⟩ := State.judgeKey_wordwiseBack h typing style
    obtain ⟨enterEmpty, equal, below, limit⟩ := State.judgeKey_enter h typing style
    obtain ⟨hint, noHint⟩ := State.judgeKey_wordwiseHint h typing style copy
    rw [← spelling]
    refine ⟨room, full, fun empty => ⟨backEmpty empty, enterEmpty empty⟩, back,
      fun some' solo same => equal some' (mode_solo_ne_duel solo) same, fun some' solo other few => ?_,
      fun some' solo other many => ?_, fun some' duel => ?_, hint, fun p unready mistake none => ?_⟩
    · rw [below some' (mode_solo_ne_duel solo) other few, Context.submitted_unequal (c := c.counted) other]
      rfl
    · rw [limit some' (mode_solo_ne_duel solo) other many, Context.submitted_unequal (c := c.counted) other]
      rfl
    · exact State.judgeKey_submit h typing style some' duel
    · have position : c.hintPosition = p := by
        cases last : c.lastMistake with
        | some m => rw [mistake m last, Context.hintPosition, last]
        | none =>
          obtain ⟨inTyped, inSpelling, same, leaves⟩ := none last
          rw [Context.hintPosition, last]
          exact firstDeparture_eq inTyped inSpelling same leaves
      rw [← position]
      exact noHint unready

end Sys2Proof.Machine
end

section
/-! Cascades followed to their end: what a list of tasks leads to, task by task, with a bound on the steps. -/

namespace Sys2Proof.Machine

/-! ### What tasks lead to -/

/-- The tasks lead from `s` to `t` in at most `k` steps, whatever tasks stand behind them. -/
def Leads (k : Nat) (s : State) (ts : List Task) (t : State) : Prop :=
  ∃ j, j ≤ k ∧ ∀ n us, drain (n + j) (ts ++ us) s = drain n us t

theorem Leads.nil (s : State) : Leads 0 s [] s := ⟨0, Nat.le_refl 0, fun _ _ => rfl⟩

theorem Leads.append {k m : Nat} {s t u : State} {ts us : List Task} (h : Leads k s ts t) (g : Leads m t us u) :
    Leads (k + m) s (ts ++ us) u := by
  obtain ⟨i, hi, here⟩ := h
  obtain ⟨j, hj, rest⟩ := g
  refine ⟨j + i, by omega, fun n ws => ?_⟩
  rw [List.append_assoc, ← Nat.add_assoc, here, rest]

theorem Leads.cons {k m : Nat} {s t u : State} {task : Task} {ts : List Task} (h : Leads k s [task] t)
    (g : Leads m t ts u) : Leads (k + m) s (task :: ts) u := h.append g

/-- A task leads where the tasks it gives lead. -/
theorem Leads.task {k : Nat} {s t u : State} {task : Task} {more : List Task} (h : runTask task s = (t, more))
    (g : Leads k t more u) : Leads (k + 1) s [task] u := by
  obtain ⟨j, hj, rest⟩ := g
  refine ⟨j + 1, by omega, fun n ws => ?_⟩
  rw [← Nat.add_assoc, List.singleton_append, drain_cons, h]
  exact rest n ws

/-- What tasks lead to is what carrying them out gives. -/
theorem Leads.carryOut {k : Nat} {s t : State} {ts : List Task} (h : Leads k s ts t) (few : k ≤ Config.cascade) :
    s.carryOut ts = t := by
  obtain ⟨j, hj, drains⟩ := h
  have whole := drains (Config.cascade - j) []
  rw [Nat.sub_add_cancel (Nat.le_trans hj few), List.append_nil, drain_nil] at whole
  exact whole

theorem Leads.of_drain {j : Nat} {s t : State} {task : Task} (h : ∀ n us, drain (n + j) (task :: us) s = drain n us t) :
    Leads j s [task] t := ⟨j, Nat.le_refl j, h⟩

/-- Out of the freeze every task acts (R56, R93). -/
theorem runTask_thawed {s : State} (h : s.fb.frozen = false) (task : Task) : runTask task s = runLessonTask task s := by
  rw [runTask, if_neg (by simp [h])]

/-- The arbiter acts in the freeze too (R197). -/
theorem runTask_arbitrate (s : State) : runTask .arbitrate s = s.arbitrate := by
  rw [runTask, if_neg (by simp [Task.ofSpeech])]
  rfl

/-- A task that acts and gives further tasks. -/
theorem Leads.acts {k : Nat} {s t u : State} {task : Task} {more : List Task} (thawed : s.fb.frozen = false)
    (h : runLessonTask task s = (t, more)) (g : Leads k t more u) : Leads (k + 1) s [task] u :=
  .task ((runTask_thawed thawed task).trans h) g

/-- A task that acts and gives no further task. -/
theorem Leads.ends {s t : State} {task : Task} (thawed : s.fb.frozen = false) (h : runLessonTask task s = (t, [])) :
    Leads 1 s [task] t := .acts thawed h (.nil t)

/-! ### Quiet speech -/

theorem Leads.arbitrate_quiet {s : State} (h : s.speechQuiet) : Leads 1 s [.arbitrate] s :=
  .of_drain fun n us => drain_arbitrate_quiet h n us

theorem State.speechQuiet_congr {s t : State} (h : s.speechQuiet) (same : t.se = s.se) : t.speechQuiet := by
  rw [speechQuiet_iff, same, ← speechQuiet_iff]
  exact h

theorem State.au_pinAll : ∀ (clips : List Nat) (s : State), (s.pinAll clips).au = s.au
  | [], _ => rfl
  | id :: clips, s => by
    refine (State.au_pinAll clips (s.pin id)).trans ?_
    unfold State.pin
    split
    · exact s.au_setClip id _
    · rfl

/-- Pinning changes the clips alone. -/
theorem State.pinAll_only (clips : List Nat) (s : State) : s.pinAll clips = { s with cs := (s.pinAll clips).cs } := by
  have only : s.pinAll clips = { s with
    se := (s.pinAll clips).se, cs := (s.pinAll clips).cs, au := (s.pinAll clips).au } := SpeechOnly.pinAll clips s
  rw [pinAll_se, State.au_pinAll] at only
  exact only

/-- SE after an utterance of a seat or the duel has started on voice V0 in quiet speech. -/
def State.speaking (s : State) (r : Requester) (cls : SpeechClass) (clips : List Nat) : Speech :=
  { s.se with
    v0 := some ⟨⟨s.freeHandle, r, cls, s.routeOf r, clips⟩, 0, 0, 0⟩
    lastHandle := s.freeHandle
    startOrder := s.se.startOrder.erase r ++ [r] }

/-- The state in which the firm utterance of a context plays on voice V0. -/
def State.seatSpeaks (s : State) (x : Seat) (cls : SpeechClass) (clips : List Nat) : State :=
  { s.setCtx x { s.ctx x with firm := some s.freeHandle } with
    se := s.speaking (.seat x) cls clips
    cs := (s.pinAll clips).cs }

/-- The state in which the firm utterance of the duel plays on voice V0. -/
def State.duelSpeaks (s : State) (cls : SpeechClass) (clips : List Nat) : State :=
  { s with
    dc := { s.dc with firm := some s.freeHandle }
    se := s.speaking .duel cls clips
    cs := (s.pinAll clips).cs }

theorem Leads.firm {s : State} {x : Seat} {cls : SpeechClass} {clips : List Nat} (quiet : s.speechQuiet)
    (thawed : s.fb.frozen = false) (some' : clips ≠ []) (ready : clips.all s.clipReady = true) :
    Leads 3 s [.firm x cls clips] (s.seatSpeaks x cls clips) := by
  have spoken : (s.spoken (.seat x) cls (s.seatRoute x) clips).setCtx x { s.ctx x with firm := some s.freeHandle } =
      s.seatSpeaks x cls clips := by
    rw [State.spoken, State.pinAll_only]
    rfl
  refine .of_drain fun n us => ?_
  rw [← spoken]
  exact drain_firm_quiet quiet thawed x cls some' ready n us

theorem Leads.duelFirm {s : State} {cls : SpeechClass} {clips : List Nat} (quiet : s.speechQuiet)
    (thawed : s.fb.frozen = false) (some' : clips ≠ []) (ready : clips.all s.clipReady = true) :
    Leads 3 s [.duelFirm cls clips] (s.duelSpeaks cls clips) := by
  have spoken : { s.spoken .duel cls (s.routeOf .duel) clips with dc := { s.dc with firm := some s.freeHandle } } =
      s.duelSpeaks cls clips := by
    rw [State.spoken, State.pinAll_only]
    rfl
  refine .of_drain fun n us => ?_
  rw [← spoken]
  exact drain_duelFirm_quiet quiet thawed cls some' ready n us

/-! ### Keys -/

theorem Leads.noKeys {s : State} {x : Seat} (h : (s.seat x).keys = []) : Leads 1 s [.takeKeys x] s :=
  .of_drain fun n us => drain_takeKeys_empty h n us

/-- A context that discards keys empties its queue (R25, R26). -/
def State.discardsKeys (s : State) (x : Seat) : Prop :=
  (s.ctx x).state = .idle ∨ (s.ctx x).state = .feedback ∨ (s.ctx x).state = .done ∨
    ((s.ctx x).state = .prompting ∧ (s.ctx x).mode = .duel)

theorem State.takeKey_discards {s : State} {x : Seat} (h : s.discardsKeys x) {key : KeyCode} {keys : List KeyCode}
    (queue : (s.seat x).keys = key :: keys) : s.takeKey x = (s.dropKey x, [.takeKeys x]) := by
  obtain ⟨discard, -, -, -, duel, -⟩ := takesKeysByState rfl queue (State.dropKey_eq queue)
  obtain st | st | st | ⟨st, mode⟩ := h
  · exact discard (.inl st)
  · exact discard (.inr (.inl st))
  · exact discard (.inr (.inr st))
  · exact duel st mode

theorem State.clearKeys_of_empty {s : State} {x : Seat} (h : (s.seat x).keys = []) : s.clearKeys x = s := by
  unfold State.clearKeys
  rw [← h]
  cases x <;> rfl

theorem State.clearKeys_dropKey (s : State) (x : Seat) : (s.dropKey x).clearKeys x = s.clearKeys x := by
  unfold State.clearKeys State.dropKey
  rw [State.seat_setSeat_self, State.setSeat_setSeat]

theorem Leads.discards {x : Seat} : ∀ (keys : List KeyCode) {s : State}, (s.seat x).keys = keys → s.fb.frozen = false →
    s.discardsKeys x → Leads (keys.length + 1) s [.takeKeys x] (s.clearKeys x)
  | [], s, queue, _, _ => by
    rw [State.clearKeys_of_empty queue]
    exact .noKeys queue
  | key :: keys, s, queue, thawed, h => by
    have dropped : ((s.dropKey x).seat x).keys = keys := by
      rw [State.dropKey_eq queue, State.seat_setSeat_self]
    refine .acts thawed (s.takeKey_discards h queue) ?_
    rw [← State.clearKeys_dropKey]
    exact Leads.discards keys dropped thawed h

/-- With no more keys than a queue holds, within a fixed number of steps. -/
theorem Leads.discardsAll {s : State} {x : Seat} (few : (s.seat x).keys.length ≤ 16) (thawed : s.fb.frozen = false)
    (h : s.discardsKeys x) : Leads 17 s [.takeKeys x] (s.clearKeys x) := by
  obtain ⟨j, hj, drains⟩ := Leads.discards _ rfl thawed h
  exact ⟨j, by omega, drains⟩

end Sys2Proof.Machine
end

section
/-! Solo practice: pausing, resuming, the nudge, skipping and stopping (R48 to R51). -/

namespace Sys2Proof.Machine

/-! ### Requests of a seat -/

theorem exec_forSeat {c : Instr} {v : Byte} {x : Seat} {owner : Seat → State → Answer} {s t : State} {st : Status}
    {contents : List Byte} (hc : c.isRequest = true) (owned : requestOwner c s = forSeat v owner s)
    (taken : s.takes c) (seat : seatOf v = some x) (h : owner x s = (t, st, contents)) :
    exec c s = .next (t.replied c st contents) :=
  exec_answer hc taken (owned.trans ((forSeat_of_seat seat owner s).trans h))

/-! ### What speech of a seat leaves -/

section SeatSpeaks

variable (s : State) (x : Seat) (cls : SpeechClass) (clips : List Nat)

@[simp] theorem State.ctx_seatSpeaks_self : (s.seatSpeaks x cls clips).ctx x = { s.ctx x with firm := some s.freeHandle } :=
  State.ctx_setCtx_self s x _

@[simp] theorem State.ctx_seatSpeaks_other : (s.seatSpeaks x cls clips).ctx x.other = s.ctx x.other :=
  State.ctx_setCtx_other s x _

theorem State.allWaiting_seatSpeaks (quiet : s.speechQuiet) : (s.seatSpeaks x cls clips).allWaiting = [] := quiet.2

theorem State.v1_seatSpeaks (quiet : s.speechQuiet) : (s.seatSpeaks x cls clips).se.v1 = none :=
  ((speechQuiet_iff s).1 quiet).2.1

end SeatSpeaks

/-! ### The re-prompt (R40, R41, R49) -/

theorem State.all_ready_one {s : State} {id : Nat} (h : s.clipReady id = true) : [id].all s.clipReady = true := by
  simpa using h

/-- A seat is re-prompted: its context is PROMPTING and the word clip plays on voice V0, nothing else is spoken and nothing
else has changed (R40, R41, R49). -/
def State.rePrompted (t s : State) (x : Seat) (k : TargetCopy) (h : Nat) : Prop :=
  t.ctx x = { s.ctx x with state := .prompting, idleRunning := false, firm := some h } ∧
  t.se.v0 = some ⟨⟨h, .seat x, .prompt, s.seatRoute x, [k.wordClip]⟩, 0, 0, 0⟩ ∧ t.se.v1 = none ∧ t.allWaiting = [] ∧
  t.ctx x.other = s.ctx x.other ∧ t.ps = s.ps ∧ t.wt = s.wt ∧ t.dc = s.dc ∧ t.rl = s.rl ∧ t.fb = s.fb ∧
  t.fixed = s.fixed

/-- A re-prompt in quiet speech with no key queued. -/
theorem State.startRePrompt_leads {s : State} {x : Seat} {k : TargetCopy} (copy : (s.ctx x).copy = some k)
    (ready : s.clipReady k.wordClip = true) (quiet : s.speechQuiet) (keys : (s.seat x).keys = [])
    (thawed : s.fb.frozen = false) :
    ∃ t h, Leads 4 (s.startRePrompt x).1 (s.startRePrompt x).2 t ∧ t.rePrompted s x k h := by
  obtain ⟨u, hu⟩ : ∃ u, u = s.setCtx x { s.ctx x with state := .prompting, idleRunning := false } := ⟨_, rfl⟩
  have begun : s.startRePrompt x = (u, [.firm x .prompt [k.wordClip], .takeKeys x]) := by
    have clips : (s.ctx x).rePrompt = [k.wordClip] := by rw [Context.rePrompt, copy]
    rw [State.startRePrompt, clips, hu]
  have quiet' : u.speechQuiet := State.speechQuiet_congr quiet (by rw [hu]; rfl)
  have ready' : u.clipReady k.wordClip = true := by rwa [hu]
  have thawed' : u.fb.frozen = false := by rwa [hu]
  have keys' : ((u.seatSpeaks x .prompt [k.wordClip]).seat x).keys = [] := by rwa [hu]
  have leads : Leads 4 u [.firm x .prompt [k.wordClip], .takeKeys x] (u.seatSpeaks x .prompt [k.wordClip]) :=
    (Leads.firm quiet' thawed' (List.cons_ne_nil _ _) (State.all_ready_one ready')).cons (.noKeys keys')
  have fixed : (u.seatSpeaks x .prompt [k.wordClip]).fixed = s.fixed := by
    rw [← leads.carryOut (by decide), State.fixed_carryOut, hu]
    rfl
  refine ⟨_, u.freeHandle, by rw [begun]; exact leads, ?_, ?_, State.v1_seatSpeaks _ _ _ _ quiet',
    State.allWaiting_seatSpeaks _ _ _ _ quiet', ?_, ?_, ?_, ?_, ?_, ?_, fixed⟩
  · rw [State.ctx_seatSpeaks_self, hu, State.ctx_setCtx_self]
  · rw [hu]
    rfl
  · rw [State.ctx_seatSpeaks_other, hu, State.ctx_setCtx_other]
  all_goals
    rw [hu]
    rfl

theorem State.readTarget_good {s : State} {n : Nat} {e : WordEntry} (h : s.slot n = .occupied e true) (resumable : Bool) :
    s.readTarget n resumable = (s, some e) := by
  unfold State.readTarget
  rw [h]

/-- A context on a readable target comes back with a re-prompt (R49, R55). -/
theorem State.resumeSolo_leads {s : State} {x : Seat} {n : Nat} {e : WordEntry} {k : TargetCopy}
    (target : (s.ctx x).target = some n) (copy : (s.ctx x).copy = some k) (slot : s.slot n = .occupied e true)
    (ready : s.clipReady k.wordClip = true) (quiet : s.speechQuiet) (keys : (s.seat x).keys = [])
    (thawed : s.fb.frozen = false) : ∃ t h, Leads 4 (s.resumeSolo x).1 (s.resumeSolo x).2 t ∧
      t.rePrompted (s.setCtx x { s.ctx x with pauseCause := none }) x k h := by
  have resumed : s.resumeSolo x = (s.setCtx x { s.ctx x with pauseCause := none }).startRePrompt x := by
    have read := State.readTarget_good (s := s.setCtx x { s.ctx x with pauseCause := none }) slot false
    rw [State.resumeSolo, target]
    dsimp only
    rw [read]
  rw [resumed]
  exact State.startRePrompt_leads (by rw [State.ctx_setCtx_self]; exact copy) ready (State.speechQuiet_congr quiet rfl)
    keys thawed

/-! ### PAUSE_SEAT and RESUME_SEAT -/

/-- Settles O22: a pause cancels the seat's utterances, and a resumption on a readable target is a re-prompt. -/
theorem pauseAndResumeKeepTheAttempt : Obligations.PauseAndResumeKeepTheAttempt := by
  refine ⟨fun s tag seat x taken hx solo state only thawed => ?_,
    fun s tag seat x n e k taken hx normal paused cause target copy slot ready quiet keys thawed => ?_⟩
  · have cancelled := SpeechOnly.cancel (s.pauseSolo x .host) (·.requester == .seat x)
    have silent : ((s.pauseSolo x .host).cancelSeat x).speechQuiet :=
      cancel_everything fun u hu => by simpa using only u hu
    have answer : pauseSeatOwner x s = ((s.pauseSolo x .host).cancelSeat x, .ok, []) := by
      have allowed : (!((s.ctx x).mode == .solo && ((s.ctx x).atWork || (s.ctx x).state == .feedback))) = false := by
        obtain st | st | st := state <;> simp [Context.atWork, solo, st]
      rw [pauseSeatOwner, allowed, State.refuseIf_false, (Leads.arbitrate_quiet silent).carryOut (by decide)]
      rfl
    have ctx : ∀ y, ((s.pauseSolo x .host).cancelSeat x).ctx y = (s.pauseSolo x .host).ctx y := fun y =>
      congrArg (·.get y) cancelled.ae
    refine ⟨_, exec_forSeat rfl rfl taken hx answer, (ctx x).trans (State.ctx_setCtx_self _ _ _), silent,
      (ctx x.other).trans (State.ctx_setCtx_other _ _ _), cancelled.ps, cancelled.wt, cancelled.dc, cancelled.rl,
      cancelled.fb, congrArg (fun ks => ks.seats.get x) cancelled.ks, by simp [State.fixed_cancelSeat]⟩
  · obtain ⟨t, h, leads, ctx, v0, v1, waiting, other, ps, wt, dc, rl, fb, fixed⟩ :=
      State.resumeSolo_leads target copy slot ready quiet keys thawed
    have answer : resumeSeatOwner x s = (t, .ok, []) := by
      have allowed : (s.fb.condition == .hold || !((s.ctx x).state == .paused && (s.ctx x).pauseCause == some .host)) = false := by
        simp [normal, paused, cause]
      rw [resumeSeatOwner, allowed, State.refuseIf_false, Act.done, leads.carryOut (by decide)]
      rfl
    refine ⟨t, h, exec_forSeat rfl rfl taken hx answer, ?_, v0, v1, waiting, ?_, ps, wt, dc, rl, fb, fixed⟩
    · rw [ctx, State.ctx_setCtx_self]
    · rw [other, State.ctx_setCtx_other]

end Sys2Proof.Machine
end

section
/-! Attempt ends in solo practice: the record, the word put back, the feedback, the append and what follows (R41 to R47). -/

namespace Sys2Proof.Machine

/-! ### Refills that are not due -/

theorem State.refillSeat_off {s : State} (h : s.cfg.refillMark = 0) (x : Seat) : s.refillSeat x = s := by
  rw [State.refillSeat, if_neg (by simp [h])]

theorem State.refillDuel_off {s : State} (h : s.cfg.refillMark = 0) : s.refillDuel = s := by
  rw [State.refillDuel, if_neg (by simp [h])]

/-! ### The parts that an update of a word and a reinsertion change -/

theorem State.setSlot_only (s : State) (n : Nat) (v : Slot) : s.setSlot n v = { s with wt := (s.setSlot n v).wt } := rfl

theorem State.applyUpdate_only (s : State) (n : Nat) (u : Option ProgressUpdate) :
    s.applyUpdate n u = { s with wt := (s.applyUpdate n u).wt } := by
  cases u with
  | none => rfl
  | some v =>
    show s.applyProgress n v = { s with wt := (s.applyProgress n v).wt }
    unfold State.applyProgress
    split
    · exact s.setSlot_only _ _
    all_goals rfl

theorem State.reinsert_only (s : State) (q : WordQueue) (n : Nat) (r : Reinsert) :
    s.reinsert q n r = { s with ps := (s.reinsert q n r).ps } := by
  unfold State.reinsert
  split
  · rfl
  · rfl
  all_goals cases q <;> rfl

/-- A reinsertion looks at the words, the word queues and the configuration alone. -/
theorem State.reinsert_congr {s t : State} (wt : t.wt = s.wt) (ps : t.ps = s.ps) (cfg : t.cfg = s.cfg) (q : WordQueue)
    (n : Nat) (r : Reinsert) : (t.reinsert q n r).ps = (s.reinsert q n r).ps := by
  have entry : t.entry n = s.entry n := by rw [State.entry, State.entry, State.slot, State.slot, wt]
  have queue : t.wordQueue q = s.wordQueue q := by cases q <;> simp [State.wordQueue, ps]
  unfold State.reinsert
  rw [entry, queue, cfg]
  split
  · exact ps
  · exact ps
  all_goals
    cases q
    all_goals
      simp only [State.setWordQueue]
      rw [ps]

/-! ### The end of an attempt (R43 to R46) -/

/-- The progress update that an attempt end makes. -/
def State.attemptUpdate (s : State) (x : Seat) (n : Nat) (o : AttemptEnd) : Option ProgressUpdate :=
  s.progressFor n o (s.ctx x).lastMistake

/-- The record of an attempt that ends (R45). -/
def State.attemptRecord (s : State) (x : Seat) (n : Nat) (k : TargetCopy) (o : AttemptEnd) : ResultRecord :=
  soloRecord x (s.ctx x) k o (((s.attemptUpdate x n o).map (·.box)).getD k.box) (s.mastersNow n (s.attemptUpdate x n o))

/-- A context whose attempt has ended (R43). -/
def Context.ended (c : Context) (r : ResultRecord) : Context :=
  { c with
    idleRunning := false, firm := none, target := none, copy := none, pendingRecord := some r, state := .feedback
    pauseCause := none }

/-- The state in which an attempt has ended and its feedback is yet to come. -/
def State.attemptEnded (s : State) (x : Seat) (n : Nat) (k : TargetCopy) (o : AttemptEnd) : State :=
  { s.setCtx x ((s.ctx x).ended (s.attemptRecord x n k o)) with
    wt := (s.applyUpdate n (s.attemptUpdate x n o)).wt
    ps := ((s.applyUpdate n (s.attemptUpdate x n o)).reinsert (.practice x) n o.reinsert).ps }

theorem State.releaseTarget_eq {s : State} (x : Seat) (n : Nat) (r : Reinsert) (noRefill : s.cfg.refillMark = 0) :
    s.releaseTarget x n r = { s.setCtx x { s.ctx x with target := none, copy := none } with
      ps := (s.reinsert (.practice x) n r).ps } := by
  have same := State.reinsert_congr (s := s) (t := s.setCtx x { s.ctx x with target := none, copy := none }) rfl rfl rfl
    (.practice x) n r
  have only := (s.setCtx x { s.ctx x with target := none, copy := none }).reinsert_only (.practice x) n r
  unfold State.releaseTarget
  dsimp only
  rw [State.refillSeat_off (by rw [only]; exact noRefill), only, same]

theorem State.applyUpdate_setCtx (s : State) (x : Seat) (c : Context) (n : Nat) (u : Option ProgressUpdate) :
    (s.setCtx x c).applyUpdate n u = (s.applyUpdate n u).setCtx x c := by
  cases u with
  | none => rfl
  | some v =>
    show (s.setCtx x c).applyProgress n v = (s.applyProgress n v).setCtx x c
    unfold State.applyProgress
    rw [show (s.setCtx x c).slot n = s.slot n from rfl]
    split <;> rfl

/-- What the steps of R43 make of the state, whatever the update and the record. -/
theorem State.ended_eq {s : State} (x : Seat) (n : Nat) (u : Option ProgressUpdate) (d : Reinsert) (r : ResultRecord)
    (noRefill : s.cfg.refillMark = 0) {t : State}
    (ht : t = ((s.setCtx x { s.ctx x with idleRunning := false, firm := none }).applyUpdate n u).releaseTarget x n d) :
    t.setCtx x { t.ctx x with pendingRecord := some r, state := .feedback, pauseCause := none } =
      { s.setCtx x ((s.ctx x).ended r) with
        wt := (s.applyUpdate n u).wt
        ps := ((s.applyUpdate n u).reinsert (.practice x) n d).ps } := by
  obtain ⟨w, hw⟩ : ∃ w, s.applyUpdate n u = { s with wt := w } := ⟨_, s.applyUpdate_only n u⟩
  have same := State.reinsert_congr (s := { s with wt := w })
    (t := ({ s with wt := w } : State).setCtx x { s.ctx x with idleRunning := false, firm := none }) rfl rfl rfl
    (.practice x) n d
  rw [State.applyUpdate_setCtx, hw, State.releaseTarget_eq x n d (by exact noRefill), same] at ht
  rw [ht, hw]
  cases x <;> rfl

theorem State.endSolo_eq {s : State} {x : Seat} {n : Nat} {k : TargetCopy} (o : AttemptEnd)
    (target : (s.ctx x).target = some n) (copy : (s.ctx x).copy = some k) (noRefill : s.cfg.refillMark = 0) :
    ((s.attemptEnded x n k o).feedbackClips k o = [] →
      s.endSolo x o = (s.attemptEnded x n k o, [.append x])) ∧
    ((s.attemptEnded x n k o).feedbackClips k o ≠ [] →
      s.endSolo x o = (s.attemptEnded x n k o,
        [.firm x .feedback ((s.attemptEnded x n k o).feedbackClips k o), .takeKeys x])) := by
  have spoken : ∀ t : State, t = s.attemptEnded x n k o →
      ((s.attemptEnded x n k o).feedbackClips k o = [] → (match t.feedbackClips k o with
        | [] => (t, [.append x])
        | clips => (t, [.firm x .feedback clips, .takeKeys x])) = (s.attemptEnded x n k o, [Task.append x])) ∧
      ((s.attemptEnded x n k o).feedbackClips k o ≠ [] → (match t.feedbackClips k o with
        | [] => (t, [.append x])
        | clips => (t, [.firm x .feedback clips, .takeKeys x])) = (s.attemptEnded x n k o,
          [Task.firm x .feedback ((s.attemptEnded x n k o).feedbackClips k o), Task.takeKeys x])) := by
    rintro _ rfl
    cases clips : (s.attemptEnded x n k o).feedbackClips k o with
    | nil => exact ⟨fun _ => rfl, fun some' => absurd rfl some'⟩
    | cons c cs => exact ⟨nofun, fun _ => rfl⟩
  unfold State.endSolo
  dsimp only
  rw [target, copy]
  dsimp only
  generalize ht : State.releaseTarget _ x n o.reinsert = t
  rw [← target, ← copy] at ht
  have ended := fun r => State.ended_eq x n (s.progressFor n o (s.ctx x).lastMistake) o.reinsert r noRefill ht.symm
  refine spoken _ ((ended _).trans ?_)
  unfold State.attemptEnded State.attemptRecord State.attemptUpdate
  cases s.progressFor n o (s.ctx x).lastMistake <;> rfl

/-! ### Clips as they are built (R29) -/

theorem State.built_all_ready (s : State) (r : Option Nat) : (s.built r).all s.clipReady = true := by
  cases r with
  | none => rfl
  | some id =>
    by_cases ready : s.clipReady id = true
    · rw [State.built_ready ready]
      exact State.all_ready_one ready
    · rw [show s.built (some id) = [] from if_neg ready]
      rfl

theorem State.letterClips_all_ready (s : State) (l : Option Nat) : (s.letterClips l).all s.clipReady = true := by
  unfold State.letterClips
  split
  · exact s.built_all_ready _
  · rfl

theorem State.spellOut_all_ready {s : State} {k : TargetCopy} (ready : s.clipReady k.wordClip = true) :
    (s.spellOutClips k).all s.clipReady = true := by
  unfold State.spellOutClips
  rw [List.all_append, List.all_append, List.all_flatMap, State.cueClips, s.built_all_ready, State.all_ready_one ready,
    List.all_eq_true.2 fun l _ => s.letterClips_all_ready (some l)]
  rfl

theorem State.spellOut_ne_nil (s : State) (k : TargetCopy) : s.spellOutClips k ≠ [] := by
  simp [State.spellOutClips]

/-! ### What an attempt end leaves -/

theorem State.slot_inside {s : State} {n : Nat} {e : WordEntry} {p : Bool} (h : s.slot n = .occupied e p) :
    n < s.wt.length := by
  refine Nat.lt_of_not_le fun beyond => ?_
  rw [State.slot, List.getD_eq_getElem?_getD, List.getElem?_eq_none beyond] at h
  cases h

theorem State.slot_of_entry {s : State} {n : Nat} {e : WordEntry} (h : s.entry n = some e) :
    ∃ p, s.slot n = .occupied e p := by
  unfold State.entry at h
  cases slot : s.slot n with
  | occupied f p =>
    rw [slot] at h
    cases h
    exact ⟨p, rfl⟩
  | empty | damaged =>
    rw [slot] at h
    cases h

/-- An update leaves a word in its slot. -/
theorem State.entry_applyUpdate {s : State} {n : Nat} {e : WordEntry} (h : s.entry n = some e) (u : Option ProgressUpdate) :
    ∃ f, (s.applyUpdate n u).entry n = some f := by
  cases u with
  | none => exact ⟨e, h⟩
  | some v =>
    obtain ⟨p, slot⟩ := State.slot_of_entry h
    refine ⟨storeProgress v e, ?_⟩
    show (s.applyProgress n v).entry n = _
    rw [State.applyProgress_occupied slot, State.entry, State.slot_setSlot_self _ _ _ (State.slot_inside slot)]

section AttemptEnded

variable (s : State) (x : Seat) (n : Nat) (k : TargetCopy) (o : AttemptEnd)

@[simp] theorem State.ctx_attemptEnded_self :
    (s.attemptEnded x n k o).ctx x = (s.ctx x).ended (s.attemptRecord x n k o) := State.ctx_setCtx_self s x _

@[simp] theorem State.ctx_attemptEnded_other : (s.attemptEnded x n k o).ctx x.other = s.ctx x.other :=
  State.ctx_setCtx_other s x _

variable {s n o}

/-- Where the word goes when an attempt ends (R17). -/
theorem State.queue_attemptEnded {e : WordEntry} (entry : s.entry n = some e) (few : (s.ps.practice.get x).length ≤ 8) :
    (o.reinsert = .gap → (s.attemptEnded x n k o).ps.practice.get x =
      ((s.ps.practice.get x).take 7).take s.cfg.reinsertGap ++ n :: ((s.ps.practice.get x).take 7).drop s.cfg.reinsertGap) ∧
    (o.reinsert = .front → (s.attemptEnded x n k o).ps.practice.get x = n :: (s.ps.practice.get x).take 7) := by
  obtain ⟨f, entry'⟩ := State.entry_applyUpdate entry (s.attemptUpdate x n o)
  have only := s.applyUpdate_only n (s.attemptUpdate x n o)
  have queue : (s.applyUpdate n (s.attemptUpdate x n o)).wordQueue (.practice x) = s.ps.practice.get x := by
    rw [only]
    rfl
  have cfg : (s.applyUpdate n (s.attemptUpdate x n o)).cfg = s.cfg := by rw [only]
  obtain ⟨-, -, front, gap⟩ := outcomeMovesTheWord.2 (s.applyUpdate n (s.attemptUpdate x n o)) (.practice x) n f entry'
    (by rw [queue]; exact few)
  rw [queue, cfg] at gap
  rw [queue] at front
  refine ⟨fun d => ?_, fun d => ?_⟩
  · show ((s.applyUpdate n (s.attemptUpdate x n o)).reinsert (.practice x) n o.reinsert).ps.practice.get x = _
    rw [d, gap]
    exact Pair.get_set_self _ _ _
  · show ((s.applyUpdate n (s.attemptUpdate x n o)).reinsert (.practice x) n o.reinsert).ps.practice.get x = _
    rw [d, front]
    exact Pair.get_set_self _ _ _

end AttemptEnded

/-! ### Idle expiry (R41) -/

theorem exec_idleExpiry {s : State} {x : Seat} (released : s.resetHeld = false) (thawed : s.fb.frozen = false)
    (typing : (s.ctx x).state = .typing) (running : (s.ctx x).idleRunning = true) (zero : (s.ctx x).idleTimer = 0)
    (solo : (s.ctx x).mode = .solo) : exec (.idleExpiry x) s =
      .next ((s.setCtx x { s.ctx x with idleRunning := false }).expireSolo x).done := by
  have expired : s.idleExpired x = true := by simp [State.idleExpired, typing, running, zero, thawed]
  have act : s.expireIdle x = (s.setCtx x { s.ctx x with idleRunning := false }).expireSolo x := by
    unfold State.expireIdle
    dsimp only
    rw [solo]
  refine (event_taken (act := fun s => if s.idleExpired x then (s.expireIdle x).done else s) released).trans ?_
  dsimp only
  rw [if_pos expired, act]

theorem State.expireSolo_eq (s : State) (x : Seat) :
    ((s.ctx x).nudges < s.cfg.nudgeLimit →
      s.expireSolo x = (s.setCtx x { s.ctx x with nudges := (s.ctx x).nudges + 1 }).startRePrompt x) ∧
    (s.cfg.nudgeLimit ≤ (s.ctx x).nudges → s.expireSolo x = (s, [.endSolo x .timedOut])) := by
  unfold State.expireSolo
  exact ⟨fun below => if_pos below, fun limit => if_neg (Nat.not_lt_of_le limit)⟩

/-- Settles O24: below the nudge limit an idle expiry is a re-prompt, at it the attempt ends with the spell-out. -/
theorem idleExpiryNudgesThenTimesOut : Obligations.IdleExpiryNudgesThenTimesOut := by
  refine ⟨fun s x k released thawed solo typing running zero copy below ready quiet keys => ?_,
    fun s x n k e p released thawed solo typing running zero target copy limit slot noRefill ready quiet keys few => ?_⟩
  · obtain ⟨u, hu⟩ : ∃ u, u = s.setCtx x { s.ctx x with idleRunning := false } := ⟨_, rfl⟩
    have ctx : u.ctx x = { s.ctx x with idleRunning := false } := by rw [hu, State.ctx_setCtx_self]
    obtain ⟨t, h, leads, now, v0, v1, waiting, other, ps, wt, dc, rl, fb, fixed⟩ :=
      State.startRePrompt_leads (s := u.setCtx x { u.ctx x with nudges := (u.ctx x).nudges + 1 }) (x := x) (k := k)
        (by rw [State.ctx_setCtx_self, ctx]; exact copy) (by rw [hu]; exact ready)
        (State.speechQuiet_congr quiet (by rw [hu]; rfl)) (by rw [hu]; exact keys) (by rw [hu]; exact thawed)
    have out : exec (.idleExpiry x) s = .next t := by
      rw [exec_idleExpiry released thawed typing running zero solo, ← hu, (State.expireSolo_eq u x).1, Act.done,
        leads.carryOut (by decide)]
      rw [ctx, hu]
      exact below
    rw [State.ctx_setCtx_self, ctx] at now
    subst hu
    rw [State.ctx_setCtx_other, State.ctx_setCtx_other] at other
    exact ⟨t, h, out, now, v0, v1, other, ps, wt, dc, rl, fb, State.lp_of_fixed fixed, fixed⟩
  · obtain ⟨u, hu⟩ : ∃ u, u = s.setCtx x { s.ctx x with idleRunning := false } := ⟨_, rfl⟩
    have ctx : u.ctx x = { s.ctx x with idleRunning := false } := by rw [hu, State.ctx_setCtx_self]
    have entry : u.entry n = some e := by rw [hu]; exact State.entry_of_slot slot
    have update : u.attemptUpdate x n .timedOut =
        some (progressOf .timedOut u.cfg.masteryStreak (u.ctx x).lastMistake e) :=
      State.progressFor_counted _ entry rfl
    obtain ⟨v, hv⟩ : ∃ v, v = u.attemptEnded x n k .timedOut := ⟨_, rfl⟩
    have ready' : v.clipReady k.wordClip = true := by rw [hv, hu]; exact ready
    have ended : u.endSolo x .timedOut = (v, [.firm x .feedback (v.spellOutClips k), .takeKeys x]) := by
      rw [hv]
      exact (State.endSolo_eq .timedOut (by rw [ctx]; exact target) (by rw [ctx]; exact copy)
        (by rw [hu]; exact noRefill)).2 (State.spellOut_ne_nil _ _)
    have leads : Leads 5 u [.endSolo x .timedOut] (v.seatSpeaks x .feedback (v.spellOutClips k)) :=
      .acts (by rw [hu]; exact thawed) ended ((Leads.firm (State.speechQuiet_congr quiet (by rw [hv, hu]; rfl))
        (by rw [hv, hu]; exact thawed) (v.spellOut_ne_nil k) (State.spellOut_all_ready ready')).cons
        (.noKeys (by rw [hv, hu]; exact keys)))
    have out : exec (.idleExpiry x) s = .next (v.seatSpeaks x .feedback (v.spellOutClips k)) := by
      rw [exec_idleExpiry released thawed typing running zero solo, ← hu, (State.expireSolo_eq u x).2, Act.done,
        leads.carryOut (by decide)]
      rw [ctx, hu]
      exact limit
    have fixed : (v.seatSpeaks x .feedback (v.spellOutClips k)).fixed = s.fixed := by
      rw [← leads.carryOut (by decide), State.fixed_carryOut, hu]
      rfl
    have slotU : u.slot n = .occupied e p := by rw [hu]; exact slot
    have slot' : v.slot n = .occupied (storeProgress
        (progressOf .timedOut u.cfg.masteryStreak (u.ctx x).lastMistake e) e) p := by
      have same : v.slot n = (u.applyUpdate n (u.attemptUpdate x n .timedOut)).slot n := by
        rw [hv]
        rfl
      rw [same, update]
      refine (congrArg (·.slot n) (State.applyProgress_occupied slotU _)).trans ?_
      exact State.slot_setSlot_self _ _ _ (State.slot_inside slotU)
    have queue : v.ps.practice.get x = ((s.ps.practice.get x).take 7).take s.cfg.reinsertGap ++
        n :: ((s.ps.practice.get x).take 7).drop s.cfg.reinsertGap := by
      rw [hv, (State.queue_attemptEnded x k entry (by rw [hu]; exact few)).1 rfl, hu]
      rfl
    have now : v.ctx x = (u.ctx x).ended (u.attemptRecord x n k .timedOut) := by rw [hv, State.ctx_attemptEnded_self]
    have other : v.ctx x.other = s.ctx x.other := by rw [hv, State.ctx_attemptEnded_other, hu, State.ctx_setCtx_other]
    refine ⟨v.seatSpeaks x .feedback (v.spellOutClips k), u.attemptRecord x n k .timedOut,
      ⟨⟨v.freeHandle, .seat x, .feedback, v.seatRoute x, v.spellOutClips k⟩, 0, 0, 0⟩, out, ?_, ?_, ?_, rfl, rfl, ?_, rfl,
      rfl, rfl, ?_, ?_, ⟨_, slot', rfl, rfl, rfl, rfl, rfl⟩, queue, ?_, ?_, ?_, ?_, fixed⟩
    · rw [State.ctx_seatSpeaks_self, now]
      rfl
    · rw [State.ctx_seatSpeaks_self, now]
      rfl
    · rw [State.ctx_seatSpeaks_self, now]
      rfl
    · rw [State.attemptRecord, ctx]
      rfl
    · rw [State.ctx_seatSpeaks_self]
    · rw [hv, hu]
      rfl
    · rw [State.ctx_seatSpeaks_other, other]
    all_goals
      rw [hv, hu]
      rfl

end Sys2Proof.Machine
end

section
/-! The append of a solo record and what follows it: stopping and skipping (R47, R50, R51). -/

namespace Sys2Proof.Machine

/-! ### The append (R47) -/

section Append

variable {s : State} {x : Seat} {r : ResultRecord}

/-- The state in which RL has taken the record of a solo context. -/
def State.soloAppended (s : State) (x : Seat) (r : ResultRecord) : State :=
  (s.setCtx x { s.ctx x with pendingRecord := none }).appendRecord r

theorem State.logHasRoom_of_lt (h : s.rl.records.length < 32) : s.logHasRoom = true := decide_eq_true h

theorem State.appendSolo_room (pending : (s.ctx x).pendingRecord = some r) (room : s.rl.records.length < 32) :
    s.appendSolo x = (s.soloAppended x r, [.goOn x]) := by
  rw [State.appendSolo, pending]
  exact if_pos (State.logHasRoom_of_lt room)

/-- An append changes its context, the log and the pending causes. -/
theorem State.soloAppended_only : s.soloAppended x r = { s.setCtx x { s.ctx x with pendingRecord := none } with
    rl := { s.rl with
      records := s.rl.records ++ [{ r with number := some s.rl.counter }]
      counter := (s.rl.counter + 1) % 65536
      threshold := decide (s.cfg.logThreshold < s.rl.records.length + 1) }
    au := (s.soloAppended x r).au } := State.appendRecord_only _ _

theorem State.ctx_soloAppended_self : (s.soloAppended x r).ctx x = { s.ctx x with pendingRecord := none } := by
  rw [State.soloAppended_only]
  exact State.ctx_setCtx_self s x _

theorem State.ctx_soloAppended_other : (s.soloAppended x r).ctx x.other = s.ctx x.other := by
  rw [State.soloAppended_only]
  exact State.ctx_setCtx_other s x _

/-- With the stop marked the context goes to IDLE with mode OFF (R47). -/
theorem State.goOnSolo_stopped (marked : (s.ctx x).stopMarked = true) :
    s.goOnSolo x = (s.setCtx x (s.ctx x).toIdle, [.takeKeys x]) := if_pos (.inl marked)

theorem State.goOnSolo_ready (unmarked : (s.ctx x).stopMarked = false) (ready : (s.seat x).state = .ready) :
    s.goOnSolo x = (s, [.present x]) := if_neg (by simp [unmarked, ready])

end Append

/-! ### Attempts that end without feedback -/

theorem State.attemptUpdate_uncounted {s : State} {o : AttemptEnd} (h : o.counted = false) (x : Seat) (n : Nat) :
    s.attemptUpdate x n o = none := s.progressFor_uncounted n _ h

/-- The state in which an attempt has ended and its record is in the log. -/
def State.attemptLogged (s : State) (x : Seat) (n : Nat) (k : TargetCopy) (o : AttemptEnd) : State :=
  (s.attemptEnded x n k o).soloAppended x (s.attemptRecord x n k o)

/-- An uncounted end has no feedback: its record goes to the log at once. -/
theorem Leads.endSolo_silent {s : State} {x : Seat} {n : Nat} {k : TargetCopy} {o : AttemptEnd}
    (uncounted : o.counted = false) (target : (s.ctx x).target = some n) (copy : (s.ctx x).copy = some k)
    (noRefill : s.cfg.refillMark = 0) (room : s.rl.records.length < 32) (thawed : s.fb.frozen = false) {m : Nat} {t : State}
    (rest : Leads m (s.attemptLogged x n k o) [.goOn x] t) : Leads (m + 2) s [.endSolo x o] t := by
  have silent : (s.attemptEnded x n k o).feedbackClips k o = [] := by
    cases o with
    | correct | helped | miss | timedOut => cases uncounted
    | skippedHost | skippedNoAudio | abandoned | beaten => rfl
  have pending : ((s.attemptEnded x n k o).ctx x).pendingRecord = some (s.attemptRecord x n k o) := by
    rw [State.ctx_attemptEnded_self]
    rfl
  exact .acts thawed ((State.endSolo_eq o target copy noRefill).1 silent)
    (.acts thawed (State.appendSolo_room pending room) rest)

theorem State.reinsert_nowhere (s : State) (q : WordQueue) (n : Nat) : s.reinsert q n .nowhere = s := by
  unfold State.reinsert
  cases s.entry n <;> rfl

/-- The record of an uncounted end (R45). -/
def State.uncountedRecord (s : State) (x : Seat) (k : TargetCopy) (o : AttemptEnd) : ResultRecord :=
  soloRecord x (s.ctx x) k o k.box false

/-- What an uncounted end changes: its context, the word queue of its seat, the log and the pending causes. -/
theorem State.attemptLogged_eq {s : State} {x : Seat} {n : Nat} {k : TargetCopy} {o : AttemptEnd}
    (uncounted : o.counted = false) : s.attemptLogged x n k o =
      { s.setCtx x { (s.ctx x).ended (s.uncountedRecord x k o) with pendingRecord := none } with
        ps := (s.reinsert (.practice x) n o.reinsert).ps
        rl := { s.rl with
          records := s.rl.records ++ [{ s.uncountedRecord x k o with number := some s.rl.counter }]
          counter := (s.rl.counter + 1) % 65536
          threshold := decide (s.cfg.logThreshold < s.rl.records.length + 1) }
        au := (s.attemptLogged x n k o).au } := by
  have update := State.attemptUpdate_uncounted (s := s) uncounted x n
  have record : s.attemptRecord x n k o = s.uncountedRecord x k o := by
    have unmastered : s.mastersNow n none = false := by
      unfold State.mastersNow
      cases s.entry n <;> rfl
    rw [State.attemptRecord, update, unmastered]
    rfl
  have ended : s.attemptEnded x n k o = { s.setCtx x ((s.ctx x).ended (s.uncountedRecord x k o)) with
      ps := (s.reinsert (.practice x) n o.reinsert).ps } := by
    rw [State.attemptEnded, update, record]
    rfl
  unfold State.attemptLogged
  rw [ended, record]
  refine State.soloAppended_only.trans ?_
  cases x <;> rfl

/-! ### SKIP_WORD (R51) -/

/-- With no word queued and no refill due there is nothing to present (R32). -/
theorem State.presentSolo_done {s : State} {x : Seat} (normal : s.fb.condition = .normal) (noRefill : s.cfg.refillMark = 0)
    (empty : s.ps.practice.get x = []) : s.presentSolo x =
      ((s.setCtx x { s.ctx x with state := .done, pauseCause := none, idleRunning := false }).raise (.seatDone x),
        [.takeKeys x]) := by
  rw [State.presentSolo, if_neg (by simp [normal]), State.refillSeat_off noRefill]
  dsimp only
  rw [empty]

/-- Settles O23: the skipped attempt's record goes to the log, and with no word left the context is DONE. -/
theorem skipWordEndsTheAttempt : Obligations.SkipWordEndsTheAttempt := by
  intro s tag seat x n k taken hx normal solo state target copy unmarked ready empty noRefill room quiet keys thawed
  obtain ⟨u, hu⟩ : ∃ u, u = s.setCtx x { s.ctx x with firm := none } := ⟨_, rfl⟩
  have ctx : u.ctx x = { s.ctx x with firm := none } := by rw [hu, State.ctx_setCtx_self]
  have quiet' : u.speechQuiet := State.speechQuiet_congr quiet (by rw [hu]; rfl)
  have uncancelled : u.cancelHandle (s.ctx x).firm = u := by
    cases (s.ctx x).firm with
    | none => rfl
    | some h => exact cancel_quiet quiet' _
  obtain ⟨w, hw⟩ : ∃ w, w = u.attemptLogged x n k .skippedHost := ⟨_, rfl⟩
  have only := hw.trans (State.attemptLogged_eq rfl)
  rw [← hw, AttemptEnd.reinsert, State.reinsert_nowhere] at only
  have ctxW : w.ctx x = { (u.ctx x).ended (u.uncountedRecord x k .skippedHost) with pendingRecord := none } := by
    rw [only]
    exact State.ctx_setCtx_self _ _ _
  obtain ⟨t, ht⟩ : ∃ t, t = (w.setCtx x { w.ctx x with state := .done, pauseCause := none, idleRunning := false }).raise
    (.seatDone x) := ⟨_, rfl⟩
  have ctxT : t.ctx x = { w.ctx x with state := .done, pauseCause := none, idleRunning := false } := by
    rw [ht]
    exact State.ctx_setCtx_self _ _ _
  have leads : Leads 6 u [.arbitrate, .endSolo x .skippedHost] t := by
    have thawedU : u.fb.frozen = false := by rw [hu]; exact thawed
    have thawedW : w.fb.frozen = false := by rw [only]; exact thawedU
    have presented : w.presentSolo x = (t, [.takeKeys x]) := by
      rw [ht]
      refine State.presentSolo_done ?_ ?_ ?_
      all_goals
        rw [only, hu]
        assumption
    have goesOn : w.goOnSolo x = (w, [.present x]) := by
      refine State.goOnSolo_ready ?_ ?_
      · rw [ctxW, ctx]
        exact unmarked
      · rw [only, hu]
        exact ready
    have keysT : (t.seat x).keys = [] := by
      rw [ht, only, hu]
      exact keys
    refine (Leads.arbitrate_quiet quiet').cons (Leads.endSolo_silent (m := 3) (n := n) (k := k) (o := .skippedHost) rfl
      ?_ ?_ ?_ ?_ thawedU ?_)
    · rw [ctx]
      exact target
    · rw [ctx]
      exact copy
    · rw [hu]
      exact noRefill
    · rw [hu]
      exact room
    · rw [← hw]
      exact .acts thawedW goesOn (.acts thawedW presented (.noKeys keysT))
  have fixed : t.fixed = s.fixed := by
    rw [← leads.carryOut (by decide), State.fixed_carryOut, hu]
    rfl
  have answer : skipWordOwner x s = (t, .ok, []) := by
    have allowed : (s.fb.condition == .hold || !((s.ctx x).mode == .solo && (s.ctx x).atWork)) = false := by
      obtain st | st := state <;> simp [Context.atWork, solo, st, normal]
    rw [skipWordOwner, allowed, State.refuseIf_false, ← hu, uncancelled, leads.carryOut (by decide)]
    rfl
  refine ⟨t, { u.uncountedRecord x k .skippedHost with number := some s.rl.counter },
    exec_forSeat rfl rfl taken hx answer, ?records, rfl, rfl, rfl, rfl, ?counter, ?done, ?target, ?pending, ?wt, ?ps,
    ?other, ?dc, ?se, ?fb, fixed⟩
  case done =>
    rw [ctxT]
  case target =>
    rw [ctxT, ctxW]
    rfl
  case pending =>
    rw [ht]
    exact State.isPending_raise _ _
  case other =>
    rw [ht]
    refine (State.ctx_setCtx_other w x _).trans ?_
    rw [only]
    refine (State.ctx_setCtx_other u x _).trans ?_
    rw [hu, State.ctx_setCtx_other]
  all_goals
    rw [ht, only, hu]
    rfl

/-! ### STOP_SEAT (R50) -/

/-- A context whose stop is marked, and that has dropped its handle (R23, R50). -/
def Context.stopped (c : Context) : Context := { c with stopMarked := true, firm := none, pauseCause := none }

theorem State.leaveSolo_atWork {s : State} {x : Seat} (h : (s.ctx x).state = .prompting ∨ (s.ctx x).state = .typing)
    (byHost : Bool) : s.leaveSolo x byHost =
      ((s.setCtx x (s.ctx x).stopped).cancelSeat x, [.arbitrate, .endSolo x .abandoned]) := by
  unfold State.leaveSolo Context.stopped
  obtain st | st := h <;> simp only [st]

/-- A context that goes to IDLE with mode OFF discards its keys (R50). -/
theorem Leads.idles {s : State} {x : Seat} (few : (s.seat x).keys.length ≤ 16) (thawed : s.fb.frozen = false) :
    Leads 17 (s.idleSeat x).1 (s.idleSeat x).2 ((s.setCtx x (s.ctx x).toIdle).clearKeys x) := by
  refine Leads.discardsAll few thawed (.inl ?_)
  exact congrArg Context.state (State.ctx_setCtx_self s x _)

theorem stopSeatOwner_stops {s : State} {x : Seat} (h : (s.ctx x).mode ≠ .duel) :
    stopSeatOwner x s = (s.leaveSolo x true).done.ok [] := by
  rw [stopSeatOwner, show ((s.ctx x).mode == Mode.duel) = false by simpa using h, State.refuseIf_false]

/-- Settles O21: the stop is marked, so that the append of the abandoned attempt's record leads to IDLE with mode OFF. -/
theorem stopSeatEndsThePractice : Obligations.StopSeatEndsThePractice := by
  refine ⟨fun s tag seat x n k e taken hx solo state target copy entry noRefill room few only keys thawed => ?_,
    fun s tag seat x taken hx => ⟨fun duel => ?_, fun off idle => ?_, fun off waiting => ?_, fun off done few thawed => ?_⟩⟩
  · obtain ⟨u, hu⟩ : ∃ u, u = (s.setCtx x (s.ctx x).stopped).cancelSeat x := ⟨_, rfl⟩
    have cancelled : SpeechOnly (s.setCtx x (s.ctx x).stopped) u := hu ▸ SpeechOnly.cancel _ _
    have quiet : u.speechQuiet := by
      rw [hu]
      exact cancel_everything fun v hv => by simpa using only v hv
    have ctx : u.ctx x = (s.ctx x).stopped := by
      rw [State.ctx, cancelled.ae]
      exact State.ctx_setCtx_self s x _
    have other : u.ctx x.other = s.ctx x.other := by
      rw [State.ctx, cancelled.ae]
      exact State.ctx_setCtx_other s x _
    have entry' : u.entry n = some e := by
      rw [State.entry, State.slot, cancelled.wt]
      exact entry
    obtain ⟨w, hw⟩ : ∃ w, w = u.attemptLogged x n k .abandoned := ⟨_, rfl⟩
    have onlyW := hw.trans (State.attemptLogged_eq rfl)
    rw [← hw] at onlyW
    have ctxW : w.ctx x = { (u.ctx x).ended (u.uncountedRecord x k .abandoned) with pendingRecord := none } := by
      rw [onlyW]
      exact State.ctx_setCtx_self _ _ _
    obtain ⟨t, ht⟩ : ∃ t, t = w.setCtx x (w.ctx x).toIdle := ⟨_, rfl⟩
    have ctxT : t.ctx x = (w.ctx x).toIdle := by rw [ht, State.ctx_setCtx_self]
    have leads : Leads 5 u [.arbitrate, .endSolo x .abandoned] t := by
      have thawedU : u.fb.frozen = false := by
        rw [cancelled.fb]
        exact thawed
      have goesOn : w.goOnSolo x = (t, [.takeKeys x]) := by
        rw [ht]
        refine State.goOnSolo_stopped ?_
        rw [ctxW, ctx]
        rfl
      have keysT : (t.seat x).keys = [] := by
        rw [ht, onlyW]
        show (u.ks.seats.get x).keys = []
        rw [cancelled.ks]
        exact keys
      refine (Leads.arbitrate_quiet quiet).cons (Leads.endSolo_silent (m := 2) (n := n) (k := k) (o := .abandoned) rfl
        ?_ ?_ ?_ ?_ thawedU ?_)
      · rw [ctx]
        exact target
      · rw [ctx]
        exact copy
      · rw [cancelled.cfg]
        exact noRefill
      · rw [cancelled.rl]
        exact room
      · rw [← hw]
        exact .acts (by rw [onlyW]; exact thawedU) goesOn (.noKeys keysT)
    have fixed : t.fixed = s.fixed := by
      rw [← leads.carryOut (by decide), State.fixed_carryOut, hu, State.fixed_cancelSeat]
      rfl
    have answer : stopSeatOwner x s = (t, .ok, []) := by
      rw [stopSeatOwner_stops (by rw [solo]; decide), State.leaveSolo_atWork state, ← hu, Act.done, leads.carryOut (by decide)]
      rfl
    refine ⟨t, { u.uncountedRecord x k .abandoned with number := some s.rl.counter },
      exec_forSeat rfl rfl taken hx answer, ?state, ?mode, ?target, ?marked, ?records, rfl, rfl, rfl, rfl, rfl, rfl,
      ?tries, ?counter, ?queue, ?quiet, ?wt, ?other, ?dc, fixed⟩
    case state | mode | target | marked =>
      rw [ctxT]
      rfl
    case records | counter =>
      rw [ht, onlyW, cancelled.rl]
      rfl
    case tries =>
      show (u.uncountedRecord x k .abandoned).tries = _
      rw [State.uncountedRecord, ctx]
      rfl
    case queue =>
      have words : u.wordQueue (.practice x) = s.ps.practice.get x := by
        rw [State.wordQueue, cancelled.ps]
        rfl
      obtain ⟨-, -, front, -⟩ := outcomeMovesTheWord.2 u (.practice x) n e entry' (by rw [words]; omega)
      rw [ht, onlyW]
      show (u.reinsert (.practice x) n .front).ps.practice.get x = _
      rw [front, words, List.take_of_length_le (by omega)]
      exact Pair.get_set_self _ _ _
    case quiet => exact State.speechQuiet_congr quiet (by rw [ht, onlyW]; rfl)
    case wt =>
      rw [ht, onlyW]
      exact cancelled.wt
    case dc =>
      rw [ht, onlyW]
      exact cancelled.dc
    case other =>
      rw [ht, State.ctx_setCtx_other, onlyW]
      exact (State.ctx_setCtx_other u x _).trans other
  · exact exec_forSeat rfl rfl taken hx (by rw [stopSeatOwner, duel]; rfl)
  · refine exec_forSeat rfl rfl taken hx ?_
    rw [stopSeatOwner_stops off, State.leaveSolo]
    rw [idle]
    rfl
  · refine exec_forSeat rfl rfl taken hx ?_
    rw [stopSeatOwner_stops off, State.leaveSolo]
    dsimp only
    rw [waiting]
    rfl
  · refine exec_forSeat rfl rfl taken hx ?_
    rw [stopSeatOwner_stops off, State.leaveSolo]
    dsimp only
    rw [done, Act.done, (Leads.idles few thawed).carryOut (by decide)]
    rfl

end Sys2Proof.Machine
end

section
/-! Presentations: the clips of a prompt, the rests, and a solo context that begins an attempt (R12, R29, R32). -/

namespace Sys2Proof.Machine

/-! ### Prompts -/

theorem State.prompt_all_ready {s : State} {k : TargetCopy} (ready : s.clipReady k.wordClip = true) (sentence : Bool) :
    (s.promptClips k sentence).all s.clipReady = true := by
  have optional : (if sentence = true then s.built k.sentenceClip else []).all s.clipReady = true := by
    cases sentence with
    | true => exact s.built_all_ready _
    | false => rfl
  unfold State.promptClips
  rw [List.all_append, List.all_append, List.all_append, State.cueClips, s.built_all_ready, State.all_ready_one ready, optional]
  rfl

theorem State.prompt_ne_nil (s : State) (k : TargetCopy) (sentence : Bool) : s.promptClips k sentence ≠ [] := by
  simp [State.promptClips]

/-! ### Rests (R12) -/

/-- A word's rest as another word of an owner is presented, or it itself. -/
def WordEntry.rested (e : WordEntry) (presented : Bool) (o : Owner) : WordEntry :=
  if presented then { e with rest := 0 }
  else if e.owner = o ∧ e.mastered = false then { e with rest := min (e.rest + 1) 255 } else e

theorem restSlot_occupied (n : Nat) (o : Owner) (i : Nat) (e : WordEntry) (p : Bool) :
    restSlot n o i (.occupied e p) = .occupied (e.rested (decide (i = n)) o) p := by
  unfold restSlot WordEntry.rested
  by_cases presented : i = n
  · simp [presented]
  · by_cases other : e.owner = o ∧ e.mastered = false
    · simp [presented, other, satSucc]
    · simp only [presented, if_false, other, decide_false, Bool.false_eq_true]

theorem State.slot_updateRests (s : State) (n : Nat) (o : Owner) (m : Nat) :
    (s.updateRests n o).slot m = restSlot n o m (s.slot m) := by
  unfold State.slot State.updateRests
  dsimp only
  rw [List.getD_eq_getElem?_getD, List.getD_eq_getElem?_getD, List.getElem?_mapIdx]
  cases s.wt[m]? with
  | none => rfl
  | some v => rfl

theorem State.entry_updateRests (s : State) (n : Nat) (o : Owner) (m : Nat) :
    (s.updateRests n o).entry m = (s.entry m).map fun e => e.rested (decide (m = n)) o := by
  unfold State.entry
  rw [State.slot_updateRests]
  cases s.slot m with
  | occupied e p =>
    rw [restSlot_occupied]
    rfl
  | empty | damaged => rfl

theorem State.entry_congr {s t : State} (h : t.wt = s.wt) (n : Nat) : t.entry n = s.entry n := by
  rw [State.entry, State.slot, h, State.entry, State.slot]

/-! ### A solo presentation (R32) -/

/-- The state in which a solo context has begun an attempt and its prompt is yet to come. -/
def State.attemptBegun (s : State) (x : Seat) (n : Nat) (e : WordEntry) : State :=
  (s.updateRests n e.owner).setCtx x { (s.ctx x).newAttempt n e with state := .prompting }

theorem State.startAttempt_ready {s : State} {n : Nat} {e : WordEntry} (ready : s.clipReady e.wordClip = true) (x : Seat) :
    s.startAttempt x n e = (s.attemptBegun x n e, [.firm x .prompt (s.promptClips e.copy (s.ctx x).sentence), .takeKeys x]) :=
  if_pos ready

theorem State.presentSolo_word {s : State} {x : Seat} {n : Nat} {rest : List Nat} {e : WordEntry}
    (normal : s.fb.condition = .normal) (full : s.refillSeat x = s) (queue : s.ps.practice.get x = n :: rest)
    (slot : s.slot n = .occupied e true) :
    s.presentSolo x = (s.setWordQueue (.practice x) rest).startAttempt x n e := by
  rw [State.presentSolo, if_neg (by simp [normal]), full]
  dsimp only
  rw [queue]
  dsimp only
  rw [State.readTarget_good (s := s.setWordQueue (.practice x) rest) slot]

/-- A presentation in quiet speech with no key queued: the prompt plays (R32). -/
theorem Leads.present {s : State} {x : Seat} {n : Nat} {rest : List Nat} {e : WordEntry}
    (normal : s.fb.condition = .normal) (full : s.refillSeat x = s) (queue : s.ps.practice.get x = n :: rest)
    (slot : s.slot n = .occupied e true) (ready : s.clipReady e.wordClip = true) (quiet : s.speechQuiet)
    (keys : (s.seat x).keys = []) (thawed : s.fb.frozen = false) : Leads 5 s [.present x]
      (((s.setWordQueue (.practice x) rest).attemptBegun x n e).seatSpeaks x .prompt
        (s.promptClips e.copy (s.ctx x).sentence)) := by
  refine .acts thawed ((State.presentSolo_word normal full queue slot).trans (State.startAttempt_ready
    (s := s.setWordQueue (.practice x) rest) ready x)) ?_
  exact (Leads.firm (s := (s.setWordQueue (.practice x) rest).attemptBegun x n e) (State.speechQuiet_congr quiet rfl)
    thawed (s.prompt_ne_nil _ _) (State.prompt_all_ready (s := s) (k := e.copy) ready _)).cons (.noKeys keys)

/-! ### START_SOLO (R31, R32) -/

theorem styleOf_seatOf_startSolo {s : State} {seat style options : Byte} {x : Seat} {st : Style}
    (hx : seatOf seat = some x) (hst : styleOf style = some st) (normal : s.fb.condition = .normal)
    (ready : (s.seat x).state = .ready) (off : (s.ctx x).mode = .off) (noDuel : s.duelRuns = false) :
    startSoloOwner seat style options s =
      ((((s.setCtx x ((s.ctx x).startSolo st options)).refillSeat x).carryOut [.present x]).ok []) := by
  have allowed : s.soloBarred x = false := by simp [State.soloBarred, normal, ready, off, noDuel]
  rw [startSoloOwner, hx, hst]
  dsimp only
  rw [allowed, State.refuseIf_false]

/-- START_SOLO with a word queued and no refill due (R32). -/
theorem startSolo_presents : ∀ (s : State) (tag seat style options : Byte) (x : Seat) (st : Style) (n : Nat) (rest : List Nat) (e : WordEntry),
    s.takes (.startSolo tag seat style options) → seatOf seat = some x → styleOf style = some st →
    s.fb.condition = .normal → (s.seat x).state = .ready → (s.ctx x).mode = .off → s.duelRuns = false →
    s.ps.practice.get x = n :: rest → s.cfg.refillMark ≤ rest.length + 1 → s.slot n = .occupied e true →
    s.clipReady e.wordClip = true → s.speechQuiet → (s.seat x).keys = [] → s.fb.frozen = false →
    ∃ t : State, exec (.startSolo tag seat style options) s = .next (t.replied (.startSolo tag seat style options) .ok []) ∧
      (t.ctx x).mode = .solo ∧ (t.ctx x).style = st ∧ (t.ctx x).state = .prompting ∧
      (t.ctx x).target = some n ∧ (t.ctx x).copy = some e.copy ∧ (t.ctx x).typed = [] ∧ (t.ctx x).cursor = 0 ∧
      (t.ctx x).tries = 0 ∧ (t.ctx x).keys = 0 ∧ (t.ctx x).startTick = none ∧
      (t.ctx x).echo = options.getLsbD 0 ∧ (t.ctx x).bargeIn = options.getLsbD 1 ∧
      (t.ctx x).sentence = options.getLsbD 2 ∧
      t.ps = { s.ps with practice := s.ps.practice.set x rest } ∧ t.entry n = some { e with rest := 0 } ∧
      (∀ m, m ≠ n → t.entry m = (s.entry m).map fun f =>
        if f.owner = e.owner ∧ f.mastered = false then { f with rest := min (f.rest + 1) 255 } else f) ∧
      (∃ p, t.se.v0 = some p ∧ (t.ctx x).firm = some p.utterance.handle ∧ p.utterance.requester = .seat x ∧
        p.utterance.cls = .prompt ∧ p.utterance.route = s.seatRoute x ∧ p.index = 0 ∧
        p.utterance.clips = s.promptClips e.copy (options.getLsbD 2)) ∧ t.se.v1 = none ∧ t.allWaiting = [] ∧
      t.ctx x.other = s.ctx x.other ∧ t.dc = s.dc ∧ t.rl = s.rl ∧ t.au = s.au ∧ t.fb = s.fb ∧ t.fixed = s.fixed := by
  intro s tag seat style options x st n rest e taken hx hst normal seatReady off noDuel queue enough slot ready quiet keys thawed
  obtain ⟨u, hu⟩ : ∃ u, u = s.setCtx x ((s.ctx x).startSolo st options) := ⟨_, rfl⟩
  have ctx : u.ctx x = (s.ctx x).startSolo st options := by rw [hu, State.ctx_setCtx_self]
  have queueU : u.ps.practice.get x = n :: rest := by rw [hu]; exact queue
  have full : u.refillSeat x = u := by
    rw [State.refillSeat, if_neg]
    rintro ⟨-, -, short⟩
    rw [queueU, hu] at short
    exact absurd short (Nat.not_lt_of_le enough)
  have quietU : u.speechQuiet := State.speechQuiet_congr quiet (by rw [hu]; rfl)
  obtain ⟨v, hv⟩ : ∃ v, v = (u.setWordQueue (.practice x) rest).attemptBegun x n e := ⟨_, rfl⟩
  obtain ⟨t, ht⟩ : ∃ t, t = v.seatSpeaks x .prompt (u.promptClips e.copy (u.ctx x).sentence) := ⟨_, rfl⟩
  have leads : Leads 5 u [.present x] t := by
    rw [ht, hv]
    refine Leads.present ?_ full queueU ?_ ?_ quietU ?_ ?_
    all_goals
      rw [hu]
      assumption
  have answer : requestOwner (.startSolo tag seat style options) s = (t, .ok, []) := by
    refine (styleOf_seatOf_startSolo hx hst normal seatReady off noDuel).trans ?_
    rw [← hu, full, leads.carryOut (by decide)]
    rfl
  have fixed : t.fixed = s.fixed := by
    rw [← leads.carryOut (by decide), State.fixed_carryOut, hu]
    rfl
  have quietV : v.speechQuiet := State.speechQuiet_congr quietU (by rw [hv]; rfl)
  have ctxV : v.ctx x = { (u.ctx x).newAttempt n e with state := .prompting } := by
    rw [hv]
    exact State.ctx_setCtx_self _ _ _
  have ctxT : t.ctx x = { v.ctx x with firm := some v.freeHandle } := by rw [ht, State.ctx_seatSpeaks_self]
  rw [ctxV, ctx] at ctxT
  have entries : ∀ m, t.entry m = (s.entry m).map fun f => f.rested (decide (m = n)) e.owner := by
    intro m
    rw [show t.entry m = (u.updateRests n e.owner).entry m from State.entry_congr (by rw [ht, hv]; rfl) m,
      State.entry_updateRests, hu]
    rfl
  refine ⟨t, exec_answer rfl taken answer, ?_, ?_, ?_, ?_, ?_, ?_, ?_, ?_, ?_, ?_, ?_, ?_, ?_, ?ps, ?entry, fun m hm => ?others,
    ⟨⟨⟨v.freeHandle, .seat x, .prompt, v.seatRoute x, u.promptClips e.copy (u.ctx x).sentence⟩, 0, 0, 0⟩, ?v0, ?firm, rfl, rfl, ?way, rfl, ?spoken⟩, ?v1, ?waiting,
    ?other, ?dc, ?rl, ?au, ?fb, fixed⟩
  case ps | dc | rl | au | fb =>
    rw [ht, hv, hu]
    rfl
  case v0 =>
    rw [ht]
    rfl
  case firm => rw [ctxT]
  case way =>
    rw [hv, hu]
    rfl
  case spoken =>
    rw [ctx, hu]
    rfl
  case v1 =>
    rw [ht]
    exact State.v1_seatSpeaks _ _ _ _ quietV
  case waiting =>
    rw [ht]
    exact State.allWaiting_seatSpeaks _ _ _ _ quietV
  case other =>
    rw [ht, State.ctx_seatSpeaks_other, hv, State.attemptBegun, State.ctx_setCtx_other, hu]
    exact State.ctx_setCtx_other s x _
  case entry =>
    rw [entries, State.entry, slot]
    simp [WordEntry.rested]
  case others =>
    rw [entries m]
    simp only [WordEntry.rested, hm, decide_false, Bool.false_eq_true, if_false]
  all_goals simp only [ctxT, Context.newAttempt, Context.startSolo]

end Sys2Proof.Machine
end

section
/-! Refills and the word queues: the choice of candidates, their drawing, and no slot queued twice (R10, R13 to R18). -/

namespace Sys2Proof.Machine

/-- START_SOLO with nothing queued and no refill (R25, R32). -/
theorem startSolo_done : ∀ (s : State) (tag seat style options : Byte) (x : Seat) (st : Style),
    s.takes (.startSolo tag seat style options) → seatOf seat = some x → styleOf style = some st →
    s.fb.condition = .normal → (s.seat x).state = .ready → (s.ctx x).mode = .off → s.duelRuns = false →
    s.ps.practice.get x = [] → s.cfg.refillMark = 0 → (s.seat x).keys.length ≤ 16 → s.fb.frozen = false →
    ∃ t : State, exec (.startSolo tag seat style options) s = .next (t.replied (.startSolo tag seat style options) .ok []) ∧
      (t.ctx x).state = .done ∧ (t.ctx x).mode = .solo ∧ (t.ctx x).style = st ∧
      t.isPending (.seatDone x) = true ∧ (t.seat x).keys = [] ∧
      t.ctx x.other = s.ctx x.other ∧ t.ps = s.ps ∧ t.wt = s.wt ∧ t.dc = s.dc ∧ t.rl = s.rl ∧ t.se = s.se ∧
      t.fb = s.fb ∧ t.fixed = s.fixed := by
  intro s tag seat style options x st taken hx hst normal seatReady off noDuel queue noRefill few thawed
  obtain ⟨u, hu⟩ : ∃ u, u = s.setCtx x ((s.ctx x).startSolo st options) := ⟨_, rfl⟩
  have ctx : u.ctx x = (s.ctx x).startSolo st options := by rw [hu, State.ctx_setCtx_self]
  obtain ⟨v, hv⟩ : ∃ v, v = (u.setCtx x { u.ctx x with state := .done, pauseCause := none, idleRunning := false }).raise
    (.seatDone x) := ⟨_, rfl⟩
  have ctxV : v.ctx x = { u.ctx x with state := .done, pauseCause := none, idleRunning := false } := by
    rw [hv]
    exact State.ctx_setCtx_self _ _ _
  have keysV : v.seat x = s.seat x := by
    rw [hv, hu]
    rfl
  have leads : Leads 18 u [.present x] (v.clearKeys x) := by
    refine .acts (by rw [hu]; exact thawed) ((State.presentSolo_done (by rw [hu]; exact normal) (by rw [hu]; exact noRefill)
      (by rw [hu]; exact queue)).trans (by rw [← hv])) ?_
    refine Leads.discardsAll (by rw [keysV]; exact few) (by rw [hv, hu]; exact thawed) (.inr (.inr (.inl ?_)))
    rw [ctxV]
  have answer : requestOwner (.startSolo tag seat style options) s = (v.clearKeys x, .ok, []) := by
    refine (styleOf_seatOf_startSolo hx hst normal seatReady off noDuel).trans ?_
    rw [← hu, State.refillSeat_off (by rw [hu]; exact noRefill), leads.carryOut (by decide)]
    rfl
  have fixed : (v.clearKeys x).fixed = s.fixed := by
    rw [← leads.carryOut (by decide), State.fixed_carryOut, hu]
    rfl
  have ctxT : (v.clearKeys x).ctx x = { u.ctx x with state := .done, pauseCause := none, idleRunning := false } := ctxV
  rw [ctx] at ctxT
  refine ⟨_, exec_answer rfl taken answer, ?_, ?_, ?_, ?pending, ?keys, ?other, ?_, ?_, ?_, ?_, ?_, ?_, fixed⟩
  case pending =>
    rw [hv]
    exact State.isPending_raise _ _
  case keys => rw [State.clearKeys, State.seat_setSeat_self]
  case other =>
    rw [hv, hu]
    refine (State.ctx_setCtx_other _ x _).trans (State.ctx_setCtx_other s x _)
  iterate 3 exact congrArg _ ctxT
  all_goals
    rw [hv, hu]
    rfl

/-! ### The choice of a candidate (R14) -/

theorem State.mem_queuedSlots_iff (s : State) (n : Nat) :
    n ∈ s.queuedSlots ↔ n ∈ s.ps.practice.a ∨ n ∈ s.ps.practice.b ∨ n ∈ s.ps.duel := by
  simp [State.queuedSlots]

theorem State.engaged_iff (s : State) (n : Nat) : s.engaged n = true ↔
    n ∈ s.queuedSlots ∨ s.dc.target = some n ∨ s.ae.a.target = some n ∨ s.ae.b.target = some n := by
  rw [State.mem_queuedSlots_iff, State.engaged, State.engagement]
  simp only [List.contains_iff_mem]
  repeat' split
  all_goals simp [*]

theorem State.candidate_eq_some_iff {s : State} {o : Owner} {n : Nat} {e : WordEntry} : s.candidate o n = some e ↔
    s.entry n = some e ∧ e.owner = o ∧ e.mastered = false ∧ s.engaged n = false := by
  unfold State.candidate
  cases s.entry n with
  | none => simp
  | some f => 
    simp only [Option.ite_none_right_eq_some, Option.some.injEq]
    constructor
    · rintro ⟨h, rfl⟩
      exact ⟨rfl, h⟩
    · rintro ⟨rfl, h⟩
      exact ⟨h, rfl⟩

theorem State.isCandidate_iff {s : State} {o : Owner} {n : Nat} : s.isCandidate o n ↔ ∃ e, s.candidate o n = some e := by
  simp only [State.candidate_eq_some_iff, State.isCandidate, ← Bool.not_eq_true (s.engaged n), State.engaged_iff, not_or]

/-- The choice order on entries and their slots (R14). -/
def choiceBefore (m n : Nat) (e f : WordEntry) : Prop :=
  e.box < f.box ∨ e.box = f.box ∧ (f.rest < e.rest ∨ e.rest = f.rest ∧ m < n)

theorem choiceBefore_trans {l m n : Nat} {d e f : WordEntry} (h : choiceBefore l m d e) (h' : choiceBefore m n e f) :
    choiceBefore l n d f := by
  unfold choiceBefore at *
  omega

theorem choiceBefore_of_later {m n : Nat} {e f : WordEntry} (lower : m < n) :
    (chosenBefore f e = true → choiceBefore n m f e) ∧ (chosenBefore f e = false → choiceBefore m n e f) := by
  unfold chosenBefore choiceBefore
  constructor
  · intro h
    simp at h
    omega
  · intro h
    simp at h
    omega

/-- What the best of the first slots is: none of them a candidate, or a candidate that stands before the others. -/
def State.bestOf (s : State) (o : Owner) (k : Nat) : Option (Nat × WordEntry) → Prop
  | none => ∀ m < k, s.candidate o m = none
  | some (n, e) => n < k ∧ s.candidate o n = some e ∧
    ∀ m < k, m ≠ n → ∀ f, s.candidate o m = some f → choiceBefore n m e f

theorem State.bestOf_better {s : State} {o : Owner} {k : Nat} {b : Option (Nat × WordEntry)} (h : s.bestOf o k b) :
    s.bestOf o (k + 1) (s.better o b k) := by
  unfold State.better
  cases found : s.candidate o k with
  | none =>
    cases b with
    | none => 
      intro m hm
      obtain lower | rfl := Nat.lt_succ_iff_lt_or_eq.1 hm
      · exact h m lower
      · exact found
    | some p =>
      obtain ⟨inside, candidate, first⟩ := h
      refine ⟨Nat.lt_succ_of_lt inside, candidate, fun m hm ne f hf => ?_⟩
      obtain lower | rfl := Nat.lt_succ_iff_lt_or_eq.1 hm
      · exact first m lower ne f hf
      · rw [found] at hf
        contradiction
  | some e =>
    cases b with
    | none =>
      refine ⟨Nat.lt_succ_self k, found, fun m hm ne f hf => ?_⟩
      rw [h m (by omega)] at hf
      contradiction
    | some p =>
      obtain ⟨n, g⟩ := p
      obtain ⟨inside, candidate, first⟩ := h
      obtain ⟨newer, older⟩ := choiceBefore_of_later (e := g) (f := e) inside
      dsimp only
      cases before : chosenBefore e g with
      | true =>
        refine ⟨Nat.lt_succ_self k, found, fun m hm ne f hf => ?_⟩
        by_cases same : m = n
        · subst same
          rw [candidate] at hf
          cases hf
          exact newer before
        · exact choiceBefore_trans (newer before) (first m (by omega) same f hf)
      | false =>
        refine ⟨Nat.lt_succ_of_lt inside, candidate, fun m hm ne f hf => ?_⟩
        obtain lower | rfl := Nat.lt_succ_iff_lt_or_eq.1 hm
        · exact first m lower ne f hf
        · rw [found] at hf
          cases hf
          exact older before

theorem State.bestOf_foldl (s : State) (o : Owner) : ∀ k, s.bestOf o k ((List.range k).foldl (s.better o) none)
  | 0 => nofun
  | k + 1 => by
    rw [List.range_succ, List.foldl_append]
    exact State.bestOf_better (s.bestOf_foldl o k)

/-- A chosen slot is a candidate, and among the slots of the table the first in the choice order. -/
theorem State.choose_some {s : State} {o : Owner} {n : Nat} (h : s.choose o = some n) : s.isCandidate o n ∧
    ∀ m < Config.slots, m ≠ n → s.isCandidate o m → s.chosenFirst n m := by
  have best := s.bestOf_foldl o Config.slots
  rw [State.choose, Option.map_eq_some_iff] at h
  obtain ⟨⟨k, e⟩, found, rfl⟩ := h
  rw [found] at best
  obtain ⟨-, candidate, first⟩ := best
  refine ⟨State.isCandidate_iff.2 ⟨e, candidate⟩, fun m hm ne other => ?_⟩
  obtain ⟨f, hf⟩ := State.isCandidate_iff.1 other
  exact ⟨e, f, (State.candidate_eq_some_iff.1 candidate).1, (State.candidate_eq_some_iff.1 hf).1, first m hm ne f hf⟩

theorem State.choose_none {s : State} {o : Owner} (h : s.choose o = none) (m : Nat) (hm : m < Config.slots) :
    ¬ s.isCandidate o m := by
  have best := s.bestOf_foldl o Config.slots
  rw [State.choose, Option.map_eq_none_iff] at h
  rw [h] at best
  rw [State.isCandidate_iff, best m hm]
  simp

/-! ### The drawing of candidates (R13, R15) -/

section WordQueues

variable (s : State) (q : WordQueue) (l l' : List Nat)

theorem State.wordQueue_setWordQueue : (s.setWordQueue q l).wordQueue q = l := by
  cases q with
  | practice x => exact Pair.get_set_self ..
  | duel => rfl

theorem State.setWordQueue_setWordQueue : (s.setWordQueue q l).setWordQueue q l' = s.setWordQueue q l' := by
  cases q with
  | practice x => cases x <;> rfl
  | duel => rfl

theorem State.setWordQueue_wordQueue : s.setWordQueue q (s.wordQueue q) = s := by
  cases q with
  | practice x => cases x <;> rfl
  | duel => rfl

theorem State.entry_setWordQueue (n : Nat) : (s.setWordQueue q l).entry n = s.entry n := by
  cases q <;> rfl

/-- The slots of the other queues. -/
def State.otherSlots : List Nat := (s.setWordQueue q []).queuedSlots

theorem State.queuedSlots_setWordQueue_perm : (s.setWordQueue q l).queuedSlots.Perm (l ++ s.otherSlots q) := by
  match q with
  | .practice .a => exact .of_eq (List.append_assoc ..)
  | .practice .b =>
    have others : s.otherSlots (.practice .b) = s.ps.practice.a ++ s.ps.duel :=
      congrArg (· ++ s.ps.duel) (List.append_nil s.ps.practice.a)
    rw [others]
    exact (List.Perm.of_eq (List.append_assoc s.ps.practice.a l s.ps.duel)).trans (List.perm_append_comm_assoc ..)
  | .duel =>
    refine List.perm_append_comm.trans (.of_eq ?_)
    rw [State.otherSlots]
    exact congrArg (l ++ ·) (List.append_nil _).symm

theorem State.queuedSlots_perm : s.queuedSlots.Perm (s.wordQueue q ++ s.otherSlots q) := by
  have h := s.queuedSlots_setWordQueue_perm q (s.wordQueue q)
  rwa [State.setWordQueue_wordQueue] at h

end WordQueues

/-- A queue filled anew keeps the queues without duplicates when its words stood in it or in none. -/
theorem State.nodup_setWordQueue {s : State} {q : WordQueue} {l : List Nat} (h : s.queuedSlots.Nodup) (nodup : l.Nodup)
    (own : ∀ n ∈ l, n ∈ s.wordQueue q ∨ n ∉ s.queuedSlots) : (s.setWordQueue q l).queuedSlots.Nodup := by
  rw [(s.queuedSlots_setWordQueue_perm q l).nodup_iff, List.nodup_append']
  rw [(s.queuedSlots_perm q).nodup_iff, List.nodup_append'] at h
  obtain ⟨-, others, apart⟩ := h
  refine ⟨nodup, others, fun n hn other => ?_⟩
  obtain mine | free := own n hn
  · exact apart mine other
  · exact free ((s.queuedSlots_perm q).mem_iff.2 (List.mem_append_right _ other))

theorem State.isCandidate_setWordQueue (s : State) (o : Owner) (n : Nat) (q : WordQueue) (m : Nat) :
    (s.setWordQueue q (s.wordQueue q ++ [n])).isCandidate o m ↔ s.isCandidate o m ∧ m ≠ n := by
  have slots : m ∈ (s.setWordQueue q (s.wordQueue q ++ [n])).queuedSlots ↔ m ∈ s.queuedSlots ∨ m = n := by
    rw [(s.queuedSlots_setWordQueue_perm q _).mem_iff, (s.queuedSlots_perm q).mem_iff]
    simp only [List.mem_append, List.mem_singleton]
    tauto
  have dc : (s.setWordQueue q (s.wordQueue q ++ [n])).dc = s.dc := by cases q <;> rfl
  have ae : (s.setWordQueue q (s.wordQueue q ++ [n])).ae = s.ae := by cases q <;> rfl
  simp only [State.isCandidate, slots, dc, ae, State.entry_setWordQueue, not_or]
  constructor
  · rintro ⟨e, found, owner, unmastered, ⟨free', ne⟩, targets⟩
    exact ⟨⟨e, found, owner, unmastered, free', targets⟩, ne⟩
  · rintro ⟨⟨e, found, owner, unmastered, free', targets⟩, ne⟩
    exact ⟨e, found, owner, unmastered, ⟨free', ne⟩, targets⟩

theorem State.free_of_isCandidate {s : State} {o : Owner} {n : Nat} (h : s.isCandidate o n) : n ∉ s.queuedSlots := by
  obtain ⟨e, -, -, -, free, -⟩ := h
  exact free

theorem State.slot_of_isCandidate {s : State} {o : Owner} {n : Nat} (h : s.isCandidate o n) : n < s.wt.length := by
  obtain ⟨e, found, -⟩ := h
  obtain ⟨p, slot⟩ := slot_of_entry found
  exact slot_inside slot

theorem State.draw_inOrder (q : WordQueue) (limit : Nat) : ∀ (fuel : Nat) (s : State), s.wt.length = Config.slots →
    limit ≤ (s.wordQueue q).length + fuel → ∃ drawn, State.draw q limit fuel s = s.setWordQueue q (s.wordQueue q ++ drawn) ∧
      s.drawsInOrder q limit drawn
  | 0, s, _, enough => by
    refine ⟨[], ?_, nofun, .nil, .inl rfl, fun m _ _ => ⟨enough, nofun⟩⟩
    rw [List.append_nil, State.setWordQueue_wordQueue]
    rfl
  | k + 1, s, table, enough => by
    rw [State.draw]
    by_cases room : (s.wordQueue q).length < limit
    · rw [if_pos room]
      cases chosen : s.choose q.owner with
      | none =>
        refine ⟨[], ?_, nofun, .nil, .inl rfl, fun m candidate _ => absurd candidate ?_⟩
        · rw [List.append_nil, State.setWordQueue_wordQueue]
        · exact State.choose_none chosen m (table ▸ State.slot_of_isCandidate candidate)
      | some n =>
        obtain ⟨candidate, first⟩ := State.choose_some chosen
        obtain ⟨u, hu⟩ : ∃ u, u = s.setWordQueue q (s.wordQueue q ++ [n]) := ⟨_, rfl⟩
        have queue : u.wordQueue q = s.wordQueue q ++ [n] := by rw [hu, State.wordQueue_setWordQueue]
        have left (m : Nat) : u.isCandidate q.owner m ↔ s.isCandidate q.owner m ∧ m ≠ n := by
          rw [hu, State.isCandidate_setWordQueue]
        have order (l m : Nat) : u.chosenFirst l m ↔ s.chosenFirst l m := by
          simp only [State.chosenFirst, hu, State.entry_setWordQueue]
        have after (m : Nat) (hm : u.isCandidate q.owner m) : s.chosenFirst n m := by
          obtain ⟨old, ne⟩ := (left m).1 hm
          exact first m (table ▸ State.slot_of_isCandidate old) ne old
        obtain ⟨drawn, done, all, sorted, limited, rest⟩ := State.draw_inOrder q limit k u
          (by rw [hu]; cases q <;> exact table) (by rw [queue, List.length_append, List.length_singleton]; omega)
        rw [queue] at done limited rest
        simp only [List.length_append, List.length_singleton] at limited rest
        dsimp only
        refine ⟨n :: drawn, ?_, ?_, ?_, .inr ?_, fun m hm out => ?_⟩
        · rw [← hu, done, hu, State.setWordQueue_setWordQueue, List.append_assoc]
          rfl
        · intro m hm
          obtain rfl | later := List.mem_cons.1 hm
          · exact candidate
          · exact ((left m).1 (all m later)).1
        · refine List.pairwise_cons.2 ⟨fun m hm => after m (all m hm), sorted.imp fun h => (order _ _).1 h⟩
        · rw [List.length_cons]
          obtain rfl | inside := limited
          · exact room
          · omega
        · rw [List.mem_cons, not_or] at out
          obtain ⟨full, before⟩ := rest m ((left m).2 ⟨hm, out.1⟩) out.2
          refine ⟨by rw [List.length_cons]; omega, fun l hl => ?_⟩
          obtain rfl | later := List.mem_cons.1 hl
          · exact after m ((left m).2 ⟨hm, out.1⟩)
          · exact (order _ _).1 (before l later)
    · rw [if_neg room]
      refine ⟨[], ?_, nofun, .nil, .inl rfl, fun m _ _ => ⟨Nat.le_of_not_lt room, nofun⟩⟩
      rw [List.append_nil, State.setWordQueue_wordQueue]

theorem State.nodup_draw (q : WordQueue) (limit : Nat) : ∀ (fuel : Nat) (s : State), s.queuedSlots.Nodup →
    (State.draw q limit fuel s).queuedSlots.Nodup
  | 0, _, h => h
  | k + 1, s, h => by
    rw [State.draw]
    by_cases room : (s.wordQueue q).length < limit
    · rw [if_pos room]
      cases chosen : s.choose q.owner with
      | none => exact h
      | some n =>
        have free := State.free_of_isCandidate (State.choose_some chosen).1
        have parts := h
        rw [(s.queuedSlots_perm q).nodup_iff, List.nodup_append'] at parts
        refine State.nodup_draw q limit k _ (State.nodup_setWordQueue h ?_ fun m hm => ?_)
        · refine List.nodup_append'.2 ⟨parts.1, List.nodup_singleton n, fun m hm single => free ?_⟩
          rw [← List.mem_singleton.1 single]
          exact (s.queuedSlots_perm q).mem_iff.2 (List.mem_append_left _ hm)
        · obtain mine | single := List.mem_append.1 hm
          · exact .inl mine
          · exact .inr (List.mem_singleton.1 single ▸ free)
    · rwa [if_neg room]

theorem State.nodup_refillSeat {s : State} (h : s.queuedSlots.Nodup) (x : Seat) : (s.refillSeat x).queuedSlots.Nodup := by
  unfold State.refillSeat
  split
  · exact State.nodup_draw _ _ _ _ h
  · exact h

theorem State.nodup_refillDuel {s : State} (h : s.queuedSlots.Nodup) : s.refillDuel.queuedSlots.Nodup := by
  unfold State.refillDuel
  split
  · exact State.nodup_draw _ _ _ _ h
  · exact h

/-- The refill points (R13 to R15). -/
theorem refill_draws (s : State) (x : Seat) (table : s.wt.length = 96) (target : s.cfg.refillTarget ≤ 8) :
    ((s.ctx x).mode ≠ .solo ∨ s.cfg.refillMark = 0 ∨ s.cfg.refillMark ≤ (s.ps.practice.get x).length →
      s.refillSeat x = s) ∧
    ((s.ctx x).mode = .solo → s.cfg.refillMark ≠ 0 → (s.ps.practice.get x).length < s.cfg.refillMark →
      ∃ drawn, s.refillSeat x = s.setWordQueue (.practice x) (s.ps.practice.get x ++ drawn) ∧
        s.drawsInOrder (.practice x) s.cfg.refillTarget drawn) ∧
    (s.duelRuns = false ∨ s.cfg.refillMark = 0 ∨ s.cfg.refillMark ≤ s.ps.duel.length → s.refillDuel = s) ∧
    (s.duelRuns = true → s.cfg.refillMark ≠ 0 → s.ps.duel.length < s.cfg.refillMark →
      ∃ drawn, s.refillDuel = s.setWordQueue .duel (s.ps.duel ++ drawn) ∧
        s.drawsInOrder .duel (min s.cfg.refillTarget (s.dc.total - s.dc.round)) drawn) := by
  refine ⟨fun off => if_neg ?_, fun solo on short => ?_, fun off => if_neg ?_, fun runs on short => ?_⟩
  · rintro ⟨solo, on, short⟩
    obtain h | h | h := off
    · exact h solo
    · exact on h
    · omega
  · rw [State.refillSeat, if_pos ⟨solo, on, short⟩]
    exact State.draw_inOrder (.practice x) _ _ s table (Nat.le_add_left_of_le target)
  · rintro ⟨runs, on, short⟩
    obtain h | h | h := off
    · rw [runs] at h
      contradiction
    · exact on h
    · omega
  · rw [State.refillDuel, if_pos ⟨runs, on, short⟩]
    exact State.draw_inOrder .duel _ _ s table (Nat.le_add_left_of_le ((Nat.min_le_left _ _).trans target))

/-! ### No slot twice in the queues (R10) -/

/-- The words a queue keeps as a word is put back: a full queue loses its tail entry (R17). -/
def keptWords (l : List Nat) : List Nat := if l.length < Config.wordQueue then l else l.take (Config.wordQueue - 1)

theorem keptWords_sublist (l : List Nat) : (keptWords l).Sublist l := by
  unfold keptWords
  split
  · exact .refl l
  · exact List.take_sublist _ l

theorem putBack_perm (l : List Nat) (n i : Nat) : (putBack l n i).Perm (n :: keptWords l) :=
  List.perm_insertIdx n (keptWords l) (Nat.min_le_right _ _)

theorem putBack_nodup {l : List Nat} {n : Nat} (h : l.Nodup) (free : n ∉ l) (i : Nat) : (putBack l n i).Nodup := by
  refine (putBack_perm l n i).nodup_iff.2 (List.nodup_cons.2 ⟨fun kept => free (keptWords_sublist l |>.subset kept), ?_⟩)
  exact h.sublist (keptWords_sublist l)

theorem mem_putBack {l : List Nat} {n m i : Nat} (h : m ∈ putBack l n i) : m = n ∨ m ∈ l := by
  obtain rfl | kept := List.mem_cons.1 ((putBack_perm l n i).mem_iff.1 h)
  · exact .inl rfl
  · exact .inr ((keptWords_sublist l).subset kept)

theorem State.nodup_reinsert {s : State} {n : Nat} (h : s.queuedSlots.Nodup) (free : n ∉ s.queuedSlots) (q : WordQueue) (r : Reinsert) :
    (s.reinsert q n r).queuedSlots.Nodup := by
  have put (i : Nat) : (s.setWordQueue q (putBack (s.wordQueue q) n i)).queuedSlots.Nodup := by
    refine State.nodup_setWordQueue h (putBack_nodup ?_ ?_ i) fun m hm => ?_
    · exact (List.nodup_append'.1 ((s.queuedSlots_perm q).nodup_iff.1 h)).1
    · exact fun mine => free ((s.queuedSlots_perm q).mem_iff.2 (List.mem_append_left _ mine))
    · obtain rfl | mine := mem_putBack hm
      · exact .inr free
      · exact .inl mine
  unfold State.reinsert
  cases s.entry n with
  | none => exact h
  | some e =>
    cases r with
    | nowhere => exact h
    | front => exact put 0
    | gap => exact put s.cfg.reinsertGap

/-- The word at the head of a queue leaves the queues. -/
theorem State.nodup_pop {s : State} {q : WordQueue} {n : Nat} {rest : List Nat} (h : s.queuedSlots.Nodup)
    (queue : s.wordQueue q = n :: rest) :
    (s.setWordQueue q rest).queuedSlots.Nodup ∧ n ∉ (s.setWordQueue q rest).queuedSlots := by
  rw [(s.queuedSlots_perm q).nodup_iff, queue, List.cons_append] at h
  rw [(s.queuedSlots_setWordQueue_perm q rest).nodup_iff, (s.queuedSlots_setWordQueue_perm q rest).mem_iff]
  exact (List.nodup_cons.1 h).symm

theorem State.nodup_queueWordAt {s : State} (h : s.queuedSlots.Nodup) (q : WordQueue) (n : Nat) (front : Bool) :
    (s.queueWordAt q n front).1.queuedSlots.Nodup := by
  unfold State.queueWordAt
  by_cases hold : s.fb.condition = .hold
  · rwa [if_pos hold]
  · rw [if_neg hold]
    cases s.entry n with
    | none => exact h
    | some e =>
      dsimp only
      cases e.owner != q.owner with
      | true => exact h
      | false =>
        cases engaged : s.engaged n with
        | true => exact h
        | false =>
          have free : n ∉ s.queuedSlots := fun queued => by
            rw [(s.engaged_iff n).2 (.inl queued)] at engaged
            contradiction
          have mine : n ∉ s.wordQueue q := fun own => free ((s.queuedSlots_perm q).mem_iff.2 (List.mem_append_left _ own))
          have nodup := (List.nodup_append'.1 ((s.queuedSlots_perm q).nodup_iff.1 h)).1
          cases decide (Config.wordQueue ≤ (s.wordQueue q).length) with
          | true => exact h
          | false =>
            refine State.nodup_setWordQueue h ?_ fun m hm => ?_
            · cases front with
              | true => exact List.nodup_cons.2 ⟨mine, nodup⟩
              | false => exact (List.perm_append_singleton n _).nodup_iff.2 (List.nodup_cons.2 ⟨mine, nodup⟩)
            · have member : m = n ∨ m ∈ s.wordQueue q := by
                cases front with
                | true => exact List.mem_cons.1 hm
                | false => exact List.mem_cons.1 ((List.perm_append_singleton n _).mem_iff.1 hm)
              obtain rfl | own := member
              · exact .inr free
              · exact .inl own

theorem State.nodup_queueWordOwner {s : State} (h : s.queuedSlots.Nodup) (queue slot position : Byte) :
    (queueWordOwner queue slot position s).1.queuedSlots.Nodup := by
  unfold queueWordOwner
  cases queueOf queue with
  | none => exact h
  | some q =>
    cases frontOf position with
    | none => exact h
    | some front =>
      dsimp only
      split
      · exact State.nodup_queueWordAt h _ _ _
      · exact h

theorem queueWord_keeps_nodup (tag queue slot position : Byte) :
    KeptOutside (fun c => c = .queueWord tag queue slot position) fun u : State => u.queuedSlots.Nodup where
  held := fun _ h => h
  link := fun _ _ _ h => h
  powerUp := nofun
  restart := nofun
  fault := fun s c k d r h => by
    unfold State.queuedSlots
    rwa [State.recordFault_ps]
  sense := fun _ _ _ _ h => h
  owner := fun c s is _ _ h => by
    subst is
    exact State.nodup_queueWordOwner h queue slot position
  act := fun c s is _ h => by
    subst is
    exact h

/-- Settles O20: a practice begins with the head of its queue, and the queues hold no slot twice. -/
theorem startSoloPresentsTheFirstWord : Obligations.StartSoloPresentsTheFirstWord := by
  refine ⟨startSolo_presents, startSolo_done, refill_draws, fun s x q n r h => ⟨s.engaged_iff n, State.nodup_refillSeat h x,
    State.nodup_refillDuel h, fun free => State.nodup_reinsert h free q r, fun rest queue => State.nodup_pop h queue,
    fun tag queue slot position t ht => (queueWord_keeps_nodup tag queue slot position).exec (fun d runs => ?_) h ht⟩⟩
  obtain same | ⟨-, v, completes | byte, -⟩ := runs
  · exact same.symm
  · contradiction
  · contradiction

end Sys2Proof.Machine
end

section
/-! Rounds of a duel: a round presented in quiet speech, and the duel finished (R75, R77, R87). -/

namespace Sys2Proof.Machine

/-! ### A round is presented (R77) -/

theorem State.refillDuel_full {s : State} (h : s.cfg.refillMark ≤ s.ps.duel.length) : s.refillDuel = s :=
  if_neg fun ⟨_, _, short⟩ => Nat.not_lt_of_le h short

/-- The state in which a round has begun on the word that headed the duel queue and its prompt is yet to come. -/
def State.roundOpened (s : State) (n : Nat) (e : WordEntry) (rest : List Nat) : State :=
  ((s.setWordQueue .duel rest).beginRound n e).openRound

theorem State.presentRound_word {s : State} {n : Nat} {rest : List Nat} {e : WordEntry} (normal : s.fb.condition = .normal)
    (full : s.refillDuel = s) (queue : s.ps.duel = n :: rest) (slot : s.slot n = .occupied e true)
    (ready : s.clipReady e.wordClip = true) : s.presentRound =
      (s.roundOpened n e rest, [.takeKeys .a, .takeKeys .b, .duelFirm .prompt (s.promptClips e.copy s.dc.sentence)]) := by
  rw [State.presentRound, if_neg (by simp [normal]), full]
  dsimp only
  rw [queue]
  dsimp only
  rw [State.readTarget_good (s := s.setWordQueue .duel rest) slot]
  exact if_pos ready

section RoundOpened

variable (s : State) (n : Nat) (e : WordEntry) (rest : List Nat)

theorem State.ctx_roundOpened (x : Seat) :
    (s.roundOpened n e rest).ctx x = { (s.ctx x).newAttempt n e with state := .prompting } := by
  cases x <;> rfl

theorem State.round_roundOpened (x : Seat) : (s.roundOpened n e rest).round x = .begun := by
  cases x <;> rfl

theorem State.entry_roundOpened (m : Nat) :
    (s.roundOpened n e rest).entry m = (s.entry m).map fun f => f.rested (decide (m = n)) .both := by
  rw [← State.entry_setWordQueue s .duel rest m]
  exact State.entry_updateRests ..

end RoundOpened

/-- The state in which a round's prompt plays: the keys that were queued have been taken and discarded (R76, R77). -/
def State.roundPrompts (s : State) (n : Nat) (e : WordEntry) (rest : List Nat) : State :=
  (((s.roundOpened n e rest).clearKeys .a).clearKeys .b).duelSpeaks .prompt (s.promptClips e.copy s.dc.sentence)

/-- A context with no key queued, or one that discards its keys, ends up with none. -/
theorem Leads.clearsKeys {s : State} {x : Seat} (h : (s.seat x).keys = [] ∨ s.discardsKeys x ∧ (s.seat x).keys.length ≤ 16)
    (thawed : s.fb.frozen = false) : Leads 17 s [.takeKeys x] (s.clearKeys x) := by
  obtain empty | ⟨discards, few⟩ := h
  · rw [State.clearKeys_of_empty empty]
    obtain ⟨j, hj, drains⟩ := Leads.noKeys empty
    exact ⟨j, by omega, drains⟩
  · exact .discardsAll few thawed discards

theorem Leads.presentRound {s : State} {n : Nat} {rest : List Nat} {e : WordEntry} (normal : s.fb.condition = .normal)
    (full : s.refillDuel = s) (queue : s.ps.duel = n :: rest) (slot : s.slot n = .occupied e true)
    (ready : s.clipReady e.wordClip = true) (quiet : s.speechQuiet)
    (keys : ∀ x, (s.seat x).keys = [] ∨ (s.ctx x).mode = .duel ∧ (s.seat x).keys.length ≤ 16)
    (thawed : s.fb.frozen = false) : Leads 38 s [.presentRound] (s.roundPrompts n e rest) := by
  refine .acts thawed (State.presentRound_word normal full queue slot ready) ?_
  have few (x : Seat) : (s.seat x).keys = [] ∨ (s.roundOpened n e rest).discardsKeys x ∧ (s.seat x).keys.length ≤ 16 := by
    refine (keys x).imp_right fun ⟨mode, few⟩ => ⟨.inr (.inr (.inr ?_)), few⟩
    rw [State.ctx_roundOpened]
    exact ⟨rfl, mode⟩
  exact (Leads.clearsKeys (s := s.roundOpened n e rest) (x := .a) (few .a) thawed).cons
    ((Leads.clearsKeys (s := (s.roundOpened n e rest).clearKeys .a) (x := .b) (few .b) thawed).cons
      (Leads.duelFirm (s := ((s.roundOpened n e rest).clearKeys .a).clearKeys .b) (State.speechQuiet_congr quiet rfl) thawed
        (s.prompt_ne_nil _ _) (State.prompt_all_ready (s := s) (k := e.copy) ready _)))

/-! ### The duel is finished (R87) -/

theorem State.presentRound_noWords {s : State} (normal : s.fb.condition = .normal) (full : s.refillDuel = s)
    (empty : s.ps.duel = []) : s.presentRound = s.finishDuel .noWords := by
  rw [State.presentRound, if_neg (by simp [normal]), full]
  dsimp only
  rw [empty]

/-- The state in which the duel has finished and the seats' queued keys are yet to be taken. -/
def State.duelOver (s : State) (r : FinishReason) : State := (s.finishDuel r).1

theorem State.finishDuel_eq (s : State) (r : FinishReason) : s.finishDuel r = (s.duelOver r, [.takeKeys .a, .takeKeys .b]) :=
  rfl

theorem State.ctx_duelOver (s : State) (r : FinishReason) (x : Seat) : (s.duelOver r).ctx x = (s.ctx x).afterDuel := by
  cases x <;> rfl

theorem Context.afterDuel_of_free {c : Context} (h : c.pendingRecord = none) : c.afterDuel = c.toIdle := by
  rw [Context.afterDuel, h]
  rfl

/-- A finished duel whose contexts hold no record discards the queued keys. -/
theorem Leads.finishes {s : State} {r : FinishReason} (thawed : s.fb.frozen = false)
    (free : ∀ x, (s.ctx x).pendingRecord = none) (few : ∀ x, (s.seat x).keys.length ≤ 16) :
    Leads 34 (s.duelOver r) [.takeKeys .a, .takeKeys .b] (((s.duelOver r).clearKeys .a).clearKeys .b) := by
  have idle (x : Seat) : (s.duelOver r).discardsKeys x := by
    refine .inl ?_
    rw [State.ctx_duelOver, Context.afterDuel_of_free (free x)]
    rfl
  exact (Leads.discardsAll (s := s.duelOver r) (x := .a) (few .a) thawed (idle .a)).cons
    (Leads.discardsAll (s := (s.duelOver r).clearKeys .a) (x := .b) (few .b) thawed (idle .b))

/-! ### START_DUEL (R75, R77) -/

theorem startDuel_answer {s : State} {rounds options : Byte} (low : 1 ≤ rounds.toNat) (high : rounds.toNat ≤ 20)
    (normal : s.fb.condition = .normal) (readyA : (s.seat .a).state = .ready) (readyB : (s.seat .b).state = .ready)
    (offA : s.ae.a.mode = .off) (offB : s.ae.b.mode = .off) (noDuel : s.duelRuns = false) :
    startDuelOwner rounds options s =
      ((((s.setDuel rounds.toNat (options.getLsbD 0) (options.getLsbD 2)).refillDuel).carryOut [.presentRound]).ok []) := by
  have inside : decide (rounds.toNat = 0 ∨ 20 < rounds.toNat) = false := decide_eq_false (by omega)
  have allowed : s.duelBarred = false := by simp [State.duelBarred, normal, readyA, readyB, offA, offB, noDuel]
  rw [startDuelOwner, inside, allowed, State.refuseIf_false, State.refuseIf_false]

theorem ctx_setDuel (s : State) (rounds : Nat) (echo sentence : Bool) (x : Seat) :
    (s.setDuel rounds echo sentence).ctx x = (s.ctx x).startDuel echo sentence := by
  cases x <;> rfl

/-- Settles O26: a duel begins with the prompt of its first round, and without a word it is over at once. -/
theorem startDuelPresentsTheFirstRound : Obligations.StartDuelPresentsTheFirstRound := by
  constructor
  · intro s tag rounds options n rest e taken low high normal readyA readyB offA offB noDuel queue enough slot ready quiet
      keysA keysB thawed
    obtain ⟨u, hu⟩ : ∃ u, u = s.setDuel rounds.toNat (options.getLsbD 0) (options.getLsbD 2) := ⟨_, rfl⟩
    have keys (x : Seat) : (s.seat x).keys = [] := by cases x <;> assumption
    have full : u.refillDuel = u := State.refillDuel_full (by rw [hu]; exact (congrArg List.length queue).symm ▸ enough)
    have ctxU (x : Seat) : u.ctx x = (s.ctx x).startDuel (options.getLsbD 0) (options.getLsbD 2) := by rw [hu, ctx_setDuel]
    obtain ⟨v, hv⟩ : ∃ v, v = u.roundOpened n e rest := ⟨_, rfl⟩
    have cleared (x : Seat) : v.clearKeys x = v := State.clearKeys_of_empty (by rw [hv, hu]; exact keys x)
    obtain ⟨t, ht⟩ : ∃ t, t = v.duelSpeaks .prompt (u.promptClips e.copy u.dc.sentence) := ⟨_, rfl⟩
    have leads : Leads 38 u [.presentRound] t := by
      have prompts : t = u.roundPrompts n e rest := by
        rw [ht, State.roundPrompts, ← hv, cleared .a, cleared .b]
      rw [prompts]
      refine Leads.presentRound ?_ full ?_ ?_ ?_ (State.speechQuiet_congr quiet (by rw [hu]; rfl))
        (fun x => .inl ?_) ?_
      case refine_5 =>
        rw [hu]
        exact keys x
      all_goals
        rw [hu]
        assumption
    have answer : requestOwner (.startDuel tag rounds options) s = (t, .ok, []) := by
      refine (startDuel_answer low high normal readyA readyB offA offB noDuel).trans ?_
      rw [← hu, full, leads.carryOut (by decide)]
      rfl
    have fixed : t.fixed = s.fixed := by
      rw [← leads.carryOut (by decide), State.fixed_carryOut, hu]
      rfl
    have ctxT (x : Seat) : t.ctx x =
        { ((s.ctx x).startDuel (options.getLsbD 0) (options.getLsbD 2)).newAttempt n e with state := .prompting } := by
      rw [← ctxU, ← State.ctx_roundOpened u n e rest x, ← hv, ht]
      rfl
    have roundT (x : Seat) : t.round x = .begun := by
      rw [← State.round_roundOpened u n e rest x, ← hv, ht]
      rfl
    have entries (m : Nat) : t.entry m = (s.entry m).map fun f => f.rested (decide (m = n)) .both := by
      rw [show t.entry m = (u.roundOpened n e rest).entry m from State.entry_congr (by rw [ht, hv]; rfl) m,
        State.entry_roundOpened, hu]
      rfl
    refine ⟨t, exec_answer rfl taken answer, ?_, ?_, ?_, ?_, ?_, ?_, ?_, ?_, ?_, ?_, fun x => ?seats, ?_, ?entry, fun m hm => ?others,
      ⟨⟨⟨v.freeHandle, .duel, .prompt, v.routeOf .duel, u.promptClips e.copy u.dc.sentence⟩, 0, 0, 0⟩, ?_, ?_, rfl, rfl, ?way, ?spoken⟩,
      ?_, ?_, fixed⟩
    case seats =>
      rw [ctxT, roundT]
      exact ⟨rfl, rfl, rfl, rfl, rfl, rfl, rfl, rfl⟩
    case entry =>
      rw [entries, State.entry, slot]
      simp [WordEntry.rested]
    case others =>
      rw [entries m]
      simp only [WordEntry.rested, hm, decide_false, Bool.false_eq_true, if_false]
    case way =>
      rw [hv, hu]
      rfl
    case spoken =>
      rw [hu]
      rfl
    all_goals
      rw [ht, hv, hu]
      rfl
  · intro s tag rounds options taken low high normal readyA readyB offA offB noDuel empty noRefill fewA fewB free thawed
    obtain ⟨u, hu⟩ : ∃ u, u = s.setDuel rounds.toNat (options.getLsbD 0) (options.getLsbD 2) := ⟨_, rfl⟩
    have full : u.refillDuel = u := State.refillDuel_off (by rw [hu]; exact noRefill)
    have few (x : Seat) : (s.seat x).keys.length ≤ 16 := by cases x <;> assumption
    obtain ⟨t, ht⟩ : ∃ t, t = ((u.duelOver .noWords).clearKeys .a).clearKeys .b := ⟨_, rfl⟩
    have freeU (x : Seat) : (u.ctx x).pendingRecord = none := by
      rw [hu, ctx_setDuel]
      exact free x
    have thawedU : u.fb.frozen = false := by rw [hu]; exact thawed
    have leads : Leads 35 u [.presentRound] t := by
      rw [ht]
      refine .acts thawedU ((State.presentRound_noWords (by rw [hu]; exact normal) full (by rw [hu]; exact empty)).trans
        (State.finishDuel_eq _ _)) (Leads.finishes thawedU freeU fun x => ?_)
      rw [hu]
      exact few x
    have answer : requestOwner (.startDuel tag rounds options) s = (t, .ok, []) := by
      refine (startDuel_answer low high normal readyA readyB offA offB noDuel).trans ?_
      rw [← hu, full, leads.carryOut (by decide)]
      rfl
    have fixed : t.fixed = s.fixed := by
      rw [← leads.carryOut (by decide), State.fixed_carryOut, hu]
      rfl
    have ctxT (x : Seat) : t.ctx x = (u.ctx x).toIdle := by
      rw [← Context.afterDuel_of_free (freeU x), ← State.ctx_duelOver u .noWords x, ht]
      rfl
    refine ⟨t, exec_answer rfl taken answer, ?_, ?_, ?_, ?_, ?pending, fun x => ?seats, ?_, ?_, ?_, ?_, ?_, fixed⟩
    case pending =>
      rw [ht]
      exact State.isPending_raise _ _
    case seats =>
      rw [ctxT, ht]
      refine ⟨rfl, rfl, ?_⟩
      cases x <;> rfl
    all_goals
      rw [ht, hu]
      rfl

end Sys2Proof.Machine
end

section
/-! Releasing results: the record that waited is appended, and its context goes on (R47, R86, R99); the attention sets
(R104 to R107). -/

namespace Sys2Proof.Machine

/-! ### The release (R99) -/

/-- The state in which the oldest records are gone and the record `r` that waited with stamp 1 is in the log. -/
def State.waitingAppended (s : State) (k : Nat) (x : Seat) (r : ResultRecord) (rest : List Seat) : State :=
  ((({ s.removeOldest k with rl := { (s.removeOldest k).rl with waiting := rest } } : State).setCtx x
    { s.ctx x with pendingRecord := none })).appendRecord r

/-- Its Attention Unit: the causes that the removal and the append raise. -/
def State.releaseAttention (s : State) (k : Nat) (x : Seat) (r : ResultRecord) (rest : List Seat) : Attention :=
  (s.waitingAppended k x r rest).au

section WaitingAppended

variable {s : State} {k : Nat} {x : Seat} {r : ResultRecord} {rest : List Seat}

theorem State.waitingAppended_eq : s.waitingAppended k x r rest =
    { s.setCtx x { s.ctx x with pendingRecord := none } with
      rl := { records := s.rl.records.drop k ++ [{ r with number := some s.rl.counter }]
              counter := wrapSucc s.rl.counter
              waiting := rest
              threshold := decide (s.cfg.logThreshold < s.rl.records.length - k + 1) }
      au := s.releaseAttention k x r rest } := by
  rw [State.releaseAttention, State.waitingAppended, State.appendRecord_only, State.removeOldest, State.evaluateThreshold_only]
  simp only [State.setCtx, State.ctx, List.length_drop]

theorem State.ctx_waitingAppended_self : (s.waitingAppended k x r rest).ctx x = { s.ctx x with pendingRecord := none } := by
  rw [State.waitingAppended_eq]
  exact State.ctx_setCtx_self s x _

theorem State.ctx_waitingAppended_other : (s.waitingAppended k x r rest).ctx x.other = s.ctx x.other := by
  rw [State.waitingAppended_eq]
  exact State.ctx_setCtx_other s x _

theorem State.records_waitingAppended :
    (s.waitingAppended k x r rest).rl.records.length = s.rl.records.length - k + 1 := by
  rw [State.waitingAppended_eq]
  simp

/-- The first record that waits is appended when the removal has made room for it. -/
theorem State.appendWaiting_removeOldest (waiting : s.rl.waiting = x :: rest) (room : s.rl.records.length - k < 32)
    (record : (s.ctx x).pendingRecord = some r) :
    (s.removeOldest k).appendWaiting = (s.waitingAppended k x r rest, some x) := by
  have rl : (s.removeOldest k).rl.waiting = x :: rest := by
    rw [State.removeOldest, State.evaluateThreshold_only]
    exact waiting
  have ctx : (s.removeOldest k).ctx x = s.ctx x := by rw [State.removeOldest, State.evaluateThreshold_only]; rfl
  have hasRoom : (s.removeOldest k).logHasRoom = true := by
    rw [State.removeOldest, State.evaluateThreshold_only, State.logHasRoom, List.length_drop]
    exact decide_eq_true room
  rw [State.appendWaiting, rl]
  dsimp only
  rw [if_pos hasRoom, ctx, record]
  dsimp only
  rw [State.waitingAppended, ← ctx]
  rfl

/-- No further record is appended. -/
theorem State.appendWaiting_stops (h : s.rl.waiting = [] ∨ s.logHasRoom = false) : s.appendWaiting = (s, none) := by
  unfold State.appendWaiting
  obtain empty | full := h
  · rw [empty]
  · cases s.rl.waiting with
    | nil => rfl
    | cons y ys => exact if_neg (by simp [full])

/-- A release that appends one record and then lets its context go on. -/
theorem releaseResults_one {tag m : Byte} {j : Nat} {t : State}
    (taken : s.takes (.releaseResults tag m)) (low : 1 ≤ m.toNat) (inside : m.toNat ≤ s.rl.records.length)
    (waiting : s.rl.waiting = x :: rest) (room : s.rl.records.length - m.toNat < 32)
    (record : (s.ctx x).pendingRecord = some r)
    (stops : (s.waitingAppended m.toNat x r rest).rl.waiting = [] ∨ (s.waitingAppended m.toNat x r rest).logHasRoom = false)
    (leads : Leads j (s.waitingAppended m.toNat x r rest) [.appended x] t) (few : j ≤ Config.cascade) :
    exec (.releaseResults tag m) s = .next (t.replied (.releaseResults tag m) .ok
      (byte t.rl.records.length :: lowFirst t.rl.counter)) := by
  have allowed : decide (m.toNat = 0 ∨ s.rl.records.length < m.toNat) = false := decide_eq_false (by omega)
  have released : s.release m.toNat = t := by
    rw [State.release, State.appendAllWaiting, State.appendWaiting_removeOldest waiting room record]
    dsimp only
    rw [State.appendWaiting_stops stops]
    exact leads.carryOut few
  refine exec_answer rfl taken ?_
  show releaseResultsOwner m s = _
  rw [releaseResultsOwner, allowed, State.refuseIf_false, released]
  rfl

theorem State.fixed_waitingAppended : (s.waitingAppended k x r rest).fixed = s.fixed := by
  rw [State.waitingAppended, State.fixed_appendRecord, State.fixed_setCtx]
  exact State.fixed_evaluateThreshold _

end WaitingAppended

/-! ### What follows the append (R47, R86) -/

/-- A solo context whose stop is marked goes to IDLE with mode OFF. -/
theorem Leads.appended_stopped {s : State} {x : Seat} (solo : (s.ctx x).mode = .solo) (stop : (s.ctx x).stopMarked = true)
    (few : (s.seat x).keys.length ≤ 16) (thawed : s.fb.frozen = false) :
    Leads 18 s [.appended x] ((s.setCtx x (s.ctx x).toIdle).clearKeys x) := by
  have goes : s.recordAppended x = (s.setCtx x (s.ctx x).toIdle, [.takeKeys x]) := by
    rw [State.recordAppended, if_neg (by simp [solo]), State.goOnSolo, if_pos (.inl stop)]
    rfl
  refine .acts thawed goes (Leads.discardsAll (s := s.setCtx x (s.ctx x).toIdle) few thawed (.inl ?_))
  rw [State.ctx_setCtx_self]
  rfl

/-- The duel context of an appended record in FEEDBACK, with the record status IN_LOG (R86). -/
def State.recordLogged (s : State) (x : Seat) : State :=
  (s.setRecordStatus x .inLog).setCtx x (s.ctx x).toFeedback

theorem seat_eq_or_eq_other (x y : Seat) : y = x ∨ y = x.other := by
  cases x <;> cases y <;> simp [Seat.other]

section RecordLogged

variable (s : State) (x : Seat)

theorem State.ctx_recordLogged_self : (s.recordLogged x).ctx x = (s.ctx x).toFeedback := State.ctx_setCtx_self _ x _

theorem State.ctx_recordLogged_other : (s.recordLogged x).ctx x.other = s.ctx x.other := State.ctx_setCtx_other _ x _

theorem State.round_recordLogged_self : (s.recordLogged x).round x = { s.round x with record := .inLog } := by
  cases x <;> rfl

theorem State.round_recordLogged_other : (s.recordLogged x).round x.other = s.round x.other := by
  cases x <;> rfl

end RecordLogged

theorem State.recordAppended_duel {s : State} {x : Seat} (duel : (s.ctx x).mode = .duel) (runs : s.duelRuns = true) :
    s.recordAppended x = (s.recordLogged x, [.afterRecords]) := by
  rw [State.recordAppended, if_pos duel, State.duelAppended]
  exact if_pos runs

/-! ### The requests with no record waiting (R99, R105, R106) -/

theorem releaseResults_none {s : State} {tag k : Byte} (taken : s.takes (.releaseResults tag k)) (low : 1 ≤ k.toNat)
    (inside : k.toNat ≤ s.rl.records.length) (waiting : s.rl.waiting = []) :
      ∃ t : State, exec (.releaseResults tag k) s = .next (t.replied (.releaseResults tag k) .ok
          [byte (s.rl.records.length - k.toNat), byte s.rl.counter, byte (s.rl.counter / 256)]) ∧
        t = { s with
          rl := { s.rl with
            records := s.rl.records.drop k.toNat
            threshold := decide (s.cfg.logThreshold < s.rl.records.length - k.toNat) }
          au := { s.au with raised :=
            if s.cfg.logThreshold < s.rl.records.length - k.toNat ∧ s.rl.threshold = false
            then s.au.raised ||| 32#16 else s.au.raised } } := by
  have allowed : decide (k.toNat = 0 ∨ s.rl.records.length < k.toNat) = false := decide_eq_false (by omega)
  have removed : s.removeOldest k.toNat = { s with
      rl := { s.rl with
        records := s.rl.records.drop k.toNat
        threshold := decide (s.cfg.logThreshold < s.rl.records.length - k.toNat) }
      au := { s.au with raised :=
        if s.cfg.logThreshold < s.rl.records.length - k.toNat ∧ s.rl.threshold = false
        then s.au.raised ||| 32#16 else s.au.raised } } := by
    rw [State.removeOldest, State.evaluateThreshold_only, State.evaluateThreshold_raised]
    simp only [List.length_drop, decide_eq_true_eq]
  have released : s.release k.toNat = s.removeOldest k.toNat := by
    rw [State.release, State.appendAllWaiting, State.appendWaiting_stops (.inl (by rw [removed]; exact waiting))]
    rfl
  refine ⟨_, exec_answer rfl taken ?_, removed⟩
  show releaseResultsOwner k s = _
  rw [releaseResultsOwner, allowed, State.refuseIf_false, released, removed, State.ok, List.length_drop]
  rfl

theorem getLsbD_allCauses (i : Nat) : allCauses.getLsbD i = decide (i < 11) := by
  show (2 ^ 11 - 1).testBit i = _
  exact Nat.testBit_two_pow_sub_one 11 i

/-- The eleven causes are the low bits. -/
theorem andNot_allCauses_eq_zero_iff (causes : Word16) : (causes &&& ~~~allCauses) = 0 ↔ causes.toNat < 2048 := by
  constructor
  · intro none
    refine Nat.lt_pow_two_of_testBit (n := 11) _ fun i hi => ?_
    by_cases width : i < 16
    · have bit : (causes &&& ~~~allCauses).getLsbD i = false := by
        rw [none]
        exact BitVec.getLsbD_zero
      rw [BitVec.getLsbD_and, BitVec.getLsbD_not, getLsbD_allCauses] at bit
      simp only [width, Nat.not_lt.2 hi, decide_true, decide_false, Bool.not_false, Bool.and_true] at bit
      exact bit
    · exact causes.getLsbD_of_ge i (Nat.le_of_not_lt width)
  · intro low
    refine BitVec.eq_of_getLsbD_eq fun i _ => ?_
    rw [BitVec.getLsbD_and, BitVec.getLsbD_not, getLsbD_allCauses]
    by_cases inside : i < 11
    · simp [inside]
    · have clear : causes.getLsbD i = false :=
        Nat.testBit_lt_two_pow (low.trans_le (Nat.pow_le_pow_right (n := 2) (by decide) (Nat.le_of_not_lt inside)))
      simp [clear]

/-! ### The running duel (R77, R86) -/

/-- A running duel with a record still waiting goes no further (R86). -/
theorem State.afterRecords_waits {s : State} {x : Seat} (h : (s.round x).record = .waiting) : s.afterRecords = (s, []) := by
  refine if_neg fun ⟨_, a, b⟩ => ?_
  cases x with
  | a =>
    rw [h] at a
    contradiction
  | b =>
    rw [h] at b
    contradiction

/-- With both records in the log the next round is presented, unless the round was the last (R86). -/
theorem State.afterRecords_presents {s : State} (runs : s.duelRuns = true) (logged : ∀ y, (s.round y).record = .inLog)
    (more : s.dc.round ≠ s.dc.total) : s.afterRecords = (s.staleJudgements, [.presentRound]) := by
  rw [State.afterRecords, if_pos ⟨runs, logged .a, logged .b⟩]
  exact if_neg more

section RoundPrompts

variable (s : State) (n : Nat) (e : WordEntry) (rest : List Nat) (x : Seat)

theorem State.ctx_roundPrompts : (s.roundPrompts n e rest).ctx x = { (s.ctx x).newAttempt n e with state := .prompting } :=
  State.ctx_roundOpened s n e rest x

theorem State.round_roundPrompts : (s.roundPrompts n e rest).round x = .begun := State.round_roundOpened s n e rest x

theorem State.rl_roundPrompts : (s.roundPrompts n e rest).rl = s.rl := rfl

theorem State.fb_roundPrompts : (s.roundPrompts n e rest).fb = s.fb := rfl

theorem State.seat_roundPrompts : (s.roundPrompts n e rest).seat x = { s.seat x with keys := [] } := by
  cases x <;> rfl

end RoundPrompts

/-- A round presented in quiet speech (R77). -/
theorem State.presents_roundPrompts {s : State} {n : Nat} {e : WordEntry} {p : Bool} (rest : List Nat) (quiet : s.speechQuiet)
    (slot : s.slot n = .occupied e p) : (s.roundPrompts n e rest).presents s n rest e := by
  have entry : (s.roundPrompts n e rest).entry n = some { e with rest := 0 } := by
    refine (State.entry_roundOpened s n e rest n).trans ?_
    rw [State.entry, slot]
    simp [WordEntry.rested]
  have quiet' := (speechQuiet_iff s).1 quiet
  refine ⟨rfl, rfl, rfl, rfl, rfl, rfl, rfl, rfl, entry, fun x => ?_, ⟨_, rfl, rfl, rfl, rfl, rfl, rfl⟩, quiet'.2.1, quiet.2⟩
  rw [State.ctx_roundPrompts, State.round_roundPrompts]
  exact ⟨rfl, rfl, rfl, rfl, rfl, rfl⟩

theorem State.presents_congr {t s s' : State} {n : Nat} {e : WordEntry} {rest : List Nat} (h : t.presents s n rest e)
    (round : s'.dc.round = s.dc.round) (scores : s'.dc.scores = s.dc.scores) (ps : s'.ps = s.ps)
    (clips : s'.promptClips e.copy s'.dc.sentence = s.promptClips e.copy s.dc.sentence) : t.presents s' n rest e := by
  unfold State.presents at h ⊢
  rwa [round, scores, ps, clips]

/-- The records are in the log and a word is queued: the next round's prompt plays. -/
theorem Leads.afterRecords {s : State} {n : Nat} {rest : List Nat} {e : WordEntry} (runs : s.duelRuns = true)
    (logged : ∀ y, (s.round y).record = .inLog) (more : s.dc.round ≠ s.dc.total) (normal : s.fb.condition = .normal)
    (noRefill : s.cfg.refillMark = 0) (queue : s.ps.duel = n :: rest) (slot : s.slot n = .occupied e true)
    (ready : s.clipReady e.wordClip = true) (quiet : s.speechQuiet)
    (keys : ∀ x, (s.seat x).keys = [] ∨ (s.ctx x).mode = .duel ∧ (s.seat x).keys.length ≤ 16)
    (thawed : s.fb.frozen = false) : Leads 39 s [.afterRecords] (s.staleJudgements.roundPrompts n e rest) :=
  .acts thawed (State.afterRecords_presents runs logged more) (Leads.presentRound (s := s.staleJudgements) normal
    (State.refillDuel_off (s := s.staleJudgements) noRefill) queue slot ready (State.speechQuiet_congr quiet rfl) keys
    thawed)

theorem attentionAsserted_iff (s : State) (up : s.resetHeld = false) : s.attentionAsserted = true ↔
    ∃ i, s.au.raised.getLsbD i = true ∧ s.au.enabled.getLsbD i = true := by
  rw [State.attentionAsserted, up, Bool.not_false, Bool.true_and, bne_iff_ne]
  constructor
  · intro some
    by_contra none
    refine some (BitVec.eq_of_getLsbD_eq fun i _ => ?_)
    rw [BitVec.getLsbD_and]
    refine (Bool.and_eq_false_iff.2 ?_).trans BitVec.getLsbD_zero.symm
    by_contra both
    rw [not_or, Bool.not_eq_false, Bool.not_eq_false] at both
    exact none ⟨i, both⟩
  · rintro ⟨i, raised, enabled⟩ zero
    have bit := congrArg (·.getLsbD i) zero
    simp [raised, enabled] at bit

/-! ### Settling the requests of the log and of attention -/

theorem releaseResults_solo : ∀ (s : State) (tag k : Byte) (x : Seat) (r : ResultRecord), s.takes (.releaseResults tag k) → 1 ≤ k.toNat →
    k.toNat ≤ s.rl.records.length → s.rl.records.length ≤ 32 → s.rl.waiting = [x] →
    (s.ctx x).pendingRecord = some r → (s.ctx x).mode = .solo → (s.ctx x).stopMarked = true →
    (s.seat x).keys.length ≤ 16 → s.fb.frozen = false →
    ∃ t : State, exec (.releaseResults tag k) s = .next (t.replied (.releaseResults tag k) .ok
        [byte (s.rl.records.length - k.toNat + 1), byte ((s.rl.counter + 1) % 65536),
          byte ((s.rl.counter + 1) % 65536 / 256)]) ∧
      t.rl.records = s.rl.records.drop k.toNat ++ [{ r with number := some s.rl.counter }] ∧
      t.rl.waiting = [] ∧ t.rl.counter = (s.rl.counter + 1) % 65536 ∧
      t.rl.threshold = decide (s.cfg.logThreshold < s.rl.records.length - k.toNat + 1) ∧
      (t.ctx x).state = .idle ∧ (t.ctx x).mode = .off ∧ (t.ctx x).pendingRecord = none ∧
      t.ctx x.other = s.ctx x.other ∧ t.ps = s.ps ∧ t.wt = s.wt ∧ t.dc = s.dc ∧ t.se = s.se ∧ t.fb = s.fb ∧
      t.fixed = s.fixed := by
  intro s tag k x r taken low inside room waiting record solo stop few thawed
  obtain ⟨u, hu⟩ : ∃ u, u = s.waitingAppended k.toNat x r [] := ⟨_, rfl⟩
  have only := hu.trans State.waitingAppended_eq
  have ctxU : u.ctx x = { s.ctx x with pendingRecord := none } := by rw [hu, State.ctx_waitingAppended_self]
  obtain ⟨t, ht⟩ : ∃ t, t = (u.setCtx x (u.ctx x).toIdle).clearKeys x := ⟨_, rfl⟩
  have leads : Leads 18 u [.appended x] t := by
    rw [ht]
    refine .appended_stopped (by rw [ctxU]; exact solo) (by rw [ctxU]; exact stop) ?_ ?_
    all_goals
      rw [only]
      assumption
  have fixed : t.fixed = s.fixed := by
    rw [← leads.carryOut (by decide), State.fixed_carryOut, hu, State.fixed_waitingAppended]
  have lengthT : t.rl.records.length = s.rl.records.length - k.toNat + 1 := by
    rw [ht]
    show u.rl.records.length = _
    rw [hu, State.records_waitingAppended]
  have counterT : t.rl.counter = (s.rl.counter + 1) % 65536 := by
    rw [ht, only]
    rfl
  have ctxT : t.ctx x = { s.ctx x with pendingRecord := none }.toIdle := by
    rw [← ctxU, ht]
    exact State.ctx_setCtx_self _ _ _
  have answered := releaseResults_one taken low inside waiting (by omega) record (.inl (by rw [State.waitingAppended_eq]))
    (by rw [← hu]; exact leads) (by decide)
  rw [lengthT, counterT] at answered
  refine ⟨t, answered, ?_, ?_, counterT, ?_, ?_, ?_, ?_, ?other, ?_, ?_, ?_, ?_, ?_, fixed⟩
  case other =>
    rw [ht]
    refine (State.ctx_setCtx_other u x _).trans ?_
    rw [hu, State.ctx_waitingAppended_other]
  iterate 3
    rw [ht, only]
    rfl
  iterate 3 exact congrArg _ ctxT
  all_goals
    rw [ht, only]
    rfl

theorem releaseResults_duelWaits : ∀ (s : State) (tag : Byte) (x : Seat) (r : ResultRecord), s.takes (.releaseResults tag 1) →
    s.rl.records.length = 32 → s.rl.waiting = [x, x.other] → (s.ctx x).pendingRecord = some r →
    (s.ctx x).mode = .duel → s.duelRuns = true → (s.round x.other).record = .waiting → s.fb.frozen = false →
    ∃ t : State, exec (.releaseResults tag 1) s = .next (t.replied (.releaseResults tag 1) .ok
        [32, byte ((s.rl.counter + 1) % 65536), byte ((s.rl.counter + 1) % 65536 / 256)]) ∧
      t.rl.records = s.rl.records.drop 1 ++ [{ r with number := some s.rl.counter }] ∧ t.rl.waiting = [x.other] ∧
      (t.ctx x).state = .feedback ∧ (t.ctx x).mode = .duel ∧ (t.ctx x).pendingRecord = none ∧ t.ks = s.ks ∧
      t.ctx x.other = s.ctx x.other ∧ t.dc = { s.dc with seats := s.dc.seats.set x { s.round x with record := .inLog } } ∧
      t.ps = s.ps ∧ t.wt = s.wt ∧ t.se = s.se ∧ t.fb = s.fb ∧ t.fixed = s.fixed := by
  intro s tag x r taken full waiting record duel runs otherWaits thawed
  obtain ⟨u, hu⟩ : ∃ u, u = s.waitingAppended 1 x r [x.other] := ⟨_, rfl⟩
  have only := hu.trans State.waitingAppended_eq
  have ctxU : u.ctx x = { s.ctx x with pendingRecord := none } := by rw [hu, State.ctx_waitingAppended_self]
  obtain ⟨t, ht⟩ : ∃ t, t = u.recordLogged x := ⟨_, rfl⟩
  have lengthU : u.rl.records.length = 32 := by rw [hu, State.records_waitingAppended, full]
  have otherT : (t.round x.other).record = .waiting := by
    rw [← otherWaits, ht, only]
    cases x <;> rfl
  have leads : Leads 2 u [.appended x] t := by
    refine .acts (by rw [only]; exact thawed) ((State.recordAppended_duel (by rw [ctxU]; exact duel)
      (by rw [only]; exact runs)).trans (by rw [← ht])) (.ends (by rw [ht, only]; exact thawed) ?_)
    exact State.afterRecords_waits otherT
  have fixed : t.fixed = s.fixed := by
    rw [← leads.carryOut (by decide), State.fixed_carryOut, hu, State.fixed_waitingAppended]
  have lengthT : t.rl.records.length = 32 := by rw [← lengthU, ht]; rfl
  have counterT : t.rl.counter = (s.rl.counter + 1) % 65536 := by
    rw [ht, only]
    rfl
  have ctxT : t.ctx x = { s.ctx x with pendingRecord := none }.toFeedback := by
    rw [← ctxU, ht]
    exact State.ctx_setCtx_self _ _ _
  have fullU : u.logHasRoom = false := by rw [State.logHasRoom, lengthU]; rfl
  have answered := releaseResults_one (m := 1) taken (by decide) (by rw [full]; decide) waiting (by rw [full]; decide) record
    (.inr (hu ▸ fullU)) (by exact hu ▸ leads) (by decide)
  rw [lengthT, counterT] at answered
  refine ⟨t, answered, ?_, ?_, ?_, ?_, ?_, ?_, ?other, ?_, ?_, ?_, ?_, ?_, fixed⟩
  case other =>
    rw [ht]
    refine (State.ctx_setCtx_other _ x _).trans ?_
    refine Eq.trans ?_ (State.ctx_waitingAppended_other (s := s) (k := 1) (x := x) (r := r) (rest := [x.other]))
    rw [hu]
    rfl
  iterate 2
    rw [ht, only]
    rfl
  · rw [ctxT]
    rfl
  · rw [ctxT]
    exact duel
  · rw [ctxT]
    rfl
  all_goals
    rw [ht, only]
    rfl

/-- The state in which the next round's prompt plays, from the one in which the last record was appended. -/
def State.nextPrompts (s : State) (x : Seat) (n : Nat) (e : WordEntry) (rest : List Nat) : State :=
  (s.recordLogged x).staleJudgements.roundPrompts n e rest

section NextPrompts

variable {s : State} {x : Seat} {n : Nat} {rest : List Nat} {e : WordEntry}

theorem State.mode_recordLogged (modes : ∀ y, (s.ctx y).mode = .duel) (y : Seat) : ((s.recordLogged x).ctx y).mode = .duel := by
  obtain rfl | rfl := seat_eq_or_eq_other x y
  · rw [State.ctx_recordLogged_self]
    exact modes y
  · rw [State.ctx_recordLogged_other]
    exact modes x.other

theorem Leads.appended_presents (modes : ∀ y, (s.ctx y).mode = .duel) (runs : s.duelRuns = true)
    (otherLogged : (s.round x.other).record = .inLog) (more : s.dc.round ≠ s.dc.total) (normal : s.fb.condition = .normal)
    (noRefill : s.cfg.refillMark = 0) (queue : s.ps.duel = n :: rest) (slot : s.slot n = .occupied e true)
    (ready : s.clipReady e.wordClip = true) (quiet : s.speechQuiet) (few : ∀ y, (s.seat y).keys.length ≤ 16)
    (thawed : s.fb.frozen = false) : Leads 40 s [.appended x] (s.nextPrompts x n e rest) := by
  have logged (y : Seat) : ((s.recordLogged x).round y).record = .inLog := by
    obtain rfl | rfl := seat_eq_or_eq_other x y
    · rw [State.round_recordLogged_self]
    · rw [State.round_recordLogged_other]
      exact otherLogged
  exact .acts thawed (State.recordAppended_duel (modes x) runs) (Leads.afterRecords (s := s.recordLogged x) runs logged more
    normal noRefill queue slot ready (State.speechQuiet_congr quiet rfl)
    (fun y => .inr ⟨State.mode_recordLogged modes y, few y⟩) thawed)

theorem State.presents_nextPrompts (quiet : s.speechQuiet) (slot : s.slot n = .occupied e true) :
    (s.nextPrompts x n e rest).presents s n rest e :=
  State.presents_congr (State.presents_roundPrompts (s := (s.recordLogged x).staleJudgements) rest
    (State.speechQuiet_congr quiet rfl) slot) rfl rfl rfl rfl

theorem State.mode_nextPrompts (modes : ∀ y, (s.ctx y).mode = .duel) (y : Seat) :
    ((s.nextPrompts x n e rest).ctx y).mode = .duel := by
  rw [State.nextPrompts, State.ctx_roundPrompts]
  exact State.mode_recordLogged modes y

theorem State.rl_nextPrompts : (s.nextPrompts x n e rest).rl = s.rl := State.rl_roundPrompts ..

theorem State.fb_nextPrompts : (s.nextPrompts x n e rest).fb = s.fb := State.fb_roundPrompts ..

theorem State.seat_nextPrompts (y : Seat) : (s.nextPrompts x n e rest).seat y = { s.seat y with keys := [] } :=
  State.seat_roundPrompts _ n e rest y

end NextPrompts

theorem releaseResults_presents : ∀ (s : State) (tag k : Byte) (x : Seat) (r : ResultRecord) (m : Nat) (rest : List Nat) (e : WordEntry),
    s.takes (.releaseResults tag k) → 1 ≤ k.toNat → k.toNat ≤ s.rl.records.length → s.rl.records.length ≤ 32 →
    s.rl.waiting = [x] → (s.ctx x).pendingRecord = some r → (∀ y, (s.ctx y).mode = .duel) → s.duelRuns = true →
    (s.round x.other).record = .inLog → s.dc.round ≠ s.dc.total → s.fb.condition = .normal → s.cfg.refillMark = 0 →
    s.ps.duel = m :: rest → s.slot m = .occupied e true → s.clipReady e.wordClip = true → s.speechQuiet →
    (∀ y, (s.seat y).keys.length ≤ 16) → s.fb.frozen = false →
    ∃ t : State, exec (.releaseResults tag k) s = .next (t.replied (.releaseResults tag k) .ok
        [byte (s.rl.records.length - k.toNat + 1), byte ((s.rl.counter + 1) % 65536),
          byte ((s.rl.counter + 1) % 65536 / 256)]) ∧
      t.rl.records = s.rl.records.drop k.toNat ++ [{ r with number := some s.rl.counter }] ∧ t.rl.waiting = [] ∧
      t.presents s m rest e ∧ (∀ y, (t.ctx y).mode = .duel ∧ t.seat y = { s.seat y with keys := [] }) ∧
      t.fb = s.fb ∧ t.fixed = s.fixed := by
  intro s tag k x r m rest e taken low inside room waiting record duel runs otherLogged more normal noRefill queue slot ready
    quiet few thawed
  obtain ⟨u, hu⟩ : ∃ u, u = s.waitingAppended k.toNat x r [] := ⟨_, rfl⟩
  have only := hu.trans State.waitingAppended_eq
  have ctxU : u.ctx x = { s.ctx x with pendingRecord := none } := by rw [hu, State.ctx_waitingAppended_self]
  have otherU : u.ctx x.other = s.ctx x.other := by rw [hu, State.ctx_waitingAppended_other]
  have modesU (y : Seat) : (u.ctx y).mode = .duel := by
    obtain rfl | rfl := seat_eq_or_eq_other x y
    · rw [ctxU]
      exact duel y
    · rw [otherU]
      exact duel x.other
  have dcU : u.dc = s.dc := by rw [only]; rfl
  have psU : u.ps = s.ps := by rw [only]; rfl
  have quietU : u.speechQuiet := State.speechQuiet_congr quiet (by rw [only]; rfl)
  have slotU : u.slot m = .occupied e true := by rw [only]; exact slot
  have leads : Leads 40 u [.appended x] (u.nextPrompts x m e rest) := by
    refine .appended_presents modesU ?_ ?_ ?_ ?_ ?_ ?_ slotU ?_ quietU ?_ ?_
    all_goals
      rw [only]
      assumption
  have counterU : u.rl.counter = (s.rl.counter + 1) % 65536 := by
    rw [only]
    rfl
  have answered := releaseResults_one taken low inside waiting (by omega) record (.inl (by rw [State.waitingAppended_eq]))
    (by rw [← hu]; exact leads) (by decide)
  have presents : (u.nextPrompts x m e rest).presents s m rest e :=
    State.presents_congr (State.presents_nextPrompts quietU slotU) (by rw [dcU]) (by rw [dcU]) psU.symm
      (by rw [dcU, only]; rfl)
  have fixed : (u.nextPrompts x m e rest).fixed = s.fixed := by
    rw [← leads.carryOut (by decide), State.fixed_carryOut, hu, State.fixed_waitingAppended]
  have seatsU (y : Seat) : u.seat y = s.seat y := by rw [only]; rfl
  obtain ⟨t, ht⟩ : ∃ t, t = u.nextPrompts x m e rest := ⟨_, rfl⟩
  have rlT : t.rl = u.rl := by rw [ht, State.rl_nextPrompts]
  have lengthU : u.rl.records.length = s.rl.records.length - k.toNat + 1 := by rw [hu, State.records_waitingAppended]
  rw [← ht] at answered presents fixed
  rw [rlT, lengthU, counterU] at answered
  refine ⟨t, answered, ?records, ?waiting, presents, fun y => ⟨?mode, ?seat⟩, ?fb, fixed⟩
  case mode =>
    rw [ht]
    exact State.mode_nextPrompts modesU y
  case seat =>
    rw [ht, State.seat_nextPrompts, seatsU]
  case fb =>
    rw [ht, State.fb_nextPrompts, only]
    rfl
  all_goals rw [rlT, only]

/-- Settles O30: the requests of the Result Log and of the Attention Unit. -/
theorem logAndAttentionRequests : Obligations.LogAndAttentionRequests := by
  refine ⟨fun s tag k causes => ⟨releaseResults_none, fun taken => ?read, fun taken low => ?set, fun taken high => ?refused⟩,
    releaseResults_solo, releaseResults_duelWaits, releaseResults_presents, fun s up => ⟨attentionAsserted_iff s up, ?line⟩, rfl⟩
  case read => exact exec_answer rfl taken rfl
  case set =>
    refine exec_answer rfl taken ?_
    show setAttentionEnableOwner causes s = _
    rw [setAttentionEnableOwner, (andNot_allCauses_eq_zero_iff causes).2 low]
    rfl
  case refused =>
    refine exec_answer rfl taken ?_
    show setAttentionEnableOwner causes s = _
    have unknown : ((causes &&& ~~~allCauses) != 0) = true :=
      bne_iff_ne.2 fun zero => absurd ((andNot_allCauses_eq_zero_iff causes).1 zero) (Nat.not_lt_of_le high)
    rw [setAttentionEnableOwner, unknown]
    rfl
  case line => exact fun k pending enabled => (attentionAsserted_iff s up).2 ⟨k.number, pending, enabled⟩

end Sys2Proof.Machine
end

section
/-! The race: a judgement taken, the attempt that ends with it, and the round it settles (R81 to R85). -/

namespace Sys2Proof.Machine

/-! ### A seat's attempt ends (R76, R81) -/

/-- The state in which a seat's attempt in a duel has ended with an outcome and a seat status. -/
def State.seatEnds (s : State) (x : Seat) (o : AttemptEnd) (st : SeatStatus) : State :=
  (s.endDuelAttempt x o).setRound x { (s.endDuelAttempt x o).round x with status := some st }

section SeatEnds

variable (s : State) (x : Seat) (o : AttemptEnd) (st : SeatStatus)

theorem State.ctx_seatEnds_self :
    (s.seatEnds x o st).ctx x = { s.ctx x with idleRunning := false, firm := none, state := (s.ctx x).leftRace } :=
  State.ctx_setCtx_self s x _

theorem State.ctx_seatEnds_other : (s.seatEnds x o st).ctx x.other = s.ctx x.other := State.ctx_setCtx_other s x _

theorem State.round_seatEnds_self : (s.seatEnds x o st).round x = { s.round x with ended := some o, status := some st } := by
  cases x <;> rfl

theorem State.round_seatEnds_other : (s.seatEnds x o st).round x.other = s.round x.other := by
  cases x <;> rfl

/-- An attempt's end changes the context and the seat's part of the duel record. -/
theorem State.seatEnds_only : s.seatEnds x o st =
    { s with ae := (s.seatEnds x o st).ae, dc := { s.dc with seats := (s.seatEnds x o st).dc.seats } } := rfl

end SeatEnds

theorem leftRace_of_typing {c : Context} (h : c.state = .typing) : c.leftRace = .feedback := by
  simp [Context.leftRace, h]

/-! ### What DC makes of a judgement (R81) -/

theorem takeInFlight_eq {s : State} {x : Seat} {j : Judgement} (inFlight : s.dc.judgements.get x = some j)
    (thawed : s.fb.frozen = false) : s.takeInFlight x = (s.takeJudgement x j).1.carryOut (s.takeJudgement x j).2 := by
  rw [State.takeInFlight, inFlight]
  exact if_neg (by simp [thawed])

/-- The judgement is of the open round, whose records are not built (R81). -/
def State.heeds (s : State) (x : Seat) (j : Judgement) : Prop :=
  j.live = true ∧ j.round = s.dc.round ∧ s.duelRuns = true ∧ (s.round x).record = .notBuilt

/-- The state in which DC has taken the judgement in flight and noted its mistake. -/
def State.mistakeNoted (s : State) (x : Seat) (j : Judgement) : State :=
  { s with dc := { s.dc with judgements := s.dc.judgements.set x none, mistake := j.mistake } }

section Heeded

variable {s : State} {x : Seat} {j : Judgement}

theorem State.heeded_test (h : s.heeds x j) : (j.live && j.round == (s.judgementOut x).dc.round &&
    (s.judgementOut x).duelRuns && ((s.judgementOut x).round x).record == .notBuilt) = true := by
  obtain ⟨live, round, runs, record⟩ := h
  have record' : ((s.judgementOut x).round x).record = .notBuilt := record
  have runs' : (s.judgementOut x).duelRuns = true := runs
  have round' : j.round = (s.judgementOut x).dc.round := round
  simp [live, round', runs', record']

theorem State.takeJudgement_unequal (h : s.heeds x j) (typing : (s.round x).status = some .typing) (unequal : j.equal = false) :
    s.takeJudgement x j =
      if j.atLimit then (s.mistakeNoted x j).seatOut x .miss else (s.mistakeNoted x j).tryAgain x := by
  refine (if_pos (State.heeded_test h)).trans ?_
  have status : ((s.judgementOut x).round x).status = some .typing := typing
  split
  case h_1 => exact if_neg (by simp [unequal])
  all_goals
    rename_i other
    exact absurd (status.symm.trans other) (by decide)

theorem State.takeJudgement_late (h : s.heeds x j) (beaten : (s.round x).status = some .beaten) (equal : j.equal = true) :
    s.takeJudgement x j = ((s.judgementOut x).setRound x { s.round x with lateCorrect := true }, []) := by
  refine (if_pos (State.heeded_test h)).trans ?_
  have status : ((s.judgementOut x).round x).status = some .beaten := beaten
  split
  case h_2 => exact if_pos equal
  all_goals
    rename_i other
    exact absurd (status.symm.trans other) (by decide)

end Heeded

theorem Leads.weaken {k m : Nat} {s t : State} {ts : List Task} (h : Leads k s ts t) (le : k ≤ m) : Leads m s ts t := by
  obtain ⟨j, hj, drains⟩ := h
  exact ⟨j, hj.trans le, drains⟩

/-! ### A cue in quiet speech -/

/-- A cue or an echo of READY clips in quiet speech plays on voice V0, an empty one is not spoken (R29, R30). -/
theorem Leads.say {s : State} {x : Seat} {cls : SpeechClass} {clips : List Nat} (quiet : s.speechQuiet)
    (thawed : s.fb.frozen = false) (ready : clips.all s.clipReady = true) :
    ∃ t, SpeechOnly s t ∧ t.au = s.au ∧ Leads 3 s [.say x cls clips] t := by
  by_cases empty : clips = []
  · exact ⟨s, .refl s, rfl, (Leads.ends thawed (t := s) (task := .say x cls clips) (if_pos empty)).weaken (by decide)⟩
  · have only := s.pinAll_only clips
    refine ⟨s.spoken (.seat x) cls (s.seatRoute x) clips, ?_, ?_, .of_drain fun n us => ?_⟩
    · rw [State.spoken, only]
      exact rfl
    · rw [State.spoken, only]
    · have placed : s.placeDisposable x cls clips = ((s.enqueue (.seat x) cls (s.seatRoute x) clips).2, [.arbitrate]) := by
        rw [State.placeDisposable, if_neg empty, State.acceptSeat, if_pos ready, makeRoom_quiet quiet]
      rw [show n + 3 = (n + 2) + 1 from rfl, drain_cons, runTask_thawed thawed]
      show drain (n + 2) ((s.placeDisposable x cls clips).2 ++ us) (s.placeDisposable x cls clips).1 = _
      rw [placed]
      exact drain_enqueue_quiet quiet (r := .seat x) (by simp) cls (s.seatRoute x) ready n us

/-! ### An attempt that does not win (R81, R83) -/

theorem judgementTaken_leads {s t : State} {x : Seat} {j : Judgement} {k : Nat} {a : Act} (released : s.resetHeld = false)
    (thawed : s.fb.frozen = false) (inFlight : s.dc.judgements.get x = some j) (judged : s.takeJudgement x j = a)
    (leads : Leads k a.1 a.2 t) (few : k ≤ Config.cascade) : exec (.judgementTaken x) s = .next t := by
  refine (event_taken (act := fun s => s.takeInFlight x) released).trans ?_
  rw [takeInFlight_eq inFlight thawed, judged, leads.carryOut few]

theorem judgement_tryAgain {s : State} {x : Seat} {j : Judgement} (released : s.resetHeld = false)
    (thawed : s.fb.frozen = false) (normal : s.fb.condition = .normal) (inFlight : s.dc.judgements.get x = some j)
    (heeds : s.heeds x j) (keys : (s.seat x).keys = []) (status : (s.round x).status = some .typing)
    (unequal : j.equal = false) (below : j.atLimit = false) (typing : (s.ctx x).state = .typing) (quiet : s.speechQuiet) :
      ∃ t : State, exec (.judgementTaken x) s = .next t ∧
        t.ctx x = { s.ctx x with typed := [], idleTimer := s.cfg.idleLimit, idleRunning := true } ∧
        t.dc = { s.dc with judgements := s.dc.judgements.set x none, mistake := j.mistake } ∧
        t.ctx x.other = s.ctx x.other ∧ t.ps = s.ps ∧ t.wt = s.wt ∧ t.rl = s.rl ∧ t.fixed = s.fixed := by
  obtain ⟨u, hu⟩ : ∃ u, u = (s.mistakeNoted x j).setCtx x
      { s.ctx x with typed := [], idleTimer := s.cfg.idleLimit, idleRunning := true } := ⟨_, rfl⟩
  have quietU : u.speechQuiet := State.speechQuiet_congr quiet (by rw [hu]; rfl)
  have thawedU : u.fb.frozen = false := by rw [hu]; exact thawed
  obtain ⟨t, only, same, said⟩ := Leads.say (s := u) (x := x) (cls := .cue) (clips := s.cueClips .tryAgain) quietU thawedU
    (by rw [hu]; exact s.built_all_ready _)
  have judged : s.takeJudgement x j = (u, [.say x .cue (s.cueClips .tryAgain), .takeKeys x]) := by
    rw [State.takeJudgement_unequal heeds status unequal, below]
    have typing' : ((s.mistakeNoted x j).ctx x).state = .typing := typing
    have noHold : (s.mistakeNoted x j).fb.condition ≠ .hold := by rw [show (s.mistakeNoted x j).fb = s.fb from rfl, normal]; decide
    rw [if_neg (by decide), State.tryAgain, if_pos typing', if_neg noHold, hu]
    rfl
  have leads : Leads 4 u [.say x .cue (s.cueClips .tryAgain), .takeKeys x] t :=
    said.cons (.noKeys (by rw [only, hu]; exact keys))
  refine ⟨t, judgementTaken_leads released thawed inFlight judged leads (by decide), ?_, ?_, ?_, ?_, ?_, ?_, ?_⟩
  · rw [only]
    show u.ctx x = _
    rw [hu, State.ctx_setCtx_self]
  · rw [only, hu]
    rfl
  · rw [only]
    show u.ctx x.other = _
    rw [hu, State.ctx_setCtx_other]
    rfl
  · rw [only, hu]
    rfl
  · rw [only, hu]
    rfl
  · rw [only, hu]
    rfl
  · rw [← leads.carryOut (by decide), State.fixed_carryOut, hu]
    rfl

theorem State.checkSettled_waits {s : State} {y : Seat} (races : s.races y = true) : s.checkSettled = (s, []) := by
  refine if_neg ?_
  cases y with
  | a => simp [races]
  | b => simp [races]

theorem State.checkSettled_settles {s : State} (open' : s.dc.state = .racing) (out : ∀ y, (s.round y).status ≠ some .typing) :
    s.checkSettled = (s, [.settle false]) := by
  have noRace (y : Seat) : s.races y = false := by simp [State.races, out y]
  refine if_pos ?_
  simp [open', noRace]

theorem judgement_seatOut {s : State} {x : Seat} {j : Judgement} (released : s.resetHeld = false)
    (thawed : s.fb.frozen = false) (inFlight : s.dc.judgements.get x = some j)
    (heeds : s.heeds x j) (keys : (s.seat x).keys = []) (status : (s.round x).status = some .typing)
    (unequal : j.equal = false) (limit : j.atLimit = true) (typing : (s.ctx x).state = .typing)
    (races : (s.round x.other).status = some .typing) :
      ∃ t : State, exec (.judgementTaken x) s = .next t ∧ (t.ctx x).state = .feedback ∧
        (t.ctx x).idleRunning = false ∧ (t.round x).status = some .out ∧ (t.round x).ended = some .miss ∧
        t.round x.other = s.round x.other ∧ t.dc.state = s.dc.state ∧ t.dc.mistake = j.mistake ∧
        t.dc.scores = s.dc.scores ∧ t.ctx x.other = s.ctx x.other ∧ t.ps = s.ps ∧ t.wt = s.wt ∧ t.rl = s.rl ∧
        t.se = s.se ∧ t.fixed = s.fixed := by
  obtain ⟨u, hu⟩ : ∃ u, u = s.mistakeNoted x j := ⟨_, rfl⟩
  have ctxU (y : Seat) : u.ctx y = s.ctx y := by rw [hu]; rfl
  have roundU (y : Seat) : u.round y = s.round y := by rw [hu]; rfl
  obtain ⟨t, ht⟩ : ∃ t, t = u.seatEnds x .miss .out := ⟨_, rfl⟩
  have judged : s.takeJudgement x j = (t, [.takeKeys x, .settleCheck]) := by
    rw [State.takeJudgement_unequal heeds status unequal, limit, ht, hu]
    rfl
  have otherT : t.round x.other = s.round x.other := by rw [ht, State.round_seatEnds_other, roundU]
  have leads : Leads 2 t [.takeKeys x, .settleCheck] t := by
    have keysT : (t.seat x).keys = [] := by
      rw [ht, hu]
      exact keys
    have racing : t.races x.other = true := by rw [State.races, otherT, races]; rfl
    exact (Leads.noKeys keysT).cons (.ends (t := t) (task := .settleCheck) (by rw [ht, hu]; exact thawed)
      (State.checkSettled_waits racing))
  refine ⟨t, judgementTaken_leads released thawed inFlight judged leads (by decide), ?_, ?_, ?_, ?_, otherT, ?_, ?_, ?_,
    ?_, ?_, ?_, ?_, ?_, ?_⟩
  · rw [ht, State.ctx_seatEnds_self]
    exact leftRace_of_typing (by rw [ctxU]; exact typing)
  · rw [ht, State.ctx_seatEnds_self]
  · rw [ht, State.round_seatEnds_self]
  · rw [ht, State.round_seatEnds_self]
  case refine_8 => rw [ht, State.ctx_seatEnds_other, ctxU]
  case refine_13 =>
    rw [ht, hu]
    rfl
  all_goals
    rw [ht, hu]
    rfl

/-! ### The attempt that wins the round (R81, R82) -/

/-- The state in which DC has noted the winner and its score (R82). -/
def State.winnerNoted (s : State) (x : Seat) : State :=
  { s with dc := { s.dc with winner := some x, scores := s.dc.scores.set x (s.dc.scores.get x + 1) } }

/-- The state in which the other seat's attempt has ended beaten (R82). -/
def State.rivalBeaten (s : State) (x : Seat) : State :=
  (s.seatEnds x.other .beaten .beaten).setCtx x.other { (s.seatEnds x.other .beaten .beaten).ctx x.other with typed := [] }

section RivalBeaten

variable (s : State) (x : Seat)

theorem State.ctx_rivalBeaten_self : (s.rivalBeaten x).ctx x = s.ctx x := by
  cases x <;> rfl

theorem State.ctx_rivalBeaten_other : (s.rivalBeaten x).ctx x.other =
    { s.ctx x.other with idleRunning := false, firm := none, state := (s.ctx x.other).leftRace, typed := [] } := by
  rw [State.rivalBeaten, State.ctx_setCtx_self, State.ctx_seatEnds_self]

theorem State.round_rivalBeaten_self : (s.rivalBeaten x).round x = s.round x := by
  cases x <;> rfl

theorem State.round_rivalBeaten_other : (s.rivalBeaten x).round x.other =
    { s.round x.other with ended := some .beaten, status := some .beaten } :=
  s.round_seatEnds_self x.other .beaten .beaten

theorem State.rivalBeaten_only : s.rivalBeaten x =
    { s with ae := (s.rivalBeaten x).ae, dc := { s.dc with seats := (s.rivalBeaten x).dc.seats } } := rfl

end RivalBeaten

/-- The state in which one seat has solved the round and the other, which still raced, is beaten (R82). -/
def State.roundWon (s : State) (x : Seat) : State :=
  ((s.seatEnds x (s.ctx x).finished .solved).winnerNoted x).rivalBeaten x

section RoundWon

variable {s : State} {x : Seat}

theorem State.round_winnerNoted (y : Seat) : (s.winnerNoted x).round y = s.round y := rfl

theorem State.ctx_winnerNoted (y : Seat) : (s.winnerNoted x).ctx y = s.ctx y := rfl

theorem State.winRound_eq (quiet : s.speechQuiet) (races : (s.round x.other).status = some .typing) :
    s.winRound x = (s.roundWon x, [.takeKeys x, .takeKeys x.other, .arbitrate, .settleCheck]) := by
  obtain ⟨u, hu⟩ : ∃ u, u = (s.seatEnds x (s.ctx x).finished .solved).winnerNoted x := ⟨_, rfl⟩
  have racing : u.races x.other = true := by
    rw [hu, State.races, State.round_winnerNoted, State.round_seatEnds_other, races]
    rfl
  have quiet' : u.speechQuiet := State.speechQuiet_congr quiet (by rw [hu]; rfl)
  have quietU : (u.rivalBeaten x).speechQuiet := State.speechQuiet_congr quiet' rfl
  have silent : u.beat x.other = u.rivalBeaten x := by
    rw [State.rivalBeaten, State.seatEnds] at quietU ⊢
    rw [State.beat]
    exact cancel_quiet quietU _
  have won : s.winRound x = if u.races x.other then
      (u.beat x.other, [.takeKeys x, .takeKeys x.other, .arbitrate, .settleCheck])
    else (u, [.takeKeys x, .settleCheck]) := by
    rw [hu]
    rfl
  rw [won, if_pos racing, silent, hu]
  rfl

theorem State.ctx_roundWon_self : (s.roundWon x).ctx x =
    { s.ctx x with idleRunning := false, firm := none, state := (s.ctx x).leftRace } := by
  rw [State.roundWon, State.ctx_rivalBeaten_self, State.ctx_winnerNoted, State.ctx_seatEnds_self]

theorem State.ctx_roundWon_other : (s.roundWon x).ctx x.other =
    { s.ctx x.other with idleRunning := false, firm := none, state := (s.ctx x.other).leftRace, typed := [] } := by
  rw [State.roundWon, State.ctx_rivalBeaten_other, State.ctx_winnerNoted, State.ctx_seatEnds_other]

theorem State.round_roundWon_self : (s.roundWon x).round x =
    { s.round x with ended := some (s.ctx x).finished, status := some .solved } := by
  rw [State.roundWon, State.round_rivalBeaten_self, State.round_winnerNoted, State.round_seatEnds_self]

theorem State.round_roundWon_other : (s.roundWon x).round x.other =
    { s.round x.other with ended := some .beaten, status := some .beaten } := by
  rw [State.roundWon, State.round_rivalBeaten_other, State.round_winnerNoted, State.round_seatEnds_other]

theorem State.roundWon_only : s.roundWon x = { s with
    ae := (s.roundWon x).ae
    dc := { s.dc with
      seats := (s.roundWon x).dc.seats, winner := some x, scores := s.dc.scores.set x (s.dc.scores.get x + 1) } } := by
  rw [State.roundWon, State.rivalBeaten_only, State.winnerNoted, State.seatEnds_only]

end RoundWon

/-! ### The round settles (R84, R85) -/

/-- The target copy and the target of a context are gone. -/
def Context.untargeted (c : Context) : Context := { c with target := none, copy := none }

/-- What DC keeps of a round's progress update (R84). -/
def State.roundUpdate (s : State) (n : Nat) (r : RoundResult) : Option RoundUpdate :=
  (s.roundProgress n r).map fun v => { boxAfter := v.box, masteredNow := s.mastersNow n (s.roundProgress n r) }

/-- The state in which a round has settled and its feedback is yet to come. -/
def State.roundSettled (s : State) (n : Nat) (r : RoundResult) : State :=
  { s with
    dc := { s.dc with state := .settling, result := some r, update := s.roundUpdate n r, target := none }
    ae := ⟨s.ae.a.untargeted, s.ae.b.untargeted⟩
    wt := (s.applyUpdate n (s.roundProgress n r)).wt
    ps := ((s.applyUpdate n (s.roundProgress n r)).reinsert .duel n r.reinsert).ps }

theorem State.applyUpdate_dc (s : State) (d : DuelRecord) (n : Nat) (u : Option ProgressUpdate) :
    ({ s with dc := d } : State).applyUpdate n u = { s.applyUpdate n u with dc := d } := by
  cases u with
  | none => rfl
  | some v =>
    show ({ s with dc := d } : State).applyProgress n v = { s.applyProgress n v with dc := d }
    unfold State.applyProgress
    rw [show ({ s with dc := d } : State).slot n = s.slot n from rfl]
    split <;> rfl

section RoundSettled

variable {s : State} {n : Nat} {r : RoundResult}

theorem State.releaseRound_eq (noRefill : s.cfg.refillMark = 0) : s.releaseRound n r =
    { s.clearRoundTarget with ps := (s.reinsert .duel n r.reinsert).ps } := by
  have only := s.clearRoundTarget.reinsert_only .duel n r.reinsert
  have same := State.reinsert_congr (s := s) (t := s.clearRoundTarget) rfl rfl rfl .duel n r.reinsert
  rw [State.releaseRound, State.refillDuel_off (by rw [only]; exact noRefill), only, same]

theorem State.settleRound_eq (target : s.dc.target = some n) (result : s.roundResult false = r)
    (noRefill : s.cfg.refillMark = 0) (normal : s.fb.condition = .normal) :
    s.settleRound false = (s.roundSettled n r, [.duelFirm .feedback (s.roundSettled n r).roundFeedback]) := by
  obtain ⟨w, hw⟩ : ∃ w, s.applyUpdate n (s.roundProgress n r) = { s with wt := w } := ⟨_, s.applyUpdate_only n _⟩
  obtain ⟨d, hd⟩ : ∃ d, d = { s.dc with state := .settling, target := some n, result := some r, update := s.roundUpdate n r } :=
    ⟨_, rfl⟩
  have updated : ({ s with dc := d } : State).applyUpdate n (s.roundProgress n r) = { s with dc := d, wt := w } := by
    rw [State.applyUpdate_dc, hw]
  have settled : (({ s with dc := d } : State).applyUpdate n (s.roundProgress n r)).releaseRound n r = s.roundSettled n r := by
    rw [updated, State.releaseRound_eq (by exact noRefill), State.roundSettled, hw,
      State.reinsert_congr (s := { s with wt := w }) (t := { s with dc := d, wt := w }) rfl rfl rfl .duel n r.reinsert, hd]
    rfl
  have spoken : ∀ t : State, t = s.roundSettled n r → (if false = true then (t, [Task.closeRound])
      else if t.fb.condition = .hold then (t.dropDuelFirm, [.arbitrate]) else (t, [.duelFirm .feedback t.roundFeedback])) =
        (s.roundSettled n r, [.duelFirm .feedback (s.roundSettled n r).roundFeedback]) := by
    rintro _ rfl
    rw [if_neg Bool.false_ne_true, if_neg]
    rw [show (s.roundSettled n r).fb = s.fb from rfl, normal]
    decide
  rw [hd] at settled
  unfold State.settleRound
  dsimp only
  rw [target, result]
  exact spoken _ settled

theorem State.slot_roundSettled {e : WordEntry} {p : Bool} {o : AttemptEnd} (slot : s.slot n = .occupied e p)
    (stands : r.counted = some o) (counted : o.counted = true) : (s.roundSettled n r).slot n =
      .occupied (storeProgress (progressOf o s.cfg.masteryStreak s.dc.mistake e) e) p := by
  have progress : s.roundProgress n r = some (progressOf o s.cfg.masteryStreak s.dc.mistake e) := by
    rw [State.roundProgress, stands]
    exact State.progressFor_counted _ (State.entry_of_slot slot) counted
  show (s.applyUpdate n (s.roundProgress n r)).slot n = _
  rw [progress]
  refine (congrArg (State.slot · n) (State.applyProgress_occupied slot _)).trans ?_
  exact State.slot_setSlot_self _ _ _ (State.slot_inside slot)

end RoundSettled

/-! ### The feedback of a round (R85) -/

theorem State.roundFeedback_spoken {s : State} {k : TargetCopy} {x : Seat} (copy : s.dc.copy = some k) (winner : s.dc.winner = some x)
    (ready : s.clipReady k.wordClip = true) : s.roundFeedback ≠ [] ∧ s.roundFeedback.all s.clipReady = true := by
  have feedback : ∃ c, s.roundFeedback = s.cueClips .chime ++ s.cueClips c ++ s.spellOutClips k := by
    cases x with
    | a => exact ⟨.aWins, by simp [State.roundFeedback, copy, winner]⟩
    | b => exact ⟨.bWins, by simp [State.roundFeedback, copy, winner]⟩
  obtain ⟨c, hc⟩ := feedback
  rw [hc]
  refine ⟨?_, ?_⟩
  · simp [State.spellOut_ne_nil]
  · rw [List.all_append, List.all_append, State.cueClips, State.cueClips, s.built_all_ready, s.built_all_ready,
      State.spellOut_all_ready ready]
    rfl

/-- A round that is won settles once neither seat races, and its feedback plays. -/
theorem Leads.settles {s : State} {n : Nat} {r : RoundResult} {k : TargetCopy} {x : Seat} (racing : s.dc.state = .racing)
    (out : ∀ y, (s.round y).status ≠ some .typing) (target : s.dc.target = some n) (copy : s.dc.copy = some k)
    (winner : s.dc.winner = some x) (result : s.roundResult false = r) (noRefill : s.cfg.refillMark = 0)
    (normal : s.fb.condition = .normal) (ready : s.clipReady k.wordClip = true) (quiet : s.speechQuiet)
    (thawed : s.fb.frozen = false) :
    Leads 5 s [.settleCheck] ((s.roundSettled n r).duelSpeaks .feedback (s.roundSettled n r).roundFeedback) := by
  refine .acts thawed (State.checkSettled_settles racing out) (.acts thawed (State.settleRound_eq target result noRefill normal) ?_)
  have spoken := State.roundFeedback_spoken (s := s.roundSettled n r) (k := k) (x := x) copy winner ready
  exact Leads.duelFirm (State.speechQuiet_congr quiet rfl) thawed spoken.1 spoken.2

/-! ### Settling the judgements -/

theorem judgement_wins : ∀ (s : State) (x : Seat) (j : Judgement) (n : Nat) (k : TargetCopy) (e : WordEntry) (p : Bool),
    s.resetHeld = false → s.fb.frozen = false → s.fb.condition = .normal → s.dc.judgements.get x = some j →
    j.live = true → j.round = s.dc.round → j.equal = true → s.dc.state = .racing →
    (∀ y, (s.round y).status = some .typing ∧ (s.round y).record = .notBuilt ∧ (s.ctx y).state = .typing ∧
      (s.ctx y).style = .wordwise ∧ (s.seat y).keys = []) →
    s.dc.target = some n → s.dc.copy = some k → s.slot n = .occupied e p → s.cfg.refillMark = 0 →
    s.clipReady k.wordClip = true → s.speechQuiet →
    ∃ t : State, exec (.judgementTaken x) s = .next t ∧ t.dc.state = .settling ∧ t.dc.winner = some x ∧
      (t.round x).status = some .solved ∧ (t.round x.other).status = some .beaten ∧
      (t.ctx x).state = .feedback ∧ (t.ctx x.other).state = .feedback ∧ (t.ctx x.other).typed = [] ∧
      t.dc.result = some (if (s.ctx x).tries = 1 ∧ (s.ctx x).hints = 0 then .correct else .helped) ∧
      t.dc.target = none ∧ t.dc.scores = s.dc.scores.set x (s.dc.scores.get x + 1) ∧
      (∃ f, t.slot n = .occupied f p ∧ f.attempts = min (e.attempts + 1) 255 ∧ f.misses = e.misses ∧
        f.streak = (if (s.ctx x).tries = 1 ∧ (s.ctx x).hints = 0 then min (e.streak + 1) 15 else 0)) ∧
      (∃ q, t.se.v0 = some q ∧ t.dc.firm = some q.utterance.handle ∧ q.utterance.requester = .duel ∧
        q.utterance.cls = .feedback) ∧
      t.rl = s.rl ∧ t.fb = s.fb ∧ t.fixed = s.fixed := by
  intro s x j n k e p released thawed normal inFlight live round equal racing each target copy slot noRefill ready quiet
  obtain ⟨v, hv⟩ : ∃ v, v = s.judgementOut x := ⟨_, rfl⟩
  have quietV : v.speechQuiet := State.speechQuiet_congr quiet (by rw [hv]; rfl)
  have ctxV (y : Seat) : v.ctx y = s.ctx y := by rw [hv]; rfl
  have roundV (y : Seat) : v.round y = s.round y := by rw [hv]; rfl
  obtain ⟨w, hw⟩ : ∃ w, w = v.roundWon x := ⟨_, rfl⟩
  obtain ⟨ae, seats, only⟩ : ∃ ae seats, w = { v with
      ae := ae
      dc := { v.dc with seats := seats, winner := some x, scores := v.dc.scores.set x (v.dc.scores.get x + 1) } } :=
    ⟨_, _, hw.trans State.roundWon_only⟩
  have ctxW : w.ctx x = { s.ctx x with idleRunning := false, firm := none, state := (s.ctx x).leftRace } := by
    rw [hw, State.ctx_roundWon_self, ctxV]
  have rivalW : w.ctx x.other =
      { s.ctx x.other with idleRunning := false, firm := none, state := (s.ctx x.other).leftRace, typed := [] } := by
    rw [hw, State.ctx_roundWon_other, ctxV]
  have roundW : w.round x = { s.round x with ended := some (s.ctx x).finished, status := some .solved } := by
    rw [hw, State.round_roundWon_self, ctxV, roundV]
  have rivalRoundW : w.round x.other = { s.round x.other with ended := some .beaten, status := some .beaten } := by
    rw [hw, State.round_roundWon_other, roundV]
  have slotW : w.slot n = .occupied e p := by
    rw [only, hv]
    exact slot
  have quietW : w.speechQuiet := State.speechQuiet_congr quietV (by rw [only])
  have thawedW : w.fb.frozen = false := by
    rw [only, hv]
    exact thawed
  have keysW (y : Seat) : (w.seat y).keys = [] := by
    obtain ⟨-, -, -, -, keys⟩ := each y
    rw [only, hv]
    exact keys
  have dcW : w.dc = { v.dc with seats := seats, winner := some x, scores := v.dc.scores.set x (v.dc.scores.get x + 1) } := by
    rw [only]
  obtain ⟨r, hr⟩ : ∃ r, r = if (s.ctx x).tries = 1 ∧ (s.ctx x).hints = 0 then RoundResult.correct else .helped := ⟨_, rfl⟩
  have result : w.roundResult false = r := by
    obtain ⟨-, -, -, style, -⟩ := each x
    have winner : w.dc.winner = some x := by rw [dcW]
    have ended : (w.round x).ended = some (if (s.ctx x).tries = 1 ∧ (s.ctx x).hints = 0 then .correct else .helped) := by
      rw [roundW]
      simp [Context.finished, style]
    simp only [State.roundResult, winner, ended, hr]
    by_cases first : (s.ctx x).tries = 1 ∧ (s.ctx x).hints = 0
    · simp [first]
    · simp [first]
  have out (y : Seat) : (w.round y).status ≠ some .typing := by
    obtain rfl | rfl := seat_eq_or_eq_other x y
    · rw [roundW]
      simp
    · rw [rivalRoundW]
      simp
  obtain ⟨z, hz⟩ : ∃ z, z = w.roundSettled n r := ⟨_, rfl⟩
  have leads : Leads (1 + (1 + (1 + 5))) w [.takeKeys x, .takeKeys x.other, .arbitrate, .settleCheck] (z.duelSpeaks .feedback z.roundFeedback) := by
    refine (Leads.noKeys (keysW x)).cons ((Leads.noKeys (keysW x.other)).cons ((Leads.arbitrate_quiet quietW).cons ?_))
    rw [hz]
    refine Leads.settles (k := k) (x := x) ?_ out ?_ ?_ (by rw [dcW]) result ?_ ?_ ?_ quietW thawedW
    all_goals
      rw [only, hv]
      assumption
  have judged : s.takeJudgement x j = (w, [.takeKeys x, .takeKeys x.other, .arbitrate, .settleCheck]) := by
    have scoring : s.scoring x j := ⟨live, round, by simp [State.duelRuns, racing], (each x).2.1, (each x).1, equal⟩
    rw [State.takeJudgement_of_scoring scoring, ← hv, State.winRound_eq quietV, hw]
    rw [roundV]
    exact (each x.other).1
  have ctxZ (y : Seat) : z.ctx y = (w.ctx y).untargeted := by
    rw [hz]
    cases y <;> rfl
  have roundZ (y : Seat) : z.round y = w.round y := by
    rw [hz]
    rfl
  have slotZ : ∃ f, z.slot n = .occupied f p ∧ f.attempts = min (e.attempts + 1) 255 ∧ f.misses = e.misses ∧
      f.streak = (if (s.ctx x).tries = 1 ∧ (s.ctx x).hints = 0 then min (e.streak + 1) 15 else 0) := by
    rw [hz, hr]
    by_cases first : (s.ctx x).tries = 1 ∧ (s.ctx x).hints = 0
    · rw [if_pos first, if_pos first]
      exact ⟨_, State.slot_roundSettled slotW rfl rfl, rfl, rfl, rfl⟩
    · rw [if_neg first, if_neg first]
      exact ⟨_, State.slot_roundSettled slotW rfl rfl, rfl, rfl, rfl⟩
  obtain ⟨t, ht⟩ : ∃ t, t = z.duelSpeaks .feedback z.roundFeedback := ⟨_, rfl⟩
  rw [← ht] at leads
  have ctxT (y : Seat) : t.ctx y = (w.ctx y).untargeted := by
    rw [ht, ← ctxZ]
    rfl
  have roundT (y : Seat) : t.round y = w.round y := by
    rw [ht, ← roundZ]
    rfl
  have dcT : t.dc = { w.dc with
      state := .settling, result := some r, update := w.roundUpdate n r, target := none, firm := some z.freeHandle } := by
    rw [ht, hz]
    rfl
  have fixed : t.fixed = s.fixed := by
    rw [← leads.carryOut (by decide), State.fixed_carryOut, only, hv]
    rfl
  have typing (y : Seat) : (s.ctx y).leftRace = .feedback := leftRace_of_typing (each y).2.2.1
  refine ⟨t, judgementTaken_leads released thawed inFlight judged leads (by decide), ?state, ?winner, ?solved, ?beaten, ?left,
    ?rivalLeft, ?typed, ?result, ?target, ?scores, ?slot,
    ⟨⟨⟨z.freeHandle, .duel, .feedback, z.routeOf .duel, z.roundFeedback⟩, 0, 0, 0⟩, ?v0, ?firm, rfl, rfl⟩, ?rl, ?fb, fixed⟩
  case solved => rw [roundT, roundW]
  case beaten => rw [roundT, rivalRoundW]
  case left =>
    rw [ctxT, ctxW]
    exact typing x
  case rivalLeft =>
    rw [ctxT, rivalW]
    exact typing x.other
  case typed =>
    rw [ctxT, rivalW]
    rfl
  case result => rw [dcT, hr]
  case slot =>
    rw [ht]
    exact slotZ
  case v0 =>
    rw [ht]
    rfl
  case rl | fb =>
    rw [ht, hz, only, hv]
    rfl
  case winner =>
    rw [dcT, dcW]
  case scores =>
    rw [dcT, dcW, hv]
    rfl
  all_goals rw [dcT]

/-- Settles O29: an EQUAL judgement settles the race, an UNEQUAL one leaves another try or ends the attempt. -/
theorem judgementsDecideTheRound : Obligations.JudgementsDecideTheRound := by
  refine ⟨judgement_wins, fun s x j released thawed normal inFlight live round runs record keys => ?_⟩
  have heeds : s.heeds x j := ⟨live, round, runs, record⟩
  refine ⟨judgement_tryAgain released thawed normal inFlight heeds keys,
    judgement_seatOut released thawed inFlight heeds keys, fun status equal => ?_⟩
  exact judgementTaken_leads released thawed inFlight (State.takeJudgement_late heeds status equal) (.nil _) (by decide)

end Sys2Proof.Machine
end

section
/-! Who speaks: the utterances that wait or play under each act of SE, and the arbiter's choice (R146 to R154). -/

namespace Sys2Proof.Machine

/-! ### The utterances that wait or play -/

/-- An utterance waits or plays: it is on a voice or in a queue. -/
def State.speaks (s : State) (u : Utterance) : Prop :=
  (∃ v p, s.voice v = some p ∧ p.utterance = u) ∨ ∃ r, u ∈ s.speechQueue r

theorem State.mem_allPlaying_iff (s : State) (u : Utterance) :
    u ∈ s.allPlaying ↔ ∃ v p, s.voice v = some p ∧ p.utterance = u := by
  constructor
  · intro h
    obtain ⟨p, playing, rfl⟩ := List.mem_map.1 h
    obtain first | second := List.mem_append.1 playing
    · exact ⟨.v0, p, Option.mem_toList.1 first, rfl⟩
    · exact ⟨.v1, p, Option.mem_toList.1 second, rfl⟩
  · rintro ⟨v, p, playing, rfl⟩
    refine List.mem_map.2 ⟨p, List.mem_append.2 ?_, rfl⟩
    cases v with
    | v0 => exact .inl (Option.mem_toList.2 playing)
    | v1 => exact .inr (Option.mem_toList.2 playing)

theorem State.mem_allWaiting_iff (s : State) (u : Utterance) : u ∈ s.allWaiting ↔ ∃ r, u ∈ s.speechQueue r := by
  simp only [State.allWaiting, List.mem_append]
  constructor
  · rintro (((a | b) | d) | n)
    · exact ⟨.seat .a, a⟩
    · exact ⟨.seat .b, b⟩
    · exact ⟨.duel, d⟩
    · exact ⟨.announce, n⟩
  · rintro ⟨(_ | _) | _ | _, h⟩
    · exact .inl (.inl (.inl h))
    · exact .inl (.inl (.inr h))
    · exact .inl (.inr h)
    · exact .inr h

theorem State.speaks_iff (s : State) (u : Utterance) : s.speaks u ↔ u ∈ s.allPlaying ++ s.allWaiting := by
  rw [List.mem_append, State.mem_allPlaying_iff, State.mem_allWaiting_iff, State.speaks]

theorem State.voice_congr {s t : State} (h : t.se = s.se) (v : Voice) : t.voice v = s.voice v := by
  cases v <;> simp only [State.voice, h]

theorem State.speaks_congr {s t : State} (h : t.se = s.se) (u : Utterance) : t.speaks u ↔ s.speaks u := by
  simp only [State.speaks, State.voice_congr h, State.speechQueue_congr h]

theorem State.voice_setVoice (s : State) (v w : Voice) (p : Option Playing) :
    (s.setVoice v p).voice w = if w = v then p else s.voice w := by
  cases v <;> cases w <;> rfl

theorem State.voice_setSpeechQueue (s : State) (r : Requester) (q : List Utterance) (v : Voice) :
    (s.setSpeechQueue r q).voice v = s.voice v := by
  cases r <;> cases v <;> rfl

/-- Another queue and another voice content: who speaks then is in them or spoke before. -/
theorem State.speaks_of_setSpeechQueue {s : State} {r : Requester} {q : List Utterance} {u : Utterance}
    (h : (s.setSpeechQueue r q).speaks u) : u ∈ q ∨ s.speaks u := by
  obtain ⟨v, p, playing, rfl⟩ | ⟨k, waits⟩ := h
  · rw [State.voice_setSpeechQueue] at playing
    exact .inr (.inl ⟨v, p, playing, rfl⟩)
  · rw [State.speechQueue_setSpeechQueue] at waits
    split at waits
    · exact .inl waits
    · exact .inr (.inr ⟨k, waits⟩)

theorem State.speaks_of_setVoice {s : State} {v : Voice} {q : Option Playing} {u : Utterance}
    (h : (s.setVoice v q).speaks u) : (∃ p, q = some p ∧ p.utterance = u) ∨ s.speaks u := by
  obtain ⟨w, p, playing, rfl⟩ | ⟨k, waits⟩ := h
  · rw [State.voice_setVoice] at playing
    split at playing
    · exact .inl ⟨p, playing, rfl⟩
    · exact .inr (.inl ⟨w, p, playing, rfl⟩)
  · rw [State.speechQueue_setVoice] at waits
    exact .inr (.inr ⟨k, waits⟩)

/-! ### Acts of SE bring up no announcement of their own -/

theorem State.speaks_of_enqueue {s : State} {r : Requester} {cls : SpeechClass} {route : BitVec 3} {clips : List Nat}
    {u : Utterance} (h : (s.enqueue r cls route clips).2.speaks u) : u.requester = r ∨ s.speaks u := by
  obtain ⟨t, ht⟩ : ∃ t, t = s.setSpeechQueue r (s.speechQueue r ++ [s.utteranceOf r cls route clips]) := ⟨_, rfl⟩
  rw [State.speaks_congr (s := { t with se := { t.se with lastHandle := s.freeHandle } })
    ((s.enqueue_se r cls route clips).trans (by rw [ht]))] at h
  have placed : t.speaks u := h
  rw [ht] at placed
  obtain waits | old := State.speaks_of_setSpeechQueue placed
  · obtain before | new := List.mem_append.1 waits
    · exact .inr (.inr ⟨r, before⟩)
    · rw [List.mem_singleton.1 new]
      exact .inl rfl
  · exact .inr old

theorem State.speaks_of_freeVoice {s : State} {v : Voice} {u : Utterance} (h : (s.freeVoice v).speaks u) : s.speaks u := by
  unfold State.freeVoice at h
  split at h
  · rw [State.speaks_congr (unpinAll_se _ _)] at h
    obtain ⟨p, none', -⟩ | old := State.speaks_of_setVoice h
    · cases none'
    · exact old
  · exact h

theorem State.speaks_of_startUtterance {s : State} {v : Voice} {u w : Utterance} (waits : s.speaks u)
    (h : (s.startUtterance v u).speaks w) : s.speaks w := by
  rw [State.startUtterance_eq] at h
  have moved : ((s.setSpeechQueue u.requester ((s.speechQueue u.requester).drop 1)).setVoice v
      (some { utterance := u, index := 0, sample := 0, phase := 0 })).speaks w := h
  obtain ⟨p, same, rfl⟩ | old := State.speaks_of_setVoice moved
  · cases same
    exact waits
  · obtain dropped | old := State.speaks_of_setSpeechQueue old
    · exact .inr ⟨_, List.mem_of_mem_drop dropped⟩
    · exact old

theorem State.speaks_of_makeRoom {s t : State} {x : Seat} {cls : SpeechClass} {u : Utterance} (room : s.makeRoom x cls = some t)
    (h : t.speaks u) : s.speaks u := by
  obtain ⟨-, rfl⟩ | ⟨w, -, rfl⟩ := State.makeRoom_cases room
  · exact h
  · rw [State.speaks_congr (unpinAll_se _ _)] at h
    obtain left | old := State.speaks_of_setSpeechQueue h
    · exact .inr ⟨_, List.mem_of_mem_erase left⟩
    · exact old

theorem SpeechMove.announces {s t : State} {u : Utterance} (m : SpeechMove s t) (own : u.requester = .announce)
    (h : t.speaks u) : s.speaks u := by
  cases m with
  | note => exact h
  | acceptSeat accepted =>
    unfold State.acceptSeat at accepted
    split at accepted
    · split at accepted
      · rename_i room
        cases accepted
        obtain seat | old := State.speaks_of_enqueue h
        · rw [own] at seat
          cases seat
        · exact State.speaks_of_makeRoom room old
      · cases accepted
    · cases accepted
  | acceptDuel accepted =>
    unfold State.acceptDuel at accepted
    split at accepted
    · cases accepted
      obtain duel | old := State.speaks_of_enqueue h
      · rw [own] at duel
        cases duel
      · exact old
    · cases accepted
  | cancel p =>
    rw [State.speaks_iff, State.mem_cancel] at h
    rw [State.speaks_iff]
    exact h.1
  | start v w fill best =>
    obtain ⟨r, head⟩ := State.mem_heads (State.bestHead_spec best).1
    exact State.speaks_of_startUtterance (.inr ⟨r, List.mem_of_mem_head? head⟩) h
  | free => exact State.speaks_of_freeVoice h

theorem Move.announces {o s t : State} {u : Utterance} (m : Move o s t) (own : u.requester = .announce) (h : t.speaks u) :
    s.speaks u := by
  cases m with
  | speech m => exact m.announces own h
  | append r => exact (State.speaks_congr (by simp) u).1 h
  | fault => exact (State.speaks_congr (by simp) u).1 h
  | lessons | words | attention | waiting | holdEntered | keys => exact h

/-- A cascade brings up no announcement. -/
theorem Moves.announces {s t : State} {u : Utterance} (h : Moves s t) (own : u.requester = .announce) (speaks : t.speaks u) :
    s.speaks u :=
  h.keeps (P := fun t => t.speaks u → s.speaks u) (fun m old speaks => old (m.announces own speaks)) id speaks

/-! ### The arbiter (R153, R154) -/

theorem State.voiceToFill_none_iff (s : State) : s.voiceToFill = none ↔ s.se.v0.isSome = true ∧ s.se.v1.isSome = true := by
  unfold State.voiceToFill
  cases s.se.v0 <;> cases s.se.v1 <;> simp

theorem State.voiceToFill_v0_iff (s : State) : s.voiceToFill = some .v0 ↔ s.se.v0 = none := by
  unfold State.voiceToFill
  cases s.se.v0 <;> cases s.se.v1 <;> simp

theorem State.voiceToFill_v1_iff (s : State) : s.voiceToFill = some .v1 ↔ s.se.v0.isSome = true ∧ s.se.v1 = none := by
  unfold State.voiceToFill
  cases s.se.v0 <;> cases s.se.v1 <;> simp

theorem mem_take_one_iff {α : Type} {l : List α} {x : α} : x ∈ l.take 1 ↔ l.head? = some x := by
  cases l with
  | nil => simp
  | cons y ys => simp [eq_comm]

theorem State.mem_heads_iff (s : State) (u : Utterance) : u ∈ s.heads ↔ ∃ r, (s.speechQueue r).head? = some u := by
  refine ⟨State.mem_heads, ?_⟩
  simp only [State.heads, List.mem_append, mem_take_one_iff]
  rintro ⟨(_ | _) | _ | _, h⟩
  · exact .inl (.inl (.inl h))
  · exact .inl (.inl (.inr h))
  · exact .inl (.inr h)
  · exact .inr h

/-- One head stands no later than another in the arbiter's order (R153, R154). -/
def State.noLater (s : State) (u w : Utterance) : Prop :=
  u.cls.priority < w.cls.priority ∨
    u.cls.priority = w.cls.priority ∧ s.startPlace u.requester ≤ s.startPlace w.requester

theorem State.noLater_of_startsBefore {s : State} {u w : Utterance} :
    (s.startsBefore u w = true → s.noLater u w) ∧ (s.startsBefore u w = false → s.noLater w u) := by
  unfold State.startsBefore State.noLater
  constructor
  · intro h
    simp at h
    omega
  · intro h
    simp at h
    omega

theorem State.noLater_trans {s : State} {u w z : Utterance} (h : s.noLater u w) (h' : s.noLater w z) : s.noLater u z := by
  unfold State.noLater at *
  omega

theorem State.noLater_refl (s : State) (u : Utterance) : s.noLater u u := .inr ⟨rfl, Nat.le_refl _⟩

theorem State.foldl_betterHead_first (s : State) : ∀ (us : List Utterance) (b : Utterance), ∃ u,
    us.foldl s.betterHead (some b) = some u ∧ s.noLater u b ∧ ∀ w ∈ us, s.noLater u w
  | [], b => ⟨b, rfl, s.noLater_refl b, nofun⟩
  | w :: us, b => by
    obtain ⟨before, after⟩ := State.noLater_of_startsBefore (s := s) (u := w) (w := b)
    rw [List.foldl_cons, State.betterHead]
    cases starts : s.startsBefore w b with
    | true =>
      obtain ⟨u, found, first, all⟩ := s.foldl_betterHead_first us w
      exact ⟨u, found, State.noLater_trans first (before starts), List.forall_mem_cons.2 ⟨first, all⟩⟩
    | false =>
      obtain ⟨u, found, first, all⟩ := s.foldl_betterHead_first us b
      exact ⟨u, found, first, List.forall_mem_cons.2 ⟨State.noLater_trans first (after starts), all⟩⟩

/-- The heads that may start on a voice: none, or the best of them. -/
theorem State.bestHead_cases (s : State) (v : Voice) :
    s.bestHead v = none ∧ s.heads.filter (s.eligible v) = [] ∨
    ∃ u, s.bestHead v = some u ∧ ∀ w ∈ s.heads.filter (s.eligible v), s.noLater u w := by
  unfold State.bestHead
  cases s.heads.filter (s.eligible v) with
  | nil => exact .inl ⟨rfl, rfl⟩
  | cons w us =>
    obtain ⟨u, found, first, all⟩ := s.foldl_betterHead_first us w
    exact .inr ⟨u, found, List.forall_mem_cons.2 ⟨first, all⟩⟩

theorem State.bestHead_none_iff (s : State) (v : Voice) :
    s.bestHead v = none ↔ ∀ r w, (s.speechQueue r).head? = some w → s.eligible v w = false := by
  have empty : s.heads.filter (s.eligible v) = [] ↔ ∀ r w, (s.speechQueue r).head? = some w → s.eligible v w = false := by
    rw [List.filter_eq_nil_iff]
    constructor
    · exact fun h r w head => by simpa using h w ((s.mem_heads_iff w).2 ⟨r, head⟩)
    · intro h w head
      obtain ⟨r, head⟩ := (s.mem_heads_iff w).1 head
      simp [h r w head]
  rw [← empty]
  obtain ⟨none', nil⟩ | ⟨u, some', first⟩ := s.bestHead_cases v
  · exact ⟨fun _ => nil, fun _ => none'⟩
  · refine ⟨fun none' => ?_, fun nil => ?_⟩
    · rw [none'] at some'
      cases some'
    · rw [State.bestHead, nil]
      rfl

theorem State.bestHead_some {s : State} {v : Voice} {u : Utterance} (h : s.bestHead v = some u) :
    s.eligible v u = true ∧ (∃ r, (s.speechQueue r).head? = some u) ∧
      ∀ r w, (s.speechQueue r).head? = some w → s.eligible v w = true → s.noLater u w := by
  obtain ⟨head, eligible⟩ := State.bestHead_spec h
  refine ⟨eligible, State.mem_heads head, fun r w hw may => ?_⟩
  obtain ⟨none', -⟩ | ⟨k, some', first⟩ := s.bestHead_cases v
  · rw [none'] at h
    cases h
  · rw [some'] at h
    cases h
    exact first w (List.mem_filter.2 ⟨(s.mem_heads_iff w).2 ⟨r, hw⟩, may⟩)

theorem State.eligible_iff (s : State) (v : Voice) (u : Utterance) : s.eligible v u = true ↔
    ∀ p, s.voice (otherVoice v) = some p → u.route &&& p.utterance.route = 0 := by
  unfold State.eligible shareChannel
  cases s.voice (otherVoice v) with
  | none => simp
  | some p => simp

theorem State.startPlaces {s : State} {x y z : Requester} (order : s.se.startOrder = [x, y, z]) (xy : x ≠ y) (yz : y ≠ z)
    (xz : x ≠ z) : s.startPlace x = 0 ∧ s.startPlace y = 1 ∧ s.startPlace z = 2 := by
  simp [State.startPlace, order, xy, yz, xz]

theorem State.cs_startUtterance (s : State) (v : Voice) (u : Utterance) : (s.startUtterance v u).cs = s.cs := by
  unfold State.startUtterance
  cases u.requester <;> cases v <;> rfl

/-- The arbiter starts the best head on the voice it fills. -/
theorem State.arbitrate_starts {s : State} {v : Voice} {u : Utterance} {c : Nat} {cs : List Nat} (fill : s.voiceToFill = some v)
    (best : s.bestHead v = some u) (clips : u.clips = c :: cs) (good : s.clipBad c = false) :
    s.arbitrate = (s.startUtterance v u, [.arbitrate]) := by
  have same : (s.startUtterance v u).clipBad c = s.clipBad c := by
    have clip : (s.startUtterance v u).clip c = s.clip c := State.clip_congr (by rw [State.cs_startUtterance]) c
    rw [State.clipBad, clip]
    rfl
  unfold State.arbitrate
  rw [fill]
  dsimp only
  rw [best]
  dsimp only
  rw [clips]
  exact if_neg (by simp [same, good])

section StartUtterance

variable (s : State) (v : Voice) (u : Utterance)

theorem State.voice_startUtterance_self : (s.startUtterance v u).voice v = some ⟨u, 0, 0, 0⟩ := by
  rw [State.startUtterance_eq]
  cases v <;> rfl

theorem State.voice_startUtterance_other : (s.startUtterance v u).voice (otherVoice v) = s.voice (otherVoice v) := by
  rw [State.startUtterance_eq]
  cases v <;> cases u.requester <;> rfl

theorem State.speechQueue_startUtterance (r : Requester) : (s.startUtterance v u).speechQueue r =
    if r = u.requester then (s.speechQueue r).drop 1 else s.speechQueue r := by
  have moved : (s.startUtterance v u).speechQueue r =
      (s.setSpeechQueue u.requester ((s.speechQueue u.requester).drop 1)).speechQueue r := by
    rw [State.startUtterance_eq]
    cases v <;> cases r <;> rfl
  rw [moved, State.speechQueue_setSpeechQueue]
  split
  · rename_i same
    rw [same]
  · rfl

theorem State.startOrder_startUtterance : (s.startUtterance v u).se.startOrder =
    if u.requester = .announce then s.se.startOrder else s.se.startOrder.erase u.requester ++ [u.requester] := by
  rw [State.startUtterance_eq]

theorem State.startUtterance_only : ({ s.startUtterance v u with se := s.se } : State) = s := by
  rw [State.startUtterance_eq]
  cases v <;> cases u.requester <;> rfl

end StartUtterance

/-! ### One utterance of the duel (R147) -/

theorem State.duelQueue_cancelHandle {s : State} {h : Option Nat} (own : ∀ u ∈ s.se.duelQueue, h = some u.handle) :
    (s.cancelHandle h).se.duelQueue = [] := by
  cases h with
  | none =>
    cases waits : s.se.duelQueue with
    | nil => exact waits
    | cons u us =>
      rw [waits] at own
      cases own u (List.mem_cons_self ..)
  | some k =>
    show (s.cancel (·.handle == k)).se.duelQueue = []
    rw [State.se_cancel]
    refine List.filter_eq_nil_iff.2 fun u hu => ?_
    cases own u hu
    simp

theorem placeDuelFirm_one : ∀ (s t : State) (cls : SpeechClass) (clips : List Nat) (ts : List Task),
    (∀ u ∈ s.se.duelQueue, s.dc.firm = some u.handle) → s.placeDuelFirm cls clips = (t, ts) →
    t.se.duelQueue.length ≤ 1 ∧ ∀ u ∈ t.se.duelQueue, t.dc.firm = some u.handle := by
  intro s t cls clips ts own placed
  obtain ⟨d, hd⟩ : ∃ d, d = s.dropDuelFirm := ⟨_, rfl⟩
  have empty : d.se.duelQueue = [] := by
    rw [hd]
    exact State.duelQueue_cancelHandle own
  have idle : d.se.duelQueue.length ≤ 1 ∧ ∀ u ∈ d.se.duelQueue, d.dc.firm = some u.handle := by
    rw [empty]
    exact ⟨Nat.zero_le 1, nofun⟩
  unfold State.placeDuelFirm at placed
  dsimp only at placed
  rw [← hd] at placed
  by_cases none' : clips = []
  · rw [if_pos none'] at placed
    cases placed
    exact idle
  · rw [if_neg none'] at placed
    unfold State.acceptDuel at placed
    by_cases ready : clips.all d.clipReady = true
    · rw [if_pos ready] at placed
      have queue : (d.enqueue .duel cls (d.routeOf .duel) clips).2.se.duelQueue =
          [d.utteranceOf .duel cls (d.routeOf .duel) clips] := by
        rw [State.enqueue_se]
        show d.se.duelQueue ++ _ = _
        rw [empty]
        rfl
      obtain ⟨e, he⟩ : ∃ e, e = d.enqueue .duel cls (d.routeOf .duel) clips := ⟨_, rfl⟩
      have handle : e.1 = d.freeHandle := by rw [he]; rfl
      rw [← he] at placed queue
      cases placed
      refine ⟨by rw [queue]; exact Nat.le_refl 1, fun u hu => ?_⟩
      have mem : u ∈ e.2.se.duelQueue := hu
      rw [queue] at mem
      rw [List.mem_singleton.1 mem]
      exact congrArg some handle
    · rw [if_neg ready] at placed
      cases placed
      exact idle

end Sys2Proof.Machine
end

section
/-! Announcements: accepted, spoken and cancelled (R146, R148, R150, R158, R159, R162, R163). -/

namespace Sys2Proof.Machine

/-! ### Handles and pins in quiet speech (R146, R150) -/

theorem State.freeHandle_quiet {s : State} (quiet : s.speechQuiet) : s.freeHandle = nextHandle s.se.lastHandle := by
  have unused : s.handleInUse (nextHandle s.se.lastHandle) = false := by
    rw [State.handleInUse, quiet.1, quiet.2]
    rfl
  rw [State.freeHandle, State.freeHandleFrom]
  exact if_neg (by simp [unused])

theorem State.clip_pinAll {id : Nat} : ∀ (clips : List Nat) {s : State} {c : Clip}, s.clip id = some c →
    (s.pinAll clips).clip id = some { c with pins := c.pins + clips.count id }
  | [], _, _, h => h
  | k :: clips, s, c, h => by
    have pinned := s.clip_pin k id
    rw [h] at pinned
    by_cases same : id = k
    · subst same
      rw [if_pos rfl] at pinned
      refine (State.clip_pinAll clips pinned).trans ?_
      rw [List.count_cons_self]
      simp only [Option.some.injEq, Clip.mk.injEq, true_and, and_true]
      omega
    · rw [if_neg same] at pinned
      refine (State.clip_pinAll clips pinned).trans ?_
      rw [List.count_cons_of_ne (Ne.symm same)]

theorem State.unpin_kept {s : State} {id : Nat} {c : Clip} (clip : s.clip id = some c) (state : c.state ≠ .retiring) :
    s.unpin id = s.setClip id (some { c with pins := c.pins - 1 }) := by
  rw [State.unpin, clip]
  exact if_neg fun ⟨retiring, _⟩ => state retiring

/-! ### ANNOUNCE (R162) -/

/-- The state in which an announcement of READY clips plays on voice V0. -/
def State.announced (s : State) (route : BitVec 3) (ids : List Nat) : State :=
  { s with
    se := { s.se with
      v0 := some ⟨⟨s.freeHandle, .announce, .announce, route, ids⟩, 0, 0, 0⟩
      lastHandle := s.freeHandle }
    cs := (s.pinAll ids).cs }

theorem State.enqueue_announce_eq {s : State} (quiet : s.speechQuiet) (route : BitVec 3) (ids : List Nat) :
    (s.enqueue .announce .announce route ids).2 = { s with
      se := { s.se with
        announceQueue := [⟨s.freeHandle, .announce, .announce, route, ids⟩]
        lastHandle := s.freeHandle }
      cs := (s.pinAll ids).cs } := by
  obtain ⟨-, -, -, -, empty⟩ := (speechQuiet_iff s).1 quiet
  unfold State.enqueue
  dsimp only
  rw [State.pinAll_only]
  simp only [State.setSpeechQueue, State.speechQueue, empty, List.nil_append]

theorem Leads.announce {s : State} (quiet : s.speechQuiet) (route : BitVec 3) {ids : List Nat}
    (ready : ids.all s.clipReady = true) :
    Leads 2 (s.enqueue .announce .announce route ids).2 [.arbitrate] (s.announced route ids) := by
  obtain ⟨v0, v1, seats, duel, empty⟩ := (speechQuiet_iff s).1 quiet
  obtain ⟨u, hu⟩ : ∃ u : Utterance, u = ⟨s.freeHandle, .announce, .announce, route, ids⟩ := ⟨_, rfl⟩
  obtain ⟨w, hw⟩ : ∃ w, w = (s.enqueue .announce .announce route ids).2 := ⟨_, rfl⟩
  have only := hw.trans (State.enqueue_announce_eq quiet route ids)
  rw [← hu] at only
  have waits : w.onlyWaits u := by
    rw [only]
    refine ⟨v0, v1, ?_, ?_⟩
    · simp [State.allWaiting, seats, duel]
    · rw [hu]
      rfl
  have good : ∀ c ∈ u.clips.head?, w.clipBad c = false := by
    intro c hc
    refine clipBad_of_ready ?_
    have pinned : w.clipReady c = (s.pinAll ids).clipReady c := by
      rw [only]
      rfl
    rw [pinned, clipReady_pinAll]
    refine List.all_eq_true.1 ready c (List.mem_of_mem_head? ?_)
    rwa [hu] at hc
  have started : w.startUtterance .v0 u = s.announced route ids := by
    rw [only, hu]
    unfold State.announced State.startUtterance
    simp only [State.setSpeechQueue, State.setVoice, State.speechQueue, List.drop_succ_cons, List.drop_zero]
    rw [← empty]
  rw [← hw, ← started]
  exact .of_drain fun n us => drain_arbitrate_one waits good n us

theorem announce_plays : ∀ (s : State) (tag route count : Byte) (clips : List Byte) (r : BitVec 3) (ids : List Nat),
    s.takes (.announce tag route count clips) → routeOf route = some r → clipIds clips = some ids →
    1 ≤ count.toNat → count.toNat ≤ 20 → ids.all s.clipReady = true → s.speechQuiet →
    ∃ t : State, exec (.announce tag route count clips) s =
        .next (t.replied (.announce tag route count clips) .ok [byte (if s.se.lastHandle < 255 then s.se.lastHandle + 1 else 1)]) ∧
      t.se.v0 = some ⟨⟨if s.se.lastHandle < 255 then s.se.lastHandle + 1 else 1, .announce, .announce, r, ids⟩, 0, 0, 0⟩ ∧
      t.se.v1 = none ∧ t.allWaiting = [] ∧
      t.se.lastHandle = (if s.se.lastHandle < 255 then s.se.lastHandle + 1 else 1) ∧
      (∀ id c, s.clip id = some c → t.clip id = some { c with pins := c.pins + ids.count id }) ∧
      t.se.startOrder = s.se.startOrder ∧ t.ae = s.ae ∧ t.dc = s.dc ∧ t.rl = s.rl ∧ t.fb = s.fb ∧ t.au = s.au ∧
      t.fixed = s.fixed := by
  intro s tag route count clips r ids taken hr hids low high ready quiet
  have handle := State.freeHandle_quiet quiet
  rw [nextHandle] at handle
  obtain ⟨-, v1, -, -, empty⟩ := (speechQuiet_iff s).1 quiet
  have leads := Leads.announce quiet r ready
  have answer : requestOwner (.announce tag route count clips) s = (s.announced r ids, .ok, [byte s.freeHandle]) := by
    have inside : decide (count.toNat = 0 ∨ Config.utteranceClips < count.toNat) = false :=
      decide_eq_false (by simp only [Config.utteranceClips]; omega)
    have room : decide (Config.announcements ≤ s.se.announceQueue.length) = false := by
      rw [empty]
      rfl
    show announceOwner route count clips s = _
    rw [announceOwner, hr, hids]
    dsimp only
    rw [inside, State.refuseIf_false, State.announceOn, ready, Bool.not_true, room, State.refuseIf_false, State.refuseIf_false]
    dsimp only
    rw [leads.carryOut (by decide)]
    rfl
  have fixed : (s.announced r ids).fixed = s.fixed := by
    rw [← leads.carryOut (by decide), State.fixed_carryOut, State.fixed_enqueue]
  rw [← handle]
  exact ⟨_, exec_answer rfl taken answer, rfl, v1, quiet.2, rfl,
    fun id c clip => (State.clip_congr rfl id).trans (State.clip_pinAll ids clip), rfl, rfl, rfl, rfl, rfl, rfl, fixed⟩

/-! ### CANCEL_ANNOUNCE (R159, R163) -/

theorem Speech.without_of_noneWaits {s : State} {p : Playing} {q : Utterance → Bool} (v0 : s.se.v0 = some p)
    (v1 : s.se.v1 = none) (waiting : s.allWaiting = []) (named : q p.utterance = true) :
    s.se.without q = { s.se with v0 := none } := by
  simp only [State.allWaiting, List.append_eq_nil_iff] at waiting
  obtain ⟨⟨⟨a, b⟩, d⟩, n⟩ := waiting

  have seats : s.se.seatQueue = ⟨[], []⟩ := by
    cases queues : s.se.seatQueue
    simp_all
  unfold Speech.without
  simp only [seats, d, n, v0, v1, named, List.filter_nil, keepPlaying, if_true]

/-- The one announcement that plays is cancelled. -/
theorem State.cancel_announcement {s : State} {p : Playing} {q : Utterance → Bool} {id : Nat} {c : Clip} (v0 : s.se.v0 = some p)
    (v1 : s.se.v1 = none) (waiting : s.allWaiting = []) (named : q p.utterance = true)
    (announce : p.utterance.requester = .announce) (clips : p.utterance.clips = [id]) (clip : s.clip id = some c)
    (ready : c.state = .ready) : s.cancelAnd q = { s.setClip id (some { c with pins := c.pins - 1 }) with
      se := { s.se with v0 := none, lastAnnounce := some ⟨p.utterance.handle, .cancelled⟩ } } := by
  have playing : s.allPlaying = [p.utterance] := by
    rw [State.allPlaying, v0, v1]
    rfl
  have quiet : (s.cancel q).speechQuiet := cancel_everything fun u hu => by
    rw [playing, waiting, List.append_nil, List.mem_singleton] at hu
    rwa [hu]
  have names : s.named q = [p.utterance] := by
    rw [State.named, playing, waiting]
    simp [named]
  have unpinned : ({ s with se := { s.se with v0 := none } } : State).unpinAll [id] =
      { s.setClip id (some { c with pins := c.pins - 1 }) with se := { s.se with v0 := none } } := by
    refine (State.unpin_kept (s := { s with se := { s.se with v0 := none } }) clip (by rw [ready]; decide)).trans ?_
    cases id <;> rfl
  have cancelled : s.cancel q = { s.setClip id (some { c with pins := c.pins - 1 }) with
      se := { s.se with v0 := none, lastAnnounce := some ⟨p.utterance.handle, .cancelled⟩ } } := by
    rw [State.cancel_eq, names, Speech.without_of_noneWaits v0 v1 waiting named]
    simp only [lastAnnounced, announce, clips, List.flatMap_cons, List.flatMap_nil, List.append_nil, beq_self_eq_true,
      List.filter_cons_of_pos, List.filter_nil, List.getLast?_singleton, Option.map_some]
    rw [unpinned]
    rfl
  rw [State.cancelAnd, (Leads.arbitrate_quiet quiet).carryOut (by decide), cancelled]

/-- After a cancellation of all announcements no announcement waits or plays, whatever the arbiter leads to. -/
theorem State.noAnnouncement_cancelAnd (s : State) : ∀ u ∈ (s.cancelAnd isAnnouncement).allPlaying ++
    (s.cancelAnd isAnnouncement).allWaiting, u.requester ≠ .announce := by
  intro u hu own
  have moves : Moves (s.cancel isAnnouncement) (s.cancelAnd isAnnouncement) :=
    Moves.carryOut .refl _ fun _ => by simp [Task.lawful]
  have left := moves.announces own ((State.speaks_iff _ u).2 hu)
  rw [State.speaks_iff, State.mem_cancel] at left
  have named : isAnnouncement u = true := beq_iff_eq.2 own
  rw [named] at left
  cases left.2

theorem State.cancelAnd_quiet {s : State} (quiet : s.speechQuiet) (q : Utterance → Bool) : s.cancelAnd q = s := by
  rw [State.cancelAnd, cancel_quiet quiet]
  exact (Leads.arbitrate_quiet quiet).carryOut (by decide)

theorem cancelAnnounce_one {s : State} {tag handle : Byte} (taken : s.takes (.cancelAnnounce tag 0 handle))
    (nonzero : handle.toNat ≠ 0) :
    exec (.cancelAnnounce tag 0 handle) s =
      if (s.allPlaying ++ s.allWaiting).any (isAnnouncementWith handle.toNat) = true then
        .next ((s.cancelAnd (isAnnouncementWith handle.toNat)).replied (.cancelAnnounce tag 0 handle) .ok [])
      else .next (s.replied (.cancelAnnounce tag 0 handle) .notFound []) := by
  have allowed : (handle.toNat == 0) = false := by simp [nonzero]
  have owner : requestOwner (.cancelAnnounce tag 0 handle) s =
      s.refuseIf (!(s.allPlaying ++ s.allWaiting).any (isAnnouncementWith handle.toNat)) .notFound
        ((s.cancelAnd (isAnnouncementWith handle.toNat)).ok []) := by
    show s.cancelAnnounceOne handle.toNat = _
    rw [State.cancelAnnounceOne, allowed, State.refuseIf_false]
  cases found : (s.allPlaying ++ s.allWaiting).any (isAnnouncementWith handle.toNat) with
  | true =>
    rw [if_pos rfl]
    exact exec_answer rfl taken (owner.trans (by rw [found]; rfl))
  | false =>
    rw [if_neg Bool.false_ne_true]
    exact exec_answer rfl taken (owner.trans (by rw [found]; rfl))

theorem cancelAnnounce_all {s : State} {tag handle : Byte} (taken : s.takes (.cancelAnnounce tag 1 handle)) :
    exec (.cancelAnnounce tag 1 handle) s =
      .next ((s.cancelAnd isAnnouncement).replied (.cancelAnnounce tag 1 handle) .ok []) :=
  exec_answer rfl taken rfl

theorem cancelAnnounce_answers (s : State) (tag handle : Byte) (p : Playing) (id : Nat) (c : Clip) :
    (s.takes (.cancelAnnounce tag 0 handle) → handle.toNat ≠ 0 → s.se.v0 = some p → s.se.v1 = none →
      s.allWaiting = [] → p.utterance.requester = .announce → p.utterance.handle = handle.toNat →
      p.utterance.clips = [id] → s.clip id = some c → c.state = .ready →
      exec (.cancelAnnounce tag 0 handle) s = .next (({ (s.setClip id (some { c with pins := c.pins - 1 })) with
        se := { s.se with v0 := none, lastAnnounce := some ⟨handle.toNat, .cancelled⟩ } }).replied
          (.cancelAnnounce tag 0 handle) .ok [])) ∧
    (s.takes (.cancelAnnounce tag 1 handle) → s.se.v0 = some p → s.se.v1 = none → s.allWaiting = [] →
      p.utterance.requester = .announce → p.utterance.clips = [id] → s.clip id = some c → c.state = .ready →
      exec (.cancelAnnounce tag 1 handle) s = .next (({ (s.setClip id (some { c with pins := c.pins - 1 })) with
        se := { s.se with v0 := none, lastAnnounce := some ⟨p.utterance.handle, .cancelled⟩ } }).replied
          (.cancelAnnounce tag 1 handle) .ok [])) ∧
    (s.takes (.cancelAnnounce tag 1 handle) → ∃ t : State, exec (.cancelAnnounce tag 1 handle) s =
        .next (t.replied (.cancelAnnounce tag 1 handle) .ok []) ∧
      ∀ u ∈ t.allPlaying ++ t.allWaiting, u.requester ≠ .announce) ∧
    (s.takes (.cancelAnnounce tag 1 handle) → s.speechQuiet →
      exec (.cancelAnnounce tag 1 handle) s = .next (s.replied (.cancelAnnounce tag 1 handle) .ok [])) ∧
    (s.takes (.cancelAnnounce tag 0 handle) → handle.toNat ≠ 0 →
      (∀ u ∈ s.allPlaying ++ s.allWaiting, u.requester = .announce → u.handle ≠ handle.toNat) →
      exec (.cancelAnnounce tag 0 handle) s = .next (s.replied (.cancelAnnounce tag 0 handle) .notFound [])) := by
  refine ⟨fun taken nonzero v0 v1 waiting announce same clips clip ready => ?_,
    fun taken v0 v1 waiting announce clips clip ready => ?_,
    fun taken => ⟨_, cancelAnnounce_all taken, s.noAnnouncement_cancelAnd⟩, fun taken quiet => ?_,
    fun taken nonzero other => ?_⟩
  · have named : isAnnouncementWith handle.toNat p.utterance = true := by
      simp [isAnnouncementWith, isAnnouncement, announce, same]
    have found : (s.allPlaying ++ s.allWaiting).any (isAnnouncementWith handle.toNat) = true := by
      rw [State.allPlaying, v0, List.any_eq_true]
      exact ⟨p.utterance, by simp, named⟩
    rw [cancelAnnounce_one taken nonzero, if_pos found, State.cancel_announcement v0 v1 waiting named announce clips clip ready,
      same]
  · have named : isAnnouncement p.utterance = true := beq_iff_eq.2 announce
    rw [cancelAnnounce_all taken, State.cancel_announcement v0 v1 waiting named announce clips clip ready]
  · rw [cancelAnnounce_all taken, State.cancelAnd_quiet quiet]
  · rw [cancelAnnounce_one taken nonzero, if_neg]
    rw [List.any_eq_true]
    rintro ⟨u, speaks, named⟩
    rw [isAnnouncementWith, Bool.and_eq_true, beq_iff_eq] at named
    exact other u speaks (beq_iff_eq.1 named.1) named.2

/-! ### The arbiter's choice (R153, R154) -/

theorem arbiter_chooses (s : State) (v : Voice) (u : Utterance) :
    (s.voiceToFill = none ↔ s.se.v0.isSome = true ∧ s.se.v1.isSome = true) ∧
    (s.voiceToFill = some .v0 ↔ s.se.v0 = none) ∧ (s.voiceToFill = some .v1 ↔ s.se.v0.isSome = true ∧ s.se.v1 = none) ∧
    (s.bestHead v = none ↔ ∀ r w, (s.speechQueue r).head? = some w → s.eligible v w = false) ∧
    (s.bestHead v = some u → s.eligible v u = true ∧ (∃ r, (s.speechQueue r).head? = some u) ∧
      ∀ r w, (s.speechQueue r).head? = some w → s.eligible v w = true →
        u.cls.priority < w.cls.priority ∨
        u.cls.priority = w.cls.priority ∧ s.startPlace u.requester ≤ s.startPlace w.requester) ∧
    (s.eligible v u = true ↔ ∀ p, s.voice (otherVoice v) = some p → u.route &&& p.utterance.route = 0) ∧
    [SpeechClass.announce, .feedback, .prompt, .cue, .echo].map SpeechClass.priority = [0, 1, 2, 3, 4] ∧
    (∀ x y z, s.se.startOrder = [x, y, z] → x ≠ y → y ≠ z → x ≠ z →
      s.startPlace x = 0 ∧ s.startPlace y = 1 ∧ s.startPlace z = 2) ∧
    (∀ c cs, s.voiceToFill = some v → s.bestHead v = some u → u.clips = c :: cs → s.clipBad c = false →
      ∃ t : State, s.arbitrate = (t, [.arbitrate]) ∧ t.voice v = some ⟨u, 0, 0, 0⟩ ∧
        t.voice (otherVoice v) = s.voice (otherVoice v) ∧
        (∀ r, t.speechQueue r = if r = u.requester then (s.speechQueue r).drop 1 else s.speechQueue r) ∧
        t.se.startOrder = (if u.requester = .announce then s.se.startOrder
          else s.se.startOrder.erase u.requester ++ [u.requester]) ∧ { t with se := s.se } = s) :=
  ⟨s.voiceToFill_none_iff, s.voiceToFill_v0_iff, s.voiceToFill_v1_iff, s.bestHead_none_iff v, State.bestHead_some,
    s.eligible_iff v u, rfl, fun _ _ _ => State.startPlaces, fun _ _ fill best clips good =>
      ⟨_, State.arbitrate_starts fill best clips good, s.voice_startUtterance_self v u, s.voice_startUtterance_other v u,
        s.speechQueue_startUtterance v u, s.startOrder_startUtterance v u, s.startUtterance_only v u⟩⟩

/-- Settles O38: announcements are accepted and cancelled, the arbiter chooses by class and start order, and DC has one
utterance at most. -/
theorem announcementsAreSpokenAndCancelled : Obligations.AnnouncementsAreSpokenAndCancelled :=
  ⟨announce_plays, cancelAnnounce_answers, arbiter_chooses, placeDuelFirm_one⟩

end Sys2Proof.Machine
end

section
/-! A voice's utterance ends or goes on: the freed voice, the report, and what the requester makes of it (R33, R79, R155 to R158). -/

namespace Sys2Proof.Machine

/-! ### A freed voice (R156) -/

/-- The state in which a voice's one clip has lost a pin and the voice is FREE. -/
def State.voiceFreed (s : State) (v : Voice) (id : Nat) (c : Clip) : State :=
  { s.setClip id (some { c with pins := c.pins - 1 }) with se := (s.setVoice v none).se }

/-- A voice is the only one that speaks, on one clip that is not RETIRING. -/
structure State.soloVoice (s : State) (v : Voice) (p : Playing) (id : Nat) (c : Clip) : Prop where
  playing : s.voice v = some p
  other : s.voice (otherVoice v) = none
  waiting : s.allWaiting = []
  clips : p.utterance.clips = [id]
  clip : s.clip id = some c
  state : c.state = .ready

section VoiceFreed

variable {s : State} {v : Voice} {p : Playing} {id : Nat} {c : Clip} (h : s.soloVoice v p id c)
include h

theorem State.freeVoice_solo : s.freeVoice v = s.voiceFreed v id c := by
  have clip : (s.setVoice v none).clip id = some c := (State.clip_congr (by cases v <;> rfl) id).trans h.clip
  rw [State.freeVoice, h.playing]
  dsimp only
  rw [h.clips]
  refine (State.unpin_kept clip (by rw [h.state]; decide)).trans ?_
  cases v <;> cases id <;> rfl

theorem State.speechQuiet_voiceFreed : (s.voiceFreed v id c).speechQuiet := by
  refine ⟨?_, ?_⟩
  · have v0 : (s.voiceFreed v id c).voice v = none := by cases v <;> rfl
    have v1 : (s.voiceFreed v id c).voice (otherVoice v) = none := by
      rw [← h.other]
      cases v <;> rfl
    rw [List.eq_nil_iff_forall_not_mem]
    intro u speaks
    obtain ⟨w, q, playing, -⟩ := (State.mem_allPlaying_iff _ u).1 speaks
    cases v <;> cases w <;> simp_all [otherVoice]
  · rw [← h.waiting]
    cases v <;> rfl

theorem State.clip_voiceFreed : (s.voiceFreed v id c).clip id = some { c with pins := c.pins - 1 } := by
  refine (State.clip_congr (s := s.setClip id (some { c with pins := c.pins - 1 })) rfl id).trans ?_
  rw [State.clip_setClip_present h.clip, if_pos rfl]

theorem State.playedTo_solo (first : p.index = 0) : s.playedTo p = .done := by
  rw [State.playedTo, h.clips, first]
  rfl

theorem State.voiceDone_solo (first : p.index = 0) : s.voiceDone v = (s.voiceFreed v id c).carryOut
    [.report p.utterance.requester p.utterance.cls p.utterance.handle .done, .arbitrate] := by
  rw [State.voiceDone, h.playing]
  dsimp only
  rw [State.playedTo_solo h first, State.endPlaying, State.freeVoice_solo h]

theorem utteranceDone_leads {k : Nat} {t : State} (released : s.resetHeld = false) (first : p.index = 0)
    (leads : Leads k (s.voiceFreed v id c)
      [.report p.utterance.requester p.utterance.cls p.utterance.handle .done, .arbitrate] t) (few : k ≤ Config.cascade) :
    exec (.utteranceDone v) s = .next t := by
  refine (event_taken (act := fun s => s.voiceDone v) released).trans ?_
  rw [State.voiceDone_solo h first, leads.carryOut few]

end VoiceFreed

theorem State.voiceFreed_only (s : State) (v : Voice) (id : Nat) (c : Clip) :
    s.voiceFreed v id c = { s with se := (s.setVoice v none).se, cs := (s.voiceFreed v id c).cs } := by
  cases v <;> cases id <;> rfl

/-! ### Reports (R158) -/

theorem Leads.announcementEnds (s : State) (cls : SpeechClass) (k : Nat) (st : EndStatus) :
    Leads 1 s [.report .announce cls k st] (s.noteAnnouncement k st) := by
  refine .task (more := []) ?_ (.nil _)
  rw [runTask]
  exact if_neg (by simp [Task.ofSpeech])

/-- The report of a context's prompt takes it from PROMPTING to TYPING (R33). -/
theorem Leads.promptEnds {s : State} {x : Seat} {k : Nat} {st : EndStatus} (firm : (s.ctx x).firm = some k)
    (prompting : (s.ctx x).state = .prompting) (keys : (s.seat x).keys = []) (thawed : s.fb.frozen = false) :
    Leads 3 s [.report (.seat x) .prompt k st]
      (s.setCtx x ({ s.ctx x with firm := none }.prompted s.cfg.idleLimit s.tb.counter (s.inFlight x))) := by
  obtain ⟨u, hu⟩ : ∃ u, u = s.setCtx x { s.ctx x with firm := none } := ⟨_, rfl⟩
  have ctxU : u.ctx x = { s.ctx x with firm := none } := by rw [hu, State.ctx_setCtx_self]
  have reported : s.reportToSeat x .prompt k = (u, [.completed x .prompt]) := by
    rw [State.reportToSeat, if_pos firm, hu]
  have completed : u.completePrompt x =
      s.setCtx x ({ s.ctx x with firm := none }.prompted s.cfg.idleLimit s.tb.counter (s.inFlight x)) := by
    rw [State.completePrompt_eq ctxU prompting, hu, State.setCtx_setCtx]
    rfl
  refine .acts thawed reported (.acts (by rw [hu]; exact thawed) (t := u.completePrompt x) rfl ?_)
  rw [completed]
  exact .noKeys keys

/-- The contexts of a duel after the round's prompt has ended: the race is on (R79). -/
def State.raceStarted (s : State) : State :=
  { s with
    dc := { s.dc with state := .racing, firm := none }
    ae := ⟨s.ae.a.prompted s.cfg.idleLimit s.tb.counter (s.inFlight .a),
      s.ae.b.prompted s.cfg.idleLimit s.tb.counter (s.inFlight .b)⟩ }

theorem Leads.roundPromptEnds {s : State} {k : Nat} {st : EndStatus} (firm : s.dc.firm = some k)
    (presenting : s.dc.state = .presenting) (racing : ∀ x, (s.round x).status = some .typing ∧ (s.ctx x).state = .prompting)
    (keys : ∀ x, (s.seat x).keys = []) (thawed : s.fb.frozen = false) :
    Leads 4 s [.report .duel .prompt k st] s.raceStarted := by
  obtain ⟨u, hu⟩ : ∃ u, u = ({ s with dc := { s.dc with firm := none } } : State) := ⟨_, rfl⟩
  have reported : s.reportToDuel .prompt k = (u, [.duelCompleted .prompt]) := by
    rw [State.reportToDuel, if_pos firm, hu]
  obtain ⟨r, hr⟩ : ∃ r, r = ({ u with dc := { u.dc with state := .racing } } : State) := ⟨_, rfl⟩
  have ctxR (x : Seat) : r.ctx x = s.ctx x := by rw [hr, hu]; rfl
  have roundR (x : Seat) : r.round x = s.round x := by rw [hr, hu]; rfl
  have first : r.startRace .a = r.setCtx .a ((s.ctx .a).prompted r.cfg.idleLimit r.tb.counter (r.inFlight .a)) := by
    have races : r.races .a = true := by rw [State.races, roundR, (racing .a).1]; rfl
    rw [State.startRace, if_pos races]
    exact State.completePrompt_eq (ctxR .a) (racing .a).2
  obtain ⟨w, hw⟩ : ∃ w, w = r.startRace .a := ⟨_, rfl⟩
  have onlyW := hw.trans first
  have second : w.startRace .b = w.setCtx .b ((s.ctx .b).prompted w.cfg.idleLimit w.tb.counter (w.inFlight .b)) := by
    have races : w.races .b = true := by
      rw [State.races, onlyW, State.round_setCtx, roundR, (racing .b).1]
      rfl
    rw [State.startRace, if_pos races]
    refine State.completePrompt_eq ?_ (racing .b).2
    rw [onlyW]
    exact (State.ctx_setCtx_other r .a _).trans (ctxR .b)
  have started : w.startRace .b = s.raceStarted := by
    rw [second, onlyW, hr, hu]
    rfl
  have completed : u.completeDuelFirm .prompt = (s.raceStarted, [.takeKeys .a, .takeKeys .b]) := by
    have presentingU : u.dc.state = .presenting := by rw [hu]; exact presenting
    rw [State.completeDuelFirm, if_neg (by decide), if_pos presentingU, ← hr, ← hw, started]
  refine .acts thawed reported (.acts (by rw [hu]; exact thawed) completed ?_)
  exact (Leads.noKeys (s := s.raceStarted) (keys .a)).cons (Leads.noKeys (s := s.raceStarted) (keys .b))

/-- The report of the round's feedback leads to the round close (R85). -/
theorem Leads.feedbackEnds {s t : State} {k j : Nat} {st : EndStatus} (firm : s.dc.firm = some k) (thawed : s.fb.frozen = false)
    (closes : Leads j { s with dc := { s.dc with firm := none } } [.closeRound] t) :
    Leads (j + 2) s [.report .duel .feedback k st] t := by
  refine .acts thawed (if_pos firm) (.acts thawed rfl closes)

/-- The arbiter does nothing where no utterance waits. -/
theorem Leads.arbitrate_idle {s : State} (none' : s.allWaiting = []) : Leads 1 s [.arbitrate] s := by
  have idle : s.arbitrate = (s, []) := by
    have noHead (v : Voice) : s.bestHead v = none := by
      refine (s.bestHead_none_iff v).2 fun r w head => ?_
      have waits := (s.mem_allWaiting_iff w).2 ⟨r, List.mem_of_mem_head? head⟩
      rw [none'] at waits
      cases waits
    unfold State.arbitrate
    cases s.voiceToFill with
    | none => rfl
    | some v =>
      dsimp only
      rw [noHead]
  refine .task (more := []) ?_ (.nil _)
  rw [runTask]
  exact (if_neg (by simp [Task.ofSpeech])).trans idle

end Sys2Proof.Machine
end

section
/-! The round close: both records are built and handed to the log, and the duel goes on or is over (R86, R87, R97). -/

namespace Sys2Proof.Machine

/-! ### A record is handed to the log (R86, R97) -/

/-- The state in which RL has appended a seat's record of the round. -/
def State.recordInLog (s : State) (x : Seat) (r : ResultRecord) : State :=
  ((s.setCtx x { s.ctx x with pendingRecord := none }).appendRecord r).setRecordStatus x .inLog

/-- The state in which a seat's record of the round waits for room. -/
def State.recordWaits (s : State) (x : Seat) (r : ResultRecord) : State := (s.waitForLog x r).setRecordStatus x .waiting

section HandRecord

variable {s : State} {x : Seat} {r : ResultRecord}

theorem State.handRecord_room (room : s.rl.records.length < 32) : s.handRecord x r = s.recordInLog x r :=
  if_pos (decide_eq_true room)

theorem State.handRecord_full (full : 32 ≤ s.rl.records.length) : s.handRecord x r = s.recordWaits x r := by
  refine if_neg ?_
  rw [State.logHasRoom, decide_eq_true_eq]
  exact Nat.not_lt_of_le full

theorem State.recordInLog_eq : ∃ au, s.recordInLog x r = { s with
    ae := s.ae.set x { s.ctx x with pendingRecord := none }
    dc := { s.dc with seats := s.dc.seats.set x { s.round x with record := .inLog } }
    rl := { s.rl with
      records := s.rl.records ++ [{ r with number := some s.rl.counter }]
      counter := wrapSucc s.rl.counter
      threshold := decide (s.cfg.logThreshold < s.rl.records.length + 1) }
    au := au } := by
  refine ⟨(s.recordInLog x r).au, ?_⟩
  rw [State.recordInLog, State.appendRecord_only]
  rfl

end HandRecord

/-! ### Both records (R86) -/

/-- A seat's part of the duel record with another record status. -/
def SeatRound.recorded (r : SeatRound) (st : RecordStatus) : SeatRound := { r with record := st }

/-- The records of both seats are in the log. -/
theorem State.handBoth_room {s : State} (room : s.rl.records.length ≤ 30) : ∃ au, s.handBoth = { s with
    ae := ⟨{ s.ae.a with pendingRecord := none }, { s.ae.b with pendingRecord := none }⟩
    dc := { s.dc with seats := ⟨s.dc.seats.a.recorded .inLog, s.dc.seats.b.recorded .inLog⟩ }
    rl := { s.rl with
      records := s.rl.records ++ [{ s.duelRecord .a with number := some s.rl.counter },
        { s.duelRecord .b with number := some (wrapSucc s.rl.counter) }]
      counter := wrapSucc (wrapSucc s.rl.counter)
      threshold := decide (s.cfg.logThreshold < s.rl.records.length + 2) }
    au := au } := by
  obtain ⟨u, hu⟩ : ∃ u, u = ({ s with ae := ⟨{ s.ae.a with pendingRecord := some (s.duelRecord .a) },
    { s.ae.b with pendingRecord := some (s.duelRecord .b) }⟩ } : State) := ⟨_, rfl⟩
  have both : s.handBoth = (u.handRecord .a (s.duelRecord .a)).handRecord .b (s.duelRecord .b) := by
    rw [hu]
    rfl
  have roomU : u.rl.records.length < 32 := by
    rw [hu]
    exact Nat.lt_of_le_of_lt room (by decide)
  obtain ⟨a, first⟩ := State.recordInLog_eq (s := u) (x := .a) (r := s.duelRecord .a)
  obtain ⟨w, hw⟩ : ∃ w, w = u.recordInLog .a (s.duelRecord .a) := ⟨_, rfl⟩
  have roomW : w.rl.records.length < 32 := by
    rw [hw, first, hu]
    simp only [List.length_append, List.length_singleton]
    omega
  obtain ⟨b, second⟩ := State.recordInLog_eq (s := w) (x := .b) (r := s.duelRecord .b)
  refine ⟨b, ?_⟩
  rw [both, State.handRecord_room roomU, ← hw, State.handRecord_room roomW, second, hw, first, hu]
  simp only [List.append_assoc, List.length_append, List.length_singleton]
  rfl

section HandBothRoom

variable {s : State} (room : s.rl.records.length ≤ 30)
include room

theorem State.round_handBoth (x : Seat) : s.handBoth.round x = (s.round x).recorded .inLog := by
  obtain ⟨au, handed⟩ := State.handBoth_room room
  rw [handed]
  cases x <;> rfl

theorem State.ctx_handBoth (x : Seat) : s.handBoth.ctx x = { s.ctx x with pendingRecord := none } := by
  obtain ⟨au, handed⟩ := State.handBoth_room room
  rw [handed]
  cases x <;> rfl

/-- The records change the contexts, the record statuses, the log and the pending causes. -/
theorem State.handBoth_only : ∃ ae seats rl au, s.handBoth =
    { s with ae := ae, dc := { s.dc with seats := seats }, rl := rl, au := au } := by
  obtain ⟨au, handed⟩ := State.handBoth_room room
  exact ⟨_, _, _, _, handed⟩

end HandBothRoom

/-- With room for one record seat A's is in the log and seat B's waits. -/
theorem State.handBoth_one {s : State} (one : s.rl.records.length = 31) : ∃ au, s.handBoth = { s with
    ae := ⟨{ s.ae.a with pendingRecord := none }, { s.ae.b with
      pendingRecord := some (s.duelRecord .b), state := .waitingLog, pauseCause := none, idleRunning := false, firm := none }⟩
    dc := { s.dc with seats := ⟨s.dc.seats.a.recorded .inLog, s.dc.seats.b.recorded .waiting⟩ }
    rl := { s.rl with
      records := s.rl.records ++ [{ s.duelRecord .a with number := some s.rl.counter }]
      counter := wrapSucc s.rl.counter
      waiting := s.rl.waiting ++ [.b]
      threshold := decide (s.cfg.logThreshold < s.rl.records.length + 1) }
    au := au } := by
  obtain ⟨u, hu⟩ : ∃ u, u = ({ s with ae := ⟨{ s.ae.a with pendingRecord := some (s.duelRecord .a) },
    { s.ae.b with pendingRecord := some (s.duelRecord .b) }⟩ } : State) := ⟨_, rfl⟩
  have both : s.handBoth = (u.handRecord .a (s.duelRecord .a)).handRecord .b (s.duelRecord .b) := by
    rw [hu]
    rfl
  have roomU : u.rl.records.length < 32 := by
    rw [hu, one]
    decide
  obtain ⟨a, first⟩ := State.recordInLog_eq (s := u) (x := .a) (r := s.duelRecord .a)
  obtain ⟨w, hw⟩ : ∃ w, w = u.recordInLog .a (s.duelRecord .a) := ⟨_, rfl⟩
  have fullW : 32 ≤ w.rl.records.length := by
    rw [hw, first, hu]
    simp only [List.length_append, List.length_singleton, one]
    decide
  refine ⟨a, ?_⟩
  rw [both, State.handRecord_room roomU, ← hw, State.handRecord_full fullW, hw, first, hu]
  rfl

theorem State.ofRound_duelRecord (s : State) (x : Seat) (n : Option Nat) : ({ s.duelRecord x with number := n }).ofRound s x := by
  refine ⟨rfl, rfl, rfl, rfl, beq_iff_eq, rfl, fun k copy => ?copy, fun o ended => ?ended, rfl, rfl, rfl, rfl, ?duration,
    fun u update => ?update, fun none' => ?none, rfl⟩
  case copy => simp [State.duelRecord, copy]
  case ended => simp [State.duelRecord, ended]
  case duration =>
    simp only [State.duelRecord]
    cases (s.ctx x).startTick <;> rfl
  case update => simp [State.duelRecord, update]
  case none => simp [State.duelRecord, none']

/-! ### The round close (R86) -/

theorem State.closeRound_hands {s : State} (settling : s.dc.state = .settling) (notBuilt : ∀ x, (s.round x).record = .notBuilt) :
    s.closeRound = (s.handBoth, [.afterRecords]) := by
  refine if_pos ⟨settling, ?_⟩
  rw [State.notBuilt, notBuilt, notBuilt]
  rfl

theorem State.afterRecords_last {s : State} (runs : s.duelRuns = true) (logged : ∀ y, (s.round y).record = .inLog)
    (last : s.dc.round = s.dc.total) : s.afterRecords = s.staleJudgements.finishDuel .rounds := by
  rw [State.afterRecords, if_pos ⟨runs, logged .a, logged .b⟩]
  exact if_pos last

section CloseRound

variable {s : State} (settling : s.dc.state = .settling) (notBuilt : ∀ x, (s.round x).record = .notBuilt)
  (keys : ∀ x, (s.seat x).keys = []) (thawed : s.fb.frozen = false)
include settling notBuilt thawed

/-- With room for one record seat B's waits, and the duel goes no further (R86). -/
theorem Leads.closesWaiting (one : s.rl.records.length = 31) : Leads 2 s [.closeRound] s.handBoth := by
  obtain ⟨au, handed⟩ := State.handBoth_one one
  have waits : (s.handBoth.round .b).record = .waiting := by rw [handed]; rfl
  exact .acts thawed (State.closeRound_hands settling notBuilt)
    (.ends (by rw [handed]; exact thawed) (State.afterRecords_waits waits))

include keys

/-- The last round's close finishes the duel (R87). -/
theorem Leads.closesLast (room : s.rl.records.length ≤ 30) (last : s.dc.round = s.dc.total) :
    Leads 36 s [.closeRound] (s.handBoth.staleJudgements.duelOver .rounds) := by
  obtain ⟨au, handed⟩ := State.handBoth_room room
  obtain ⟨u, hu⟩ : ∃ u, u = s.handBoth := ⟨_, rfl⟩
  rw [← hu] at handed ⊢
  have thawedU : u.fb.frozen = false := by rw [handed]; exact thawed
  have keysU (x : Seat) : (u.seat x).keys = [] := by rw [handed]; exact keys x
  have logged (x : Seat) : (u.round x).record = .inLog := by rw [handed]; cases x <;> rfl
  have free (x : Seat) : (u.ctx x).pendingRecord = none := by rw [handed]; cases x <;> rfl
  have finished := Leads.finishes (s := u.staleJudgements) (r := .rounds) thawedU free fun x =>
    (congrArg List.length (keysU x)).trans_le (Nat.zero_le 16)
  have cleared (x : Seat) : (u.staleJudgements.duelOver .rounds).clearKeys x = u.staleJudgements.duelOver .rounds :=
    State.clearKeys_of_empty (keysU x)
  rw [cleared .a, cleared .b] at finished
  refine .acts thawed ((State.closeRound_hands settling notBuilt).trans (by rw [← hu])) (.acts thawedU ?_ finished)
  refine State.afterRecords_last ?_ logged ?_
  · rw [handed]
    simp [State.duelRuns, settling]
  · rw [handed]
    exact last

/-- The close of another round presents the next (R86). -/
theorem Leads.closesNext {m : Nat} {rest : List Nat} {e : WordEntry} (room : s.rl.records.length ≤ 30)
    (more : s.dc.round ≠ s.dc.total) (normal : s.fb.condition = .normal) (noRefill : s.cfg.refillMark = 0)
    (queue : s.ps.duel = m :: rest) (slot : s.slot m = .occupied e true) (ready : s.clipReady e.wordClip = true)
    (quiet : s.speechQuiet) :
    Leads 40 s [.closeRound] (s.handBoth.staleJudgements.roundPrompts m e rest) := by
  obtain ⟨au, handed⟩ := State.handBoth_room room
  obtain ⟨u, hu⟩ : ∃ u, u = s.handBoth := ⟨_, rfl⟩
  rw [← hu] at handed ⊢
  have logged (x : Seat) : (u.round x).record = .inLog := by rw [handed]; cases x <;> rfl
  refine .acts thawed ((State.closeRound_hands settling notBuilt).trans (by rw [← hu])) (.afterRecords ?_ logged ?_ ?_ ?_ ?_ ?_ ?_
    (State.speechQuiet_congr quiet (by rw [handed])) (fun x => .inl ?_) ?_)
  case refine_1 =>
    rw [handed]
    simp [State.duelRuns, settling]
  case refine_8 =>
    rw [handed]
    exact keys x
  all_goals
    rw [handed]
    assumption

end CloseRound

/-- The log has taken both records of the round (R86, R96). -/
theorem State.hasRecordsOf_handBoth {s : State} (room : s.rl.records.length ≤ 30) : s.handBoth.hasRecordsOf s := by
  obtain ⟨au, handed⟩ := State.handBoth_room room
  refine ⟨{ s.duelRecord .a with number := some s.rl.counter }, { s.duelRecord .b with number := some (wrapSucc s.rl.counter) },
    ?_, s.ofRound_duelRecord .a _, s.ofRound_duelRecord .b _, rfl, rfl, ?_, ?_⟩
  · rw [handed]
  · rw [handed]
    show wrapSucc (wrapSucc s.rl.counter) = _
    simp only [wrapSucc]
    omega
  · rw [handed]

theorem ResultRecord.ofRound_congr {s s' : State} {r : ResultRecord} {x : Seat} {f : Option Nat} (h : r.ofRound s x)
    (ae : s'.ae = s.ae) (dc : s'.dc = { s.dc with firm := f }) : r.ofRound s' x := by
  have ctx : s'.ctx x = s.ctx x := by rw [State.ctx, State.ctx, ae]
  have round : s'.round x = s.round x := by rw [State.round, State.round, dc]
  unfold ResultRecord.ofRound at h ⊢
  rw [ctx, round, dc]
  exact h

theorem State.hasRecordsOf_congr {t t' s s' : State} {f : Option Nat} (h : t.hasRecordsOf s) (log : t'.rl = t.rl)
    (rl : s'.rl = s.rl) (ae : s'.ae = s.ae) (dc : s'.dc = { s.dc with firm := f }) : t'.hasRecordsOf s' := by
  obtain ⟨ra, rb, records, ofA, ofB, numberA, numberB, counter, waiting⟩ := h
  refine ⟨ra, rb, ?_, ResultRecord.ofRound_congr ofA ae dc, ResultRecord.ofRound_congr ofB ae dc, ?_, ?_, ?_, ?_⟩
  · rwa [log, rl]
  · rwa [rl]
  · rwa [rl]
  · rwa [log, rl]
  · rwa [log, rl]

end Sys2Proof.Machine
end

section
/-! UTTERANCE_DONE and CLIP_ADVANCE: what the end of an utterance leads to (R33, R79, R85, R86, R155, R156, R158). -/

namespace Sys2Proof.Machine

/-! ### The end of an announcement and of a seat's prompt -/

theorem utteranceDone_announcement {s : State} {v : Voice} {p : Playing} {id : Nat} {c : Clip} (released : s.resetHeld = false)
    (h : s.soloVoice v p id c) (first : p.index = 0) (announce : p.utterance.requester = .announce) :
    exec (.utteranceDone v) s = .next { (s.setClip id (some { c with pins := c.pins - 1 })) with
      se := { (s.setVoice v none).se with lastAnnounce := some ⟨p.utterance.handle, .done⟩ } } := by
  have quiet := State.speechQuiet_voiceFreed h
  refine utteranceDone_leads h released first (k := 2) ?_ (by decide)
  rw [announce]
  exact (Leads.announcementEnds _ _ _ _).cons (Leads.arbitrate_idle (s := (s.voiceFreed v id c).noteAnnouncement _ _) quiet.2)

theorem utteranceDone_prompt {s : State} {v : Voice} {p : Playing} {id : Nat} {c : Clip} {x : Seat} (released : s.resetHeld = false)
    (h : s.soloVoice v p id c) (first : p.index = 0) (seat : p.utterance.requester = .seat x) (prompt : p.utterance.cls = .prompt)
    (firm : (s.ctx x).firm = some p.utterance.handle) (prompting : (s.ctx x).state = .prompting) (out : s.inFlight x = false)
    (keys : (s.seat x).keys = []) (thawed : s.fb.frozen = false) :
      ∃ t : State, exec (.utteranceDone v) s = .next t ∧
        t.ctx x = { s.ctx x with
          state := .typing, firm := none, idleTimer := s.cfg.idleLimit, idleRunning := true
          startTick := match (s.ctx x).startTick with
            | some k => some k
            | none => some s.tb.counter } ∧
        t.voice v = none ∧ t.speechQuiet ∧ t.clip id = some { c with pins := c.pins - 1 } ∧
        t.ctx x.other = s.ctx x.other ∧ t.dc = s.dc ∧ t.rl = s.rl ∧ t.fb = s.fb ∧ t.fixed = s.fixed := by
  obtain ⟨u, hu⟩ : ∃ u, u = s.voiceFreed v id c := ⟨_, rfl⟩
  have only := hu.trans (s.voiceFreed_only v id c)
  have quiet : u.speechQuiet := hu ▸ State.speechQuiet_voiceFreed h
  have ctx (y : Seat) : u.ctx y = s.ctx y := by rw [only]; rfl
  obtain ⟨t, ht⟩ : ∃ t, t = u.setCtx x ({ s.ctx x with firm := none }.prompted s.cfg.idleLimit s.tb.counter false) := ⟨_, rfl⟩
  have ended : Leads 3 u [.report (.seat x) .prompt p.utterance.handle .done] t := by
    have out' : u.inFlight x = false := by rw [only]; exact out
    have ends := Leads.promptEnds (s := u) (x := x) (k := p.utterance.handle) (st := .done) (by rw [ctx]; exact firm)
      (by rw [ctx]; exact prompting) (by rw [only]; exact keys) (by rw [only]; exact thawed)
    rw [ctx, out', show u.cfg = s.cfg by rw [only], show u.tb = s.tb by rw [only]] at ends
    rw [ht]
    exact ends
  have quietT : t.speechQuiet := State.speechQuiet_congr quiet (by rw [ht]; rfl)
  have leads : Leads 4 (s.voiceFreed v id c) [.report p.utterance.requester p.utterance.cls p.utterance.handle .done, .arbitrate] t := by
    rw [seat, prompt, ← hu]
    exact ended.cons (.arbitrate_quiet quietT)
  refine ⟨t, utteranceDone_leads h released first leads (by decide), ?ctx, ?voice, quietT, ?clip, ?other, ?_, ?_, ?_, ?fixed⟩
  case ctx =>
    rw [ht, State.ctx_setCtx_self]
    unfold Context.prompted
    cases (s.ctx x).startTick <;> rfl
  case voice =>
    rw [ht, hu]
    cases v <;> rfl
  case clip =>
    rw [ht, hu]
    exact State.clip_voiceFreed h
  case other => rw [ht, State.ctx_setCtx_other, ctx]
  case fixed =>
    rw [← leads.carryOut (by decide), State.fixed_carryOut, ← State.freeVoice_solo h, State.fixed_freeVoice]
  all_goals
    rw [ht, only]
    rfl

/-! ### CLIP_ADVANCE (R155) -/

theorem clipAdvance_goesOn (s : State) (v : Voice) (p : Playing) (id : Nat) (released : s.resetHeld = false) :
    (s.voice v = none → exec (.clipAdvance v) s = .next s) ∧
    (s.voice v = some p → p.utterance.clips[p.index + 1]? = some id → s.clipBad id = false →
      exec (.clipAdvance v) s = .next (s.setVoice v (some ⟨p.utterance, p.index + 1, 0, 0⟩))) := by
  have acted : exec (.clipAdvance v) s = .next (s.advanceVoice v) := event_taken (act := fun s => s.advanceVoice v) released
  rw [acted]
  refine ⟨fun free => ?_, fun playing next good => ?_⟩
  · rw [State.advanceVoice, free]
  · rw [State.advanceVoice, playing]
    dsimp only
    rw [next]
    dsimp only
    rw [good]
    rfl

/-! ### The end of the round's prompt and of its feedback (R79, R85) -/

theorem utteranceDone_roundPrompt {s : State} {v : Voice} {p : Playing} {id : Nat} {c : Clip} (released : s.resetHeld = false)
    (thawed : s.fb.frozen = false) (h : s.soloVoice v p id c) (first : p.index = 0) (duel : p.utterance.requester = .duel)
    (firm : s.dc.firm = some p.utterance.handle) (keys : ∀ x, (s.seat x).keys = []) (prompt : p.utterance.cls = .prompt)
    (presenting : s.dc.state = .presenting)
    (racing : ∀ x, (s.round x).status = some .typing ∧ (s.ctx x).state = .prompting ∧ s.inFlight x = false) :
      ∃ t : State, exec (.utteranceDone v) s = .next t ∧ t.dc = { s.dc with state := .racing, firm := none } ∧
        (∀ x, t.ctx x = { s.ctx x with
          state := .typing, idleTimer := s.cfg.idleLimit, idleRunning := true
          startTick := match (s.ctx x).startTick with
            | some k => some k
            | none => some s.tb.counter }) ∧
        t.speechQuiet ∧ t.rl = s.rl ∧ t.ps = s.ps ∧ t.wt = s.wt ∧ t.fb = s.fb ∧ t.fixed = s.fixed := by
  obtain ⟨u, hu⟩ : ∃ u, u = s.voiceFreed v id c := ⟨_, rfl⟩
  have only := hu.trans (s.voiceFreed_only v id c)
  have quiet : u.speechQuiet := hu ▸ State.speechQuiet_voiceFreed h
  have quietT : u.raceStarted.speechQuiet := State.speechQuiet_congr quiet rfl
  have leads : Leads 5 (s.voiceFreed v id c)
      [.report p.utterance.requester p.utterance.cls p.utterance.handle .done, .arbitrate] u.raceStarted := by
    rw [duel, prompt, ← hu]
    refine (Leads.roundPromptEnds ?_ ?_ (fun x => ?_) (fun x => ?_) ?_).cons (.arbitrate_quiet quietT)
    case refine_3 =>
      rw [only]
      exact ⟨(racing x).1, (racing x).2.1⟩
    case refine_4 =>
      rw [only]
      exact keys x
    all_goals
      rw [only]
      assumption
  refine ⟨u.raceStarted, utteranceDone_leads h released first leads (by decide), ?_, fun x => ?ctx, quietT, ?_, ?_, ?_, ?_, ?fixed⟩
  case ctx =>
    have out := (racing x).2.2
    have ctx : u.raceStarted.ctx x = (s.ctx x).prompted s.cfg.idleLimit s.tb.counter (s.inFlight x) := by
      rw [only]
      cases x <;> rfl
    rw [ctx, out]
    unfold Context.prompted
    cases (s.ctx x).startTick <;> rfl
  case fixed =>
    rw [← leads.carryOut (by decide), State.fixed_carryOut, ← State.freeVoice_solo h, State.fixed_freeVoice]
  all_goals
    rw [only]
    rfl

theorem State.clipReady_congr {s t : State} (h : t.cs.directory = s.cs.directory) (k : Nat) :
    t.clipReady k = s.clipReady k := by
  rw [State.clipReady, State.clip_congr h]
  rfl

/-- The clips of a prompt follow from the tables and from which clips are READY. -/
theorem State.promptClips_congr {s t : State} (cues : t.se.cues = s.se.cues) (ready : ∀ k, t.clipReady k = s.clipReady k)
    (k : TargetCopy) (sentence : Bool) : t.promptClips k sentence = s.promptClips k sentence := by
  have built (r : Option Nat) : t.built r = s.built r := by
    cases r with
    | none => rfl
    | some id => simp only [State.built, ready]
  simp only [State.promptClips, State.cueClips, cues, built]

/-- The state in which the voice of the round's feedback is FREE and DC has its report. -/
def State.feedbackDone (s : State) (v : Voice) (id : Nat) (c : Clip) : State :=
  { s.voiceFreed v id c with dc := { s.dc with firm := none } }

theorem State.feedbackDone_only (s : State) (v : Voice) (id : Nat) (c : Clip) : s.feedbackDone v id c =
    { s with
      dc := { s.dc with firm := none }
      se := (s.setVoice v none).se
      cs := (s.feedbackDone v id c).cs } := by
  cases v <;> cases id <;> rfl

section FeedbackDone

variable {s : State} {v : Voice} {p : Playing} {id : Nat} {c : Clip} (h : s.soloVoice v p id c)
include h

theorem State.clipReady_feedbackDone (k : Nat) : (s.feedbackDone v id c).clipReady k = s.clipReady k := by
  have kept := s.clipReady_unpin id k
  rw [State.unpin_kept h.clip (by rw [h.state]; decide)] at kept
  rw [← kept]
  exact State.clipReady_congr rfl k

theorem State.speechQuiet_feedbackDone : (s.feedbackDone v id c).speechQuiet :=
  State.speechQuiet_congr (State.speechQuiet_voiceFreed h) rfl

theorem State.fixed_feedbackDone : (s.feedbackDone v id c).fixed = s.fixed := by
  rw [← State.fixed_freeVoice s v, State.freeVoice_solo h]
  rfl

/-- The end of the round's feedback leads to the round close, and the arbiter then finds nothing to start. -/
theorem utteranceDone_feedback {k : Nat} {t : State} (released : s.resetHeld = false) (thawed : s.fb.frozen = false)
    (first : p.index = 0) (duel : p.utterance.requester = .duel) (feedback : p.utterance.cls = .feedback)
    (firm : s.dc.firm = some p.utterance.handle) (closes : Leads k (s.feedbackDone v id c) [.closeRound] t)
    (none' : t.allWaiting = []) (few : k ≤ 100) : exec (.utteranceDone v) s = .next t ∧ t.fixed = s.fixed := by
  obtain ⟨u, hu⟩ : ∃ u, u = s.voiceFreed v id c := ⟨_, rfl⟩
  have only := hu.trans (s.voiceFreed_only v id c)
  have leads : Leads (k + 2 + 1) (s.voiceFreed v id c)
      [.report p.utterance.requester p.utterance.cls p.utterance.handle .done, .arbitrate] t := by
    rw [duel, feedback, ← hu]
    refine (Leads.feedbackEnds (by rw [only]; exact firm) (by rw [only]; exact thawed) ?_).cons (.arbitrate_idle none')
    rw [show u.dc = s.dc by rw [only], hu]
    exact closes
  have cascade : k + 2 + 1 ≤ Config.cascade := by simp only [Config.cascade]; omega
  refine ⟨utteranceDone_leads h released first leads cascade, ?_⟩
  rw [← leads.carryOut cascade, State.fixed_carryOut, ← State.freeVoice_solo h, State.fixed_freeVoice]

end FeedbackDone

section RoundFeedback

variable {s : State} {v : Voice} {p : Playing} {id : Nat} {c : Clip} (released : s.resetHeld = false)
  (thawed : s.fb.frozen = false) (h : s.soloVoice v p id c) (first : p.index = 0) (duel : p.utterance.requester = .duel)
  (firm : s.dc.firm = some p.utterance.handle) (feedback : p.utterance.cls = .feedback)
  (settling : s.dc.state = .settling) (notBuilt : ∀ x, (s.round x).record = .notBuilt)
include released thawed h first duel firm feedback settling notBuilt

theorem roundFeedback_last (keys : ∀ x, (s.seat x).keys = []) (room : s.rl.records.length ≤ 30) (last : s.dc.round = s.dc.total) :
    ∃ t : State, exec (.utteranceDone v) s = .next t ∧
        t.hasRecordsOf s ∧ t.dc.state = .finished ∧ t.dc.finish = some .rounds ∧ t.dc.scores = s.dc.scores ∧
        t.dc.duelWinner = (if s.dc.scores.b < s.dc.scores.a then some .a
          else if s.dc.scores.a < s.dc.scores.b then some .b else none) ∧
        t.isPending .duelEnd = true ∧
        (∀ x, (t.ctx x).state = .idle ∧ (t.ctx x).mode = .off ∧ (t.round x).record = .inLog) ∧
        t.speechQuiet ∧ t.ps = s.ps ∧ t.wt = s.wt ∧ t.fb = s.fb ∧ t.fixed = s.fixed := by
  obtain ⟨w, hw⟩ : ∃ w, w = s.feedbackDone v id c := ⟨_, rfl⟩
  have only := hw.trans (s.feedbackDone_only v id c)
  have quiet : w.speechQuiet := hw ▸ State.speechQuiet_feedbackDone h
  have settlingW : w.dc.state = .settling := by rw [only]; exact settling
  have notBuiltW (x : Seat) : (w.round x).record = .notBuilt := by rw [only]; exact notBuilt x
  have thawedW : w.fb.frozen = false := by rw [only]; exact thawed
  have logW : w.rl = s.rl := by rw [only]
  have dcW : w.dc = { s.dc with firm := none } := by rw [only]
  have dcS : s.dc = { w.dc with firm := s.dc.firm } := by rw [dcW]
  have aeW : w.ae = s.ae := by rw [only]
  have keysW (x : Seat) : (w.seat x).keys = [] := by rw [only]; exact keys x
  have roomW : w.rl.records.length ≤ 30 := by rw [logW]; exact room
  obtain ⟨ae, seats, rl, au, handed⟩ := State.handBoth_only roomW
  obtain ⟨z, hz⟩ : ∃ z, z = w.handBoth := ⟨_, rfl⟩
  obtain ⟨t, ht⟩ : ∃ t, t = z.staleJudgements.duelOver .rounds := ⟨_, rfl⟩
  have closes : Leads 36 w [.closeRound] t := by
    rw [ht, hz]
    exact .closesLast settlingW notBuiltW keysW thawedW roomW (by rw [dcW]; exact last)
  have records : t.hasRecordsOf s :=
    State.hasRecordsOf_congr (State.hasRecordsOf_handBoth roomW) (by rw [ht, ← hz]; rfl) logW.symm aeW.symm dcS
  rw [← hz] at handed
  have seZ : z.se = w.se := by rw [handed]
  have quietT : t.speechQuiet := State.speechQuiet_congr quiet (by rw [ht]; exact seZ)
  rw [hw] at closes
  obtain ⟨ends, fixed⟩ := utteranceDone_feedback h released thawed first duel feedback firm closes quietT.2 (by decide)
  have free (x : Seat) : (z.ctx x).pendingRecord = none := by rw [hz, State.ctx_handBoth roomW]
  have logged (x : Seat) : (z.round x).record = .inLog := by
    rw [hz, State.round_handBoth roomW]
    rfl
  have ctxT (x : Seat) : t.ctx x = (z.ctx x).toIdle := by
    rw [ht, State.ctx_duelOver]
    exact Context.afterDuel_of_free (free x)
  have scores : z.dc.scores = s.dc.scores := by
    rw [handed]
    show w.dc.scores = _
    rw [dcW]
  refine ⟨t, ends, records, ?state, ?finish, ?scores, ?winner, ?pending, fun x => ⟨?idle, ?off, ?logged⟩, quietT, ?ps, ?wt, ?fb, fixed⟩
  case pending =>
    rw [ht]
    exact State.isPending_raise _ _
  case idle | off =>
    rw [ctxT]
    rfl
  case logged =>
    rw [ht]
    exact logged x
  case scores =>
    rw [ht]
    exact scores
  case winner =>
    rw [← scores, ht]
    rfl
  case ps =>
    rw [ht]
    show z.ps = _
    rw [handed, only]
  case wt =>
    rw [ht]
    show z.wt = _
    rw [handed, only]
  case fb =>
    rw [ht]
    show z.fb = _
    rw [handed, only]
  all_goals
    rw [ht]
    rfl

theorem roundFeedback_waiting (one : s.rl.records.length = 31) : ∃ (t : State) (ra rb : ResultRecord), exec (.utteranceDone v) s = .next t ∧
        t.rl.records = s.rl.records ++ [ra] ∧ ra.ofRound s .a ∧ ra.number = some s.rl.counter ∧
        t.rl.waiting = s.rl.waiting ++ [.b] ∧ t.ctx .a = { s.ctx .a with pendingRecord := none } ∧
        (t.ctx .b).state = .waitingLog ∧ (t.ctx .b).mode = (s.ctx .b).mode ∧ (t.ctx .b).pendingRecord = some rb ∧
        rb.ofRound s .b ∧ (t.round .a).record = .inLog ∧ (t.round .b).record = .waiting ∧ t.dc.state = .settling ∧
        t.dc.round = s.dc.round ∧ t.speechQuiet ∧ t.ps = s.ps ∧ t.wt = s.wt ∧ t.fb = s.fb ∧ t.fixed = s.fixed := by
  obtain ⟨w, hw⟩ : ∃ w, w = s.feedbackDone v id c := ⟨_, rfl⟩
  have only := hw.trans (s.feedbackDone_only v id c)
  have quiet : w.speechQuiet := hw ▸ State.speechQuiet_feedbackDone h
  have settlingW : w.dc.state = .settling := by rw [only]; exact settling
  have notBuiltW (x : Seat) : (w.round x).record = .notBuilt := by rw [only]; exact notBuilt x
  have thawedW : w.fb.frozen = false := by rw [only]; exact thawed
  have logW : w.rl = s.rl := by rw [only]
  have dcW : w.dc = { s.dc with firm := none } := by rw [only]
  have dcS : s.dc = { w.dc with firm := s.dc.firm } := by rw [dcW]
  have aeW : w.ae = s.ae := by rw [only]
  have oneW : w.rl.records.length = 31 := by rw [logW]; exact one
  obtain ⟨au, handed⟩ := State.handBoth_one oneW
  obtain ⟨t, ht⟩ : ∃ t, t = w.handBoth := ⟨_, rfl⟩
  have closes : Leads 2 w [.closeRound] t := by
    rw [ht]
    exact .closesWaiting settlingW notBuiltW thawedW oneW
  rw [← ht] at handed
  have quietT : t.speechQuiet := State.speechQuiet_congr quiet (by rw [handed])
  have kept : t.ps = w.ps ∧ t.wt = w.wt ∧ t.fb = w.fb := by
    rw [handed]
    exact ⟨rfl, rfl, rfl⟩
  rw [hw] at closes
  obtain ⟨ends, fixed⟩ := utteranceDone_feedback h released thawed first duel feedback firm closes quietT.2 (by decide)
  have aeT : t.ae = ⟨{ s.ae.a with pendingRecord := none }, { s.ae.b with
      pendingRecord := some (w.duelRecord .b), state := .waitingLog, pauseCause := none, idleRunning := false, firm := none }⟩ := by
    rw [handed, aeW]
  have dcT : t.dc = { s.dc with
      firm := none, seats := ⟨s.dc.seats.a.recorded .inLog, s.dc.seats.b.recorded .waiting⟩ } := by
    rw [handed, dcW]
  refine ⟨t, { w.duelRecord .a with number := some s.rl.counter }, w.duelRecord .b, ends, ?_,
    ResultRecord.ofRound_congr (w.ofRound_duelRecord .a _) aeW.symm dcS, rfl, ?_, ?_, ?_, ?_, ?_,
    ResultRecord.ofRound_congr (w.ofRound_duelRecord .b none) aeW.symm dcS, ?_, ?_, ?_, ?_, quietT, ?_, ?_, ?_, fixed⟩
  · rw [handed, logW]
  · rw [handed, logW]
  iterate 4
    rw [State.ctx, aeT]
    rfl
  iterate 2
    rw [State.round, dcT]
    rfl
  · rw [dcT, ← settling]
  · rw [dcT]
  · rw [kept.1, only]
  · rw [kept.2.1, only]
  · rw [kept.2.2, only]

theorem roundFeedback_next (keys : ∀ x, (s.seat x).keys = []) (m : Nat) (rest : List Nat) (e : WordEntry)
    (room : s.rl.records.length ≤ 30) (more : s.dc.round ≠ s.dc.total) (normal : s.fb.condition = .normal)
    (noRefill : s.cfg.refillMark = 0) (queue : s.ps.duel = m :: rest) (slot : s.slot m = .occupied e true)
    (ready : s.clipReady e.wordClip = true) : ∃ t : State, exec (.utteranceDone v) s = .next t ∧ t.hasRecordsOf s ∧
      t.presents s m rest e ∧ t.fb = s.fb ∧ t.fixed = s.fixed := by
  obtain ⟨w, hw⟩ : ∃ w, w = s.feedbackDone v id c := ⟨_, rfl⟩
  have only := hw.trans (s.feedbackDone_only v id c)
  have quiet : w.speechQuiet := hw ▸ State.speechQuiet_feedbackDone h
  have settlingW : w.dc.state = .settling := by rw [only]; exact settling
  have notBuiltW (x : Seat) : (w.round x).record = .notBuilt := by rw [only]; exact notBuilt x
  have thawedW : w.fb.frozen = false := by rw [only]; exact thawed
  have logW : w.rl = s.rl := by rw [only]
  have dcW : w.dc = { s.dc with firm := none } := by rw [only]
  have dcS : s.dc = { w.dc with firm := s.dc.firm } := by rw [dcW]
  have aeW : w.ae = s.ae := by rw [only]
  have keysW (x : Seat) : (w.seat x).keys = [] := by rw [only]; exact keys x
  have roomW : w.rl.records.length ≤ 30 := by rw [logW]; exact room
  have readyW (k : Nat) : w.clipReady k = s.clipReady k := by rw [hw, State.clipReady_feedbackDone h]
  obtain ⟨ae, seats, rl, au, handed⟩ := State.handBoth_only roomW
  obtain ⟨z, hz⟩ : ∃ z, z = w.handBoth := ⟨_, rfl⟩
  obtain ⟨t, ht⟩ : ∃ t, t = z.staleJudgements.roundPrompts m e rest := ⟨_, rfl⟩
  have closes : Leads 40 w [.closeRound] t := by
    rw [ht, hz]
    refine .closesNext settlingW notBuiltW keysW thawedW roomW ?_ ?_ ?_ ?_ ?_ ?_ quiet
    case refine_6 =>
      rw [readyW]
      exact ready
    all_goals
      rw [only]
      assumption
  have records : t.hasRecordsOf s := State.hasRecordsOf_congr (State.hasRecordsOf_handBoth roomW)
    (by rw [ht, State.rl_roundPrompts, ← hz]; rfl) logW.symm aeW.symm dcS
  rw [← hz] at handed
  have seZ : z.se = w.se := by rw [handed]
  have csZ : z.cs = w.cs := by rw [handed]
  have dcZ : z.dc = { w.dc with seats := seats } := by rw [handed]
  have psZ : z.ps = s.ps := by rw [handed, only]
  have quietZ : z.staleJudgements.speechQuiet := State.speechQuiet_congr quiet seZ
  have slotZ : z.staleJudgements.slot m = .occupied e true := by
    rw [← slot]
    show z.slot m = _
    rw [State.slot, handed, only]
    rfl
  have presents : t.presents s m rest e := by
    rw [ht]
    refine State.presents_congr (State.presents_roundPrompts rest quietZ slotZ) ?_ ?_ psZ.symm ?_
    · show _ = z.dc.round
      rw [dcZ, dcW]
    · show _ = z.dc.scores
      rw [dcZ, dcW]
    · show _ = z.promptClips e.copy z.dc.sentence
      rw [dcZ, dcW]
      refine State.promptClips_congr ?_ (fun k => ?_) _ _
      · rw [seZ, only]
        cases v <;> rfl
      · rw [← readyW]
        exact (State.clipReady_congr (by rw [csZ]) k).symm
  have silent : t.allWaiting = [] := by
    obtain ⟨-, -, -, -, -, -, -, -, -, -, -, -, none'⟩ := presents
    exact none'
  rw [hw] at closes
  obtain ⟨ends, fixed⟩ := utteranceDone_feedback h released thawed first duel feedback firm closes silent (by decide)
  refine ⟨t, ends, records, presents, ?_, fixed⟩
  rw [ht, State.fb_roundPrompts]
  show z.fb = _
  rw [handed, only]

end RoundFeedback

/-- Settles O39: a voice's utterance ends, is reported, and its requester goes on. -/
theorem voicesAdvanceAndEnd : Obligations.VoicesAdvanceAndEnd := by
  refine ⟨fun s v p id c x released playing other waiting first clips clip ready => ?_, fun s v p id released =>
    clipAdvance_goesOn s v p id released, fun s v p id c released thawed playing other waiting first clips clip ready duel firm keys => ?_⟩
  · have solo : s.soloVoice v p id c := ⟨playing, other, waiting, clips, clip, ready⟩
    exact ⟨utteranceDone_announcement released solo first, utteranceDone_prompt released solo first⟩
  · have solo : s.soloVoice v p id c := ⟨playing, other, waiting, clips, clip, ready⟩
    refine ⟨utteranceDone_roundPrompt released thawed solo first duel firm keys, fun feedback settling notBuilt => ⟨?_, ?_, ?_⟩⟩
    · exact roundFeedback_last released thawed solo first duel firm feedback settling notBuilt keys
    · exact roundFeedback_waiting released thawed solo first duel firm feedback settling notBuilt
    · exact roundFeedback_next released thawed solo first duel firm feedback settling notBuilt keys

end Sys2Proof.Machine
end

section
/-! The entries of HOLD and LOCKDOWN: which contexts are paused, and the announcements that are spoken on (R54, R91, R161, R195,
R197). -/

namespace Sys2Proof.Machine

/-! ### Speech that goes on -/

/-- SE has gone on by itself: nothing else has changed, no one else speaks, and who played plays on. -/
structure SpeaksOn (s t : State) : Prop where
  only : SpeechOnly s t
  less : ∀ u, t.speaks u → s.speaks u
  plays : ∀ v p, s.voice v = some p → t.voice v = some p

theorem SpeaksOn.refl (s : State) : SpeaksOn s s := ⟨.refl s, fun _ h => h, fun _ _ h => h⟩

theorem SpeaksOn.trans {s t u : State} (h : SpeaksOn s t) (g : SpeaksOn t u) : SpeaksOn s u :=
  ⟨h.only.trans g.only, fun w speaks => h.less w (g.less w speaks), fun v p playing => g.plays v p (h.plays v p playing)⟩

/-- What the arbiter does: nothing, or it starts the best head of the voice it fills, which fails on a BAD clip. -/
theorem State.arbitrate_cases (s : State) : s.arbitrate = (s, []) ∨ ∃ v u, s.voiceToFill = some v ∧ s.bestHead v = some u ∧
    (s.arbitrate = (s.startUtterance v u, [.arbitrate]) ∨
      (∃ c ∈ u.clips, s.clipBad c = true) ∧ s.arbitrate = (s.startUtterance v u).failStart v u) := by
  unfold State.arbitrate
  cases fill : s.voiceToFill with
  | none => exact .inl rfl
  | some v =>
    dsimp only
    cases best : s.bestHead v with
    | none => exact .inl rfl
    | some u =>
      refine .inr ⟨v, u, rfl, best, ?_⟩
      cases clips : u.clips with
      | nil =>
        dsimp only
        rw [clips]
        exact .inl rfl
      | cons c cs =>
        have same : (s.startUtterance v u).clipBad c = s.clipBad c := by
          rw [State.clipBad, State.clip_congr (s := s) (by rw [State.cs_startUtterance])]
          rfl
        dsimp only
        rw [clips]
        dsimp only
        rw [same]
        cases bad : s.clipBad c with
        | false => exact .inl rfl
        | true => exact .inr ⟨⟨c, List.mem_cons_self .., bad⟩, rfl⟩

theorem SpeaksOn.startUtterance {s : State} {v : Voice} {u : Utterance} (fill : s.voiceToFill = some v)
    (best : s.bestHead v = some u) : SpeaksOn s (s.startUtterance v u) := by
  obtain ⟨r, head⟩ := State.mem_heads (State.bestHead_spec best).1
  refine ⟨(SpeechMove.start s v u fill best).only,
    fun w => State.speaks_of_startUtterance (.inr ⟨r, List.mem_of_mem_head? head⟩), fun w p playing => ?_⟩
  by_cases same : w = v
  · rw [same, State.voiceToFill_free fill] at playing
    cases playing
  · have other : w = otherVoice v := by cases v <;> cases w <;> simp_all [otherVoice]
    rw [other] at playing ⊢
    rw [State.voice_startUtterance_other]
    exact playing

theorem SpeaksOn.failStart {s : State} {v : Voice} {u : Utterance} (fill : s.voiceToFill = some v)
    (best : s.bestHead v = some u) : SpeaksOn s ((s.startUtterance v u).freeVoice v) := by
  have started := SpeaksOn.startUtterance fill best
  refine ⟨started.only.trans (.freeVoice _ v), fun w speaks => started.less w (State.speaks_of_freeVoice speaks),
    fun w p playing => ?_⟩
  have free := State.voiceToFill_free fill
  have other : w ≠ v := by
    rintro rfl
    rw [free] at playing
    cases playing
  have plays := started.plays w p playing
  unfold State.freeVoice
  split
  · rw [State.voice_congr (unpinAll_se _ _), State.voice_setVoice, if_neg other]
    exact plays
  · exact plays

theorem SpeaksOn.arbitrate (s : State) : SpeaksOn s s.arbitrate.1 := by
  obtain idle | ⟨v, u, fill, best, starts | ⟨-, fails⟩⟩ := s.arbitrate_cases
  · rw [idle]
    exact .refl s
  · rw [starts]
    exact .startUtterance fill best
  · rw [fails]
    exact .failStart fill best

/-- Only announcements wait or play. -/
def State.announcesOnly (s : State) : Prop := ∀ u, s.speaks u → u.requester = .announce

/-- Where only announcements wait or play, the arbiter leads to tasks of SE alone. -/
theorem State.arbitrate_ofSpeech {s : State} (announces : s.announcesOnly) : ∀ task ∈ s.arbitrate.2, task.ofSpeech = true := by
  obtain idle | ⟨v, u, fill, best, starts | ⟨-, fails⟩⟩ := s.arbitrate_cases
  · rw [idle]
    exact nofun
  · rw [starts]
    exact List.forall_mem_singleton.2 rfl
  · obtain ⟨r, head⟩ := State.mem_heads (State.bestHead_spec best).1
    have own := announces u (.inr ⟨r, List.mem_of_mem_head? head⟩)
    rw [fails, State.failStart, own]
    exact List.forall_mem_cons.2 ⟨rfl, List.forall_mem_singleton.2 rfl⟩

theorem runTask_ofSpeech {s : State} {task : Task} (speech : task.ofSpeech = true) (announces : s.announcesOnly) :
    SpeaksOn s (runTask task s).1 ∧ ∀ next ∈ (runTask task s).2, next.ofSpeech = true := by
  have ran : runTask task s = runLessonTask task s := if_neg (by simp [speech])
  rw [ran]
  unfold Task.ofSpeech at speech
  split at speech
  · exact ⟨.arbitrate s, State.arbitrate_ofSpeech announces⟩
  · exact ⟨⟨rfl, fun _ h => h, fun _ _ h => h⟩, nofun⟩
  · cases speech

/-- A cascade that begins at the arbiter, where only announcements wait or play, is SE going on by itself. -/
theorem SpeaksOn.drain {s : State} (announces : s.announcesOnly) (k : Nat) : SpeaksOn s (drain k [.arbitrate] s) := by
  refine drain_keeps_tasks (P := SpeaksOn s) (Q := fun task => task.ofSpeech = true) (fun task u speech on => ?_) k _ s
    (List.forall_mem_singleton.2 rfl) (.refl s)
  obtain ⟨further, next⟩ := runTask_ofSpeech speech fun w speaks => announces w (on.less w speaks)
  exact ⟨on.trans further, next⟩

/-! ### Announcements with good clips (R155, R161) -/

/-- Every queue holds its own requester's utterances, none that waits names a BAD clip, and the utterances of `s` still wait or
play. -/
structure SpeaksAll (s t : State) : Prop where
  own : ∀ r, ∀ w ∈ t.speechQueue r, w.requester = r
  good : ∀ w ∈ t.allWaiting, ∀ id ∈ w.clips, t.clipBad id = false
  all : ∀ u, s.speaks u → t.speaks u

theorem State.speaks_startUtterance {s : State} {v : Voice} {u w : Utterance} (fill : s.voiceToFill = some v)
    (queue : s.speechQueue u.requester = u :: (s.speechQueue u.requester).drop 1) (h : s.speaks w) :
    (s.startUtterance v u).speaks w := by
  obtain ⟨x, p, playing, rfl⟩ | ⟨r, waits⟩ := h
  · refine .inl ⟨x, p, ?_, rfl⟩
    by_cases same : x = v
    · rw [same, State.voiceToFill_free fill] at playing
      cases playing
    · have other : x = otherVoice v := by cases v <;> cases x <;> simp_all [otherVoice]
      rw [other] at playing ⊢
      rw [State.voice_startUtterance_other]
      exact playing
  · by_cases mine : r = u.requester
    · rw [mine, queue] at waits
      obtain rfl | behind := List.mem_cons.1 waits
      · exact .inl ⟨v, _, s.voice_startUtterance_self v w, rfl⟩
      · refine .inr ⟨u.requester, ?_⟩
        rw [State.speechQueue_startUtterance, if_pos rfl]
        exact behind
    · refine .inr ⟨r, ?_⟩
      rw [State.speechQueue_startUtterance, if_neg mine]
      exact waits

theorem SpeaksAll.arbitrate {s t : State} (h : SpeaksAll s t) :
    SpeaksAll s t.arbitrate.1 ∧ ∀ task ∈ t.arbitrate.2, task = .arbitrate := by
  obtain idle | ⟨v, u, fill, best, starts | ⟨⟨c, named, bad⟩, -⟩⟩ := t.arbitrate_cases
  · rw [idle]
    exact ⟨h, nofun⟩
  · rw [starts]
    have queue := State.bestHead_queue h.own best
    have less (r : Requester) (w : Utterance) (hw : w ∈ (t.startUtterance v u).speechQueue r) : w ∈ t.speechQueue r := by
      rw [State.speechQueue_startUtterance] at hw
      split at hw
      · exact List.mem_of_mem_drop hw
      · exact hw
    refine ⟨⟨fun r w hw => h.own r w (less r w hw), fun w hw id hid => ?_,
      fun w speaks => State.speaks_startUtterance fill queue (h.all w speaks)⟩, List.forall_mem_singleton.2 rfl⟩
    obtain ⟨r, waits⟩ := (State.mem_allWaiting_iff _ w).1 hw
    have before := h.good w ((State.mem_allWaiting_iff _ w).2 ⟨r, less r w waits⟩) id hid
    rw [State.clipBad, State.clip_congr (s := t) (by rw [State.cs_startUtterance])]
    exact before
  · obtain ⟨r, head⟩ := State.mem_heads (State.bestHead_spec best).1
    rw [h.good u ((State.mem_allWaiting_iff _ u).2 ⟨r, List.mem_of_mem_head? head⟩) c named] at bad
    cases bad

theorem SpeaksAll.drain {s : State} (own : ∀ r, ∀ w ∈ s.speechQueue r, w.requester = r)
    (good : ∀ w ∈ s.allWaiting, ∀ id ∈ w.clips, s.clipBad id = false) (k : Nat) : SpeaksAll s (drain k [.arbitrate] s) := by
  refine drain_keeps_tasks (P := SpeaksAll s) (Q := fun task => task = .arbitrate) (fun task u is on => ?_) k _ s
    (List.forall_mem_singleton.2 rfl) ⟨own, good, fun _ h => h⟩
  subst is
  have ran : runTask .arbitrate u = u.arbitrate := if_neg (by simp [Task.ofSpeech])
  rw [ran]
  exact on.arbitrate

end Sys2Proof.Machine
end

section
/-! The entries of HOLD and LOCKDOWN: which contexts are paused and which speech goes on (R54, R91, R161, R195, R197). -/

namespace Sys2Proof.Machine

/-! ### The contexts that HOLD pauses (R54, R91) -/

/-- A context that the hold entry has paused. -/
def Context.held (c : Context) : Context :=
  { c with state := .paused, pauseCause := some .hold, firm := none, idleRunning := false }

/-- The hold entry pauses a solo context in this one (R54). -/
abbrev Context.holdsSolo (c : Context) : Prop :=
  c.mode = .solo ∧ (c.state = .prompting ∨ c.state = .typing ∨ c.state = .feedback)

/-- The hold entry pauses a context of a running duel in this one (R91). -/
abbrev Context.holdsDuel (c : Context) (record : RecordStatus) : Prop :=
  c.state = .prompting ∨ c.state = .typing ∨ c.state = .feedback ∧ record = .notBuilt

theorem State.holdSolo_of_holds {s : State} {x : Seat} (h : (s.ctx x).holdsSolo) :
    s.holdSolo x = s.setCtx x (s.ctx x).held := by
  obtain ⟨solo, state | state | state⟩ := h <;> rw [State.holdSolo, if_pos solo, state] <;> rfl

theorem State.holdSolo_of_not {s : State} {x : Seat} (h : ¬ (s.ctx x).holdsSolo) : s.holdSolo x = s := by
  unfold State.holdSolo
  split
  · rename_i solo
    split
    · rename_i state
      exact absurd ⟨solo, .inl state⟩ h
    · rename_i state
      exact absurd ⟨solo, .inr (.inl state)⟩ h
    · rename_i state
      exact absurd ⟨solo, .inr (.inr state)⟩ h
    · rfl
    · rfl
    · rfl
    · rfl
  · rfl

theorem Context.holdDuel_of_holds {c : Context} {r : RecordStatus} (h : c.holdsDuel r) : c.holdDuel r = c.held := by
  obtain state | state | ⟨state, unbuilt⟩ := h <;> unfold Context.holdDuel <;> rw [state]
  · rfl
  · rfl
  · exact if_pos unbuilt

theorem Context.holdDuel_of_not {c : Context} {r : RecordStatus} (h : ¬ c.holdsDuel r) : c.holdDuel r = c := by
  unfold Context.holdDuel
  split
  · rename_i state
    exact absurd (.inl state) h
  · rename_i state
    exact absurd (.inr (.inl state)) h
  · rename_i state
    exact if_neg fun unbuilt => h (.inr (.inr ⟨state, unbuilt⟩))
  · rfl
  · rfl
  · rfl
  · rfl

/-- AE and DC as the hold entry leaves them. -/
def State.contextsHeld (s : State) : State :=
  ((({ s with fb := { s.fb with holdDue := false } }.holdSolo .a).holdSolo .b).holdDuelContexts)

theorem State.holdSolo_only (s : State) (x : Seat) : ∃ ae, s.holdSolo x = { s with ae := ae } := by
  by_cases h : (s.ctx x).holdsSolo
  · rw [State.holdSolo_of_holds h]
    exact ⟨_, rfl⟩
  · rw [State.holdSolo_of_not h]
    exact ⟨s.ae, rfl⟩

theorem State.ctx_holdSolo_other (s : State) {x y : Seat} (other : y ≠ x) : (s.holdSolo x).ctx y = s.ctx y := by
  by_cases h : (s.ctx x).holdsSolo
  · rw [State.holdSolo_of_holds h, State.ctx_setCtx, if_neg other]
  · rw [State.holdSolo_of_not h]

theorem State.ctx_holdDuelContexts (s : State) (x : Seat) : s.holdDuelContexts.ctx x =
    if s.duelRuns = true then (s.ctx x).holdDuel (s.round x).record else s.ctx x := by
  unfold State.holdDuelContexts
  split
  · cases x <;> rfl
  · rfl

theorem State.contextsHeld_only (s : State) : ∃ ae, s.contextsHeld = { s with
    fb := { s.fb with holdDue := false }
    dc := if s.duelRuns = true then { s.dc with firm := none } else s.dc
    ae := ae } := by
  obtain ⟨u, hu⟩ : ∃ u : State, u = { s with fb := { s.fb with holdDue := false } } := ⟨_, rfl⟩
  obtain ⟨ae, first⟩ := u.holdSolo_only .a
  obtain ⟨ae', second⟩ := (u.holdSolo .a).holdSolo_only .b
  rw [State.contextsHeld, ← hu, second, first]
  unfold State.holdDuelContexts
  have runs : ({ { u with ae := ae } with ae := ae' } : State).duelRuns = s.duelRuns := by rw [hu]; rfl
  rw [runs]
  split
  · rw [hu]
    exact ⟨_, rfl⟩
  · rw [hu]
    exact ⟨_, rfl⟩

/-- Which context the hold entry pauses, and how (R54, R91). -/
theorem State.ctx_contextsHeld (s : State) (x : Seat) : s.contextsHeld.ctx x =
    if (s.ctx x).holdsSolo ∨ s.duelRuns = true ∧ (s.ctx x).holdsDuel (s.round x).record then (s.ctx x).held
      else s.ctx x := by
  obtain ⟨u, hu⟩ : ∃ u : State, u = { s with fb := { s.fb with holdDue := false } } := ⟨_, rfl⟩
  obtain ⟨ae, first⟩ := u.holdSolo_only .a
  obtain ⟨ae', second⟩ := (u.holdSolo .a).holdSolo_only .b
  have was : u.ctx x = s.ctx x := by rw [hu]; rfl
  have both : ((u.holdSolo .a).holdSolo .b).ctx x = (u.holdSolo x).ctx x := by
    cases x with
    | a => exact (u.holdSolo .a).ctx_holdSolo_other (by decide)
    | b =>
      have kept : (u.holdSolo .a).ctx .b = u.ctx .b := u.ctx_holdSolo_other (by decide)
      by_cases h : (u.ctx .b).holdsSolo
      · rw [State.holdSolo_of_holds (by rw [kept]; exact h), State.holdSolo_of_holds h, State.ctx_setCtx_self,
          State.ctx_setCtx_self, kept]
      · rw [State.holdSolo_of_not (by rw [kept]; exact h), State.holdSolo_of_not h, kept]
  have runs : ((u.holdSolo .a).holdSolo .b).duelRuns = s.duelRuns := by rw [second, first, hu]; rfl
  have round : ((u.holdSolo .a).holdSolo .b).round x = s.round x := by rw [second, first, hu]; rfl
  rw [State.contextsHeld, ← hu, State.ctx_holdDuelContexts, runs, round, both]
  by_cases solo : (u.ctx x).holdsSolo
  · rw [State.holdSolo_of_holds solo, State.ctx_setCtx_self, was]
    rw [was] at solo
    rw [if_pos (Or.inl solo)]
    have still : ¬ (s.ctx x).held.holdsDuel (s.round x).record := by rintro (h | h | ⟨h, -⟩) <;> cases h
    rw [Context.holdDuel_of_not still, ite_self]
  · rw [State.holdSolo_of_not solo, was]
    rw [was] at solo
    by_cases duel : s.duelRuns = true ∧ (s.ctx x).holdsDuel (s.round x).record
    · rw [if_pos duel.1, Context.holdDuel_of_holds duel.2, if_pos (Or.inr duel)]
    · rw [if_neg (not_or.2 ⟨solo, duel⟩)]
      split
      · rename_i runs'
        exact Context.holdDuel_of_not fun h => duel ⟨runs', h⟩
      · rfl

theorem runLessonTask_holdEntry {s : State} (due : s.fb.holdDue = true) :
    runLessonTask .holdEntry s = (s.contextsHeld.cancelLessons, [.arbitrate]) := if_pos due

/-! ### The speech at the hold entry (R161) -/

theorem State.announcesOnly_cancelLessons (s : State) : s.cancelLessons.announcesOnly := by
  intro u speaks
  rw [State.speaks_iff, State.cancelLessons, State.mem_cancel] at speaks
  simpa using speaks.2

theorem State.speaks_cancelLessons {s : State} {u : Utterance} (h : s.speaks u) (own : u.requester = .announce) :
    s.cancelLessons.speaks u := by
  rw [State.speaks_iff] at h
  rw [State.speaks_iff, State.cancelLessons, State.mem_cancel]
  exact ⟨h, by simp [own]⟩

theorem State.voice_cancelLessons {s : State} {v : Voice} {p : Playing} (playing : s.voice v = some p)
    (own : p.utterance.requester = .announce) : s.cancelLessons.voice v = some p := by
  have keep : keepPlaying (·.requester != .announce) (some p) = some p := by simp [keepPlaying, own]
  cases v with
  | v0 =>
    show s.cancelLessons.se.v0 = _
    rw [State.cancelLessons, State.se_cancel]
    exact (congrArg (keepPlaying _) (playing : s.se.v0 = some p)).trans keep
  | v1 =>
    show s.cancelLessons.se.v1 = _
    rw [State.cancelLessons, State.se_cancel]
    exact (congrArg (keepPlaying _) (playing : s.se.v1 = some p)).trans keep

theorem State.clipBad_unpin {s : State} {id k : Nat} (good : s.clipBad k = false) : (s.unpin id).clipBad k = false := by
  have clip := s.clip_unpin id k
  by_cases same : k = id
  · rw [if_pos same] at clip
    cases was : s.clip k with
    | none =>
      rw [was] at clip
      rw [State.clipBad, clip]
      rfl
    | some c =>
      rw [State.clipBad, was] at good
      rw [was, Option.bind_some] at clip
      rw [State.clipBad, clip]
      split
      · rename_i d hd
        split at hd
        · cases hd
        · cases hd
          exact good
      · rfl
  · rw [if_neg same] at clip
    rw [State.clipBad, clip]
    exact good

theorem State.clipBad_unpinAll {k : Nat} : ∀ (ids : List Nat) {s : State}, s.clipBad k = false →
    (s.unpinAll ids).clipBad k = false
  | [], _, good => good
  | _ :: ids, _, good => State.clipBad_unpinAll ids (State.clipBad_unpin good)

theorem State.clipBad_cancel {s : State} {k : Nat} (good : s.clipBad k = false) (q : Utterance → Bool) :
    (s.cancel q).clipBad k = false := by
  have released : (({ s with se := s.se.without q } : State).unpinAll ((s.named q).flatMap (·.clips))).clipBad k = false :=
    State.clipBad_unpinAll _ good
  rw [State.cancel_eq]
  split
  · exact released
  · exact released

end Sys2Proof.Machine
end

section
/-! The entries of HOLD and LOCKDOWN as instructions (R161, R195, R197). -/

namespace Sys2Proof.Machine

/-! ### HOLD_ENTRY -/

/-- The part after the hold entry: the lessons paused, what is no announcement cancelled, and SE going on by itself. -/
def State.holdEntered (s : State) : State := drain 19999 [.arbitrate] s.contextsHeld.cancelLessons

theorem State.carryOut_holdEntry {s : State} (due : s.fb.holdDue = true) (thawed : s.fb.frozen = false) :
    s.carryOut [.holdEntry] = s.holdEntered := by
  have ran : runTask .holdEntry s = (s.contextsHeld.cancelLessons, [.arbitrate]) :=
    (runTask_thawed thawed _).trans (runLessonTask_holdEntry due)
  rw [State.carryOut, Config.cascade, drain_cons, ran]
  rfl

theorem State.carryOut_holdEntry_notDue {s : State} (due : s.fb.holdDue = false) : s.carryOut [.holdEntry] = s := by
  have ran : runTask .holdEntry s = (s, []) := by
    unfold runTask
    split
    · rfl
    · exact if_neg (by simp [due])
  rw [State.carryOut, Config.cascade, drain_cons, ran]
  rfl

theorem State.se_contextsHeld (s : State) : s.contextsHeld.se = s.se := by
  obtain ⟨ae, held⟩ := s.contextsHeld_only
  rw [held]

theorem State.cs_contextsHeld (s : State) : s.contextsHeld.cs = s.cs := by
  obtain ⟨ae, held⟩ := s.contextsHeld_only
  rw [held]

theorem State.fixed_drain (k : Nat) (ts : List Task) (s : State) : (drain k ts s).fixed = s.fixed :=
  drain_keeps (P := fun t => t.fixed = s.fixed) (fun t u h => (fixed_runTask t u).trans h) k ts s rfl

section Entered

variable (s : State)

theorem SpeaksOn.holdEntered : SpeaksOn s.contextsHeld.cancelLessons s.holdEntered :=
  .drain s.contextsHeld.announcesOnly_cancelLessons _

theorem SpeechOnly.holdEntered : SpeechOnly s.contextsHeld s.holdEntered :=
  (SpeechOnly.cancel _ _).trans (SpeaksOn.holdEntered s).only

theorem State.ctx_holdEntered (x : Seat) : s.holdEntered.ctx x =
    if (s.ctx x).holdsSolo ∨ s.duelRuns = true ∧ (s.ctx x).holdsDuel (s.round x).record then (s.ctx x).held
      else s.ctx x := by
  rw [← s.ctx_contextsHeld x, State.ctx, (SpeechOnly.holdEntered s).ae, State.ctx]

theorem State.fb_holdEntered : s.holdEntered.fb = { s.fb with holdDue := false } := by
  obtain ⟨ae, held⟩ := s.contextsHeld_only
  rw [(SpeechOnly.holdEntered s).fb, held]

theorem State.dc_holdEntered : s.holdEntered.dc = if s.duelRuns = true then { s.dc with firm := none } else s.dc := by
  obtain ⟨ae, held⟩ := s.contextsHeld_only
  rw [(SpeechOnly.holdEntered s).dc, held]

/-- The hold entry leaves the log, the words, the keys and the rest as they are. -/
theorem State.holdEntered_keeps : s.holdEntered.rl = s.rl ∧ s.holdEntered.ps = s.ps ∧ s.holdEntered.wt = s.wt ∧
    s.holdEntered.ks = s.ks ∧ s.holdEntered.fixed = s.fixed := by
  obtain ⟨ae, held⟩ := s.contextsHeld_only
  have only := SpeechOnly.holdEntered s
  refine ⟨?_, ?_, ?_, ?_, ?_⟩
  · rw [only.rl, held]
  · rw [only.ps, held]
  · rw [only.wt, held]
  · rw [only.ks, held]
  · rw [State.holdEntered, State.fixed_drain, State.fixed_cancelLessons, held]
    rfl

/-- Only announcements wait or play after the hold entry. -/
theorem State.announces_holdEntered : ∀ u ∈ s.holdEntered.allPlaying ++ s.holdEntered.allWaiting, u.requester = .announce := by
  intro u hu
  exact s.contextsHeld.announcesOnly_cancelLessons u ((SpeaksOn.holdEntered s).less u ((State.speaks_iff _ u).2 hu))

theorem State.voice_holdEntered {s : State} {v : Voice} {p : Playing} (playing : s.voice v = some p)
    (own : p.utterance.requester = .announce) : s.holdEntered.voice v = some p :=
  (SpeaksOn.holdEntered s).plays v p
    (State.voice_cancelLessons ((State.voice_congr s.se_contextsHeld v).trans playing) own)

theorem speechQuiet_of_noneSpeaks {s : State} (h : ∀ u, ¬ s.speaks u) : s.speechQuiet := by
  have none' : ∀ u, u ∉ s.allPlaying ++ s.allWaiting := fun u hu => h u ((s.speaks_iff u).2 hu)
  exact List.append_eq_nil_iff.1 (List.eq_nil_iff_forall_not_mem.2 none')

theorem State.quiet_holdEntered {s : State} (none' : ∀ u ∈ s.allPlaying ++ s.allWaiting, u.requester ≠ .announce) :
    s.holdEntered.speechQuiet := by
  refine speechQuiet_of_noneSpeaks fun u speaks => ?_
  have before := (SpeaksOn.holdEntered s).less u speaks
  have own := s.contextsHeld.announcesOnly_cancelLessons u before
  rw [State.speaks_iff, State.cancelLessons, State.mem_cancel, ← State.speaks_iff,
    State.speaks_congr s.se_contextsHeld, State.speaks_iff] at before
  exact none' u before.1 own

theorem State.waits_holdEntered {s : State} (law : s.pinLaw)
    (good : ∀ u ∈ s.allWaiting, u.requester = .announce → ∀ id ∈ u.clips, s.clipBad id = false) {u : Utterance}
    (waits : u ∈ s.allWaiting) (own : u.requester = .announce) :
    u ∈ s.holdEntered.allPlaying ++ s.holdEntered.allWaiting := by
  have held : s.contextsHeld.pinLaw := State.pinLaw_congr law (congrArg (·.directory) s.cs_contextsHeld) s.se_contextsHeld
  obtain ⟨-, -, queued⟩ := State.pinLaw_cancel held (·.requester != .announce)
  have goodClips : ∀ w ∈ s.contextsHeld.cancelLessons.allWaiting, ∀ id ∈ w.clips,
      s.contextsHeld.cancelLessons.clipBad id = false := by
    intro w hw id hid
    rw [State.cancelLessons, State.allWaiting_cancel, List.mem_filter] at hw
    have waited : w ∈ s.allWaiting := by
      have same : s.contextsHeld.allWaiting = s.allWaiting := by simp only [State.allWaiting, s.se_contextsHeld]
      rw [← same]
      exact hw.1
    have was : s.contextsHeld.clipBad id = false := by
      rw [State.clipBad, State.clip_congr (congrArg (·.directory) s.cs_contextsHeld)]
      exact good w waited (by simpa using hw.2) id hid
    exact State.clipBad_cancel was _
  have still : s.contextsHeld.cancelLessons.speaks u := State.speaks_cancelLessons
    ((State.speaks_congr s.se_contextsHeld u).2 ((s.speaks_iff u).2 (List.mem_append_right _ waits))) own
  rw [← State.speaks_iff]
  exact (SpeaksAll.drain queued goodClips 19999).all u still

end Entered

/-! ### The two entries -/

theorem exec_holdEntry_notDue {s : State} (released : s.resetHeld = false) (due : s.fb.holdDue = false) :
    exec .holdEntry s = .next s :=
  (event_taken (act := fun s => s.carryOut [.holdEntry]) released).trans (congrArg _ (State.carryOut_holdEntry_notDue due))

theorem exec_holdEntry_due {s : State} (released : s.resetHeld = false) (due : s.fb.holdDue = true)
    (thawed : s.fb.frozen = false) : exec .holdEntry s = .next s.holdEntered :=
  (event_taken (act := fun s => s.carryOut [.holdEntry]) released).trans
    (congrArg _ (State.carryOut_holdEntry due thawed))

theorem exec_lockdownEntry {s : State} (released : s.resetHeld = false) :
    exec .lockdownEntry s = .next (if s.fb.lockdownDue = true then s.enterLockdown else s) :=
  event_taken (act := fun s => if s.fb.lockdownDue then s.enterLockdown else s) released

/-- The lockdown entry stops the generator and SE, and freezes the lessons as they stand (R197). -/
theorem State.enterLockdown_freezes (s : State) : s.enterLockdown.tb = { s.tb with generator := .stopped } ∧
    s.enterLockdown.speechQuiet ∧
    s.enterLockdown.fb = { s.fb with holdDue := false, lockdownDue := false, frozen := true } ∧
    s.enterLockdown.ae = s.ae ∧ s.enterLockdown.dc = s.dc ∧ s.enterLockdown.rl = s.rl ∧ s.enterLockdown.ps = s.ps ∧
    s.enterLockdown.wt = s.wt ∧ s.enterLockdown.ks = s.ks ∧ s.enterLockdown.lp = s.lp := by
  have only : SpeechOnly s.stopGenerator s.stopGenerator.cancelAll := SpeechOnly.cancel _ _
  have fb := only.fb
  have quiet : s.enterLockdown.speechQuiet := State.speechQuiet_congr s.stopGenerator.quiet_cancelAll rfl
  refine ⟨only.tb, quiet, ?_, only.ae, only.dc, only.rl, only.ps, only.wt, only.ks, only.lp⟩
  show ({ s.stopGenerator.cancelAll.fb with holdDue := false, lockdownDue := false, frozen := true } : FaultBanks) = _
  rw [fb]
  rfl

end Sys2Proof.Machine
end

section
/-! CLEAR_HOLD: a solo context or a running duel that HOLD paused is resumed (R55, R92, R196). -/

namespace Sys2Proof.Machine

/-! ### The request (R196) -/

/-- The part in NORMAL again, with no hold entry outstanding. -/
def State.holdLeft (s : State) : State := { s with fb := { s.fb with condition := .normal, holdDue := false } }

theorem exec_clearHold_refused {s : State} {tag : Byte} (taken : s.takes (.clearHold tag)) (not : s.fb.condition ≠ .hold) :
    exec (.clearHold tag) s = .next (s.replied (.clearHold tag) .wrongState []) := by
  refine exec_answer rfl taken (?_ : clearHoldOwner s = _)
  unfold clearHoldOwner
  rw [(bne_iff_ne).2 not]
  rfl

/-- CLEAR_HOLD leads to a state whose condition it answers. -/
theorem exec_clearHold {s t : State} {tag : Byte} {k : Nat} (taken : s.takes (.clearHold tag)) (hold : s.fb.condition = .hold)
    (leads : Leads k s.holdLeft [.resumeHeld .a, .resumeHeld .b, .resumeDuel] t) (few : k ≤ Config.cascade) :
    exec (.clearHold tag) s = .next (t.replied (.clearHold tag) .ok [byte (conditionCode t.fb.condition)]) := by
  refine exec_answer rfl taken (?_ : clearHoldOwner s = _)
  have cleared : s.clearHoldNow = t := leads.carryOut few
  rw [clearHoldOwner, cleared, hold]
  rfl

theorem exec_clearHold_normal {s t : State} {tag : Byte} {k : Nat} (taken : s.takes (.clearHold tag))
    (hold : s.fb.condition = .hold) (leads : Leads k s.holdLeft [.resumeHeld .a, .resumeHeld .b, .resumeDuel] t)
    (few : k ≤ Config.cascade) (normal : t.fb = s.holdLeft.fb) :
    exec (.clearHold tag) s = .next (t.replied (.clearHold tag) .ok [0]) := by
  rw [exec_clearHold taken hold leads few, normal]
  rfl

/-! ### What is not held is not resumed -/

theorem Leads.resumeHeld_idle {s : State} {x : Seat} (thawed : s.fb.frozen = false)
    (h : (s.ctx x).mode ≠ .solo ∨ (s.ctx x).state ≠ .paused ∨ (s.ctx x).pauseCause ≠ some .hold) :
    Leads 1 s [.resumeHeld x] s := by
  refine .ends thawed (if_neg ?_)
  rintro ⟨-, solo, paused, cause⟩
  obtain h | h | h := h
  · exact h solo
  · exact h paused
  · exact h cause

theorem Leads.resumeDuel_off {s : State} (thawed : s.fb.frozen = false) (off : s.duelRuns = false) :
    Leads 1 s [.resumeDuel] s :=
  .ends thawed (if_neg fun ⟨_, runs, _⟩ => by rw [off] at runs; cases runs)

theorem Leads.nothingHeld {s : State} (thawed : s.fb.frozen = false) (off : s.duelRuns = false)
    (h : ∀ x, (s.ctx x).state ≠ .paused ∨ (s.ctx x).pauseCause ≠ some .hold) :
    Leads 3 s [.resumeHeld .a, .resumeHeld .b, .resumeDuel] s :=
  (Leads.resumeHeld_idle thawed (.inr (h .a))).cons
    ((Leads.resumeHeld_idle thawed (.inr (h .b))).cons (.resumeDuel_off thawed off))

/-! ### A solo context on a readable target (R55) -/

section HeldSolo

variable {s : State} {x : Seat} {n : Nat} {e : WordEntry} {k : TargetCopy} (thawed : s.fb.frozen = false)
  (normal : s.fb.condition = .normal) (solo : (s.ctx x).mode = .solo) (paused : (s.ctx x).state = .paused)
  (cause : (s.ctx x).pauseCause = some .hold) (target : (s.ctx x).target = some n) (copy : (s.ctx x).copy = some k)
  (slot : s.slot n = .occupied e true) (ready : s.clipReady k.wordClip = true) (quiet : s.speechQuiet)
  (keys : (s.seat x).keys = [])
include thawed normal solo paused cause target copy slot ready quiet keys

theorem Leads.resumeHeld : ∃ t h, Leads 6 s [.resumeHeld x] t ∧
    t.rePrompted (s.setCtx x { s.ctx x with pauseCause := none }) x k h := by
  obtain ⟨t, h, leads, prompted⟩ := State.resumeSolo_leads target copy slot ready quiet keys thawed
  refine ⟨t, h, .acts thawed (if_pos ⟨normal, solo, paused, cause⟩) (.acts thawed rfl ?_), prompted⟩
  exact leads

theorem Leads.resumesSolo (off : s.duelRuns = false)
    (other : (s.ctx x.other).state ≠ .paused ∨ (s.ctx x.other).pauseCause ≠ some .hold) :
    ∃ t h, Leads 8 s [.resumeHeld .a, .resumeHeld .b, .resumeDuel] t ∧
      t.rePrompted (s.setCtx x { s.ctx x with pauseCause := none }) x k h := by
  obtain ⟨t, h, leads, prompted⟩ := Leads.resumeHeld thawed normal solo paused cause target copy slot ready quiet keys
  refine ⟨t, h, ?_, prompted⟩
  obtain ⟨-, -, -, -, others, -, -, dc, -, fb, -⟩ := prompted
  rw [State.ctx_setCtx_other] at others
  have thawedT : t.fb.frozen = false := by rw [fb]; exact thawed
  have offT : t.duelRuns = false := by
    unfold State.duelRuns
    rw [dc]
    exact off
  have ends : Leads 1 t [.resumeDuel] t := .resumeDuel_off thawedT offT
  cases x with
  | a => exact leads.cons ((Leads.resumeHeld_idle thawedT (.inr (by rw [← others] at other; exact other))).cons ends)
  | b => exact (Leads.resumeHeld_idle thawed (.inr other)).cons (leads.cons ends)

end HeldSolo

/-! ### With no duel running -/

/-- CLEAR_HOLD with no duel running: refused outside HOLD, and one solo context paused by it is prompted again (R55, R196). -/
theorem clearHold_noDuel (s : State) (tag : Byte) (taken : s.takes (.clearHold tag)) (thawed : s.fb.frozen = false)
    (off : s.duelRuns = false) :
    (s.fb.condition ≠ .hold → exec (.clearHold tag) s = .next (s.replied (.clearHold tag) .wrongState [])) ∧
    (s.fb.condition = .hold → (∀ x, (s.ctx x).state ≠ .paused ∨ (s.ctx x).pauseCause ≠ some .hold) →
      exec (.clearHold tag) s = .next (s.holdLeft.replied (.clearHold tag) .ok [0])) ∧
    (∀ x n e k, s.fb.condition = .hold → (s.ctx x).mode = .solo → (s.ctx x).state = .paused →
      (s.ctx x).pauseCause = some .hold →
      (s.ctx x.other).state ≠ .paused ∨ (s.ctx x.other).pauseCause ≠ some .hold →
      (s.ctx x).target = some n → (s.ctx x).copy = some k → s.slot n = .occupied e true →
      s.clipReady k.wordClip = true → s.speechQuiet → (s.seat x).keys = [] →
      ∃ (t : State) (h : Nat), exec (.clearHold tag) s = .next (t.replied (.clearHold tag) .ok [0]) ∧
        t.ctx x = { s.ctx x with state := .prompting, pauseCause := none, firm := some h, idleRunning := false } ∧
        t.fb = { s.fb with condition := .normal, holdDue := false } ∧
        t.se.v0 = some ⟨⟨h, .seat x, .prompt, s.seatRoute x, [k.wordClip]⟩, 0, 0, 0⟩ ∧
        t.ctx x.other = s.ctx x.other ∧ t.ps = s.ps ∧ t.wt = s.wt ∧ t.dc = s.dc ∧ t.rl = s.rl) := by
  refine ⟨exec_clearHold_refused taken, fun hold none' => ?_,
    fun x n e k hold solo paused cause other target copy slot ready quiet keys => ?_⟩
  · exact exec_clearHold_normal taken hold (Leads.nothingHeld (s := s.holdLeft) thawed off none') (by decide) rfl
  · obtain ⟨t, h, leads, prompted⟩ := Leads.resumesSolo (s := s.holdLeft) thawed rfl solo paused cause target copy slot ready
      quiet keys off other
    obtain ⟨own, plays, -, -, others, ps, wt, dc, rl, fb, -⟩ := prompted
    rw [State.ctx_setCtx_self] at own
    rw [State.ctx_setCtx_other] at others
    exact ⟨t, h, exec_clearHold_normal taken hold leads (by decide) fb, own, fb, plays, others, ps, wt, dc, rl⟩

end Sys2Proof.Machine
end

section
/-! CLEAR_HOLD resumes a running duel: an open round is prompted again, a held presentation presents, a settled round goes to
its close (R92). -/

namespace Sys2Proof.Machine

/-! ### The resumption by the state of the duel (R92) -/

/-- In a duel CLEAR_HOLD resumes by the state of DC alone. -/
theorem Leads.resumesDuel {k : Nat} {s t : State} (thawed : s.fb.frozen = false) (duel : ∀ x, (s.ctx x).mode = .duel)
    (leads : Leads k s [.resumeDuel] t) : Leads (1 + (1 + k)) s [.resumeHeld .a, .resumeHeld .b, .resumeDuel] t :=
  have idle (x : Seat) : Leads 1 s [.resumeHeld x] s :=
    Leads.resumeHeld_idle thawed (.inl fun solo => by rw [duel x] at solo; cases solo)
  (idle .a).cons ((idle .b).cons leads)

theorem State.duelHeld_of_paused {s : State} {y : Seat} (duel : (s.ctx y).mode = .duel) (paused : (s.ctx y).state = .paused)
    (cause : (s.ctx y).pauseCause = some .hold) : s.duelHeld = true := by
  have held : (s.ctx y).heldInDuel = true := by simp [Context.heldInDuel, duel, paused, cause]
  cases y with
  | a =>
    have held' : s.ae.a.heldInDuel = true := held
    simp [State.duelHeld, held']
  | b =>
    have held' : s.ae.b.heldInDuel = true := held
    simp [State.duelHeld, held']

section Resumes

variable {s : State} {n : Nat} {e : WordEntry} (normal : s.fb.condition = .normal) (held : s.duelHeld = true)
include normal held

theorem State.resumeDuel_open {u : State} {read : Option WordEntry} (state : s.dc.state = .presenting ∨ s.dc.state = .racing)
    (target : s.dc.target = some n) (reads : s.readTarget n false = (u, read)) :
    s.resumeDuel = if read.isSome then u.rePromptRound else u.loseRound := by
  have runs : s.duelRuns = true := by obtain state | state := state <;> rw [State.duelRuns, state]
  rw [State.resumeDuel, if_pos ⟨normal, runs, held⟩]
  obtain state | state := state
  all_goals
    rw [state, target]
    dsimp only
    rw [reads]
    cases read
    all_goals rfl

theorem State.resumeDuel_read (state : s.dc.state = .presenting ∨ s.dc.state = .racing) (target : s.dc.target = some n)
    (slot : s.slot n = .occupied e true) : s.resumeDuel = s.rePromptRound := by
  exact State.resumeDuel_open normal held state target (State.readTarget_good slot false)

theorem State.resumeDuel_presents (state : s.dc.state = .presenting) (target : s.dc.target = none) :
    s.resumeDuel = (s, [.presentRound]) := by
  have runs : s.duelRuns = true := by rw [State.duelRuns, state]
  rw [State.resumeDuel, if_pos ⟨normal, runs, held⟩, state, target]

theorem State.resumeDuel_closes (state : s.dc.state = .settling) (notBuilt : s.notBuilt = true) :
    s.resumeDuel = s.closeAfterHold := by
  have runs : s.duelRuns = true := by rw [State.duelRuns, state]
  rw [State.resumeDuel, if_pos ⟨normal, runs, held⟩, state]
  exact if_pos notBuilt

end Resumes

/-! ### An open round is prompted again -/

/-- The round in PRESENTING again, with both contexts back from the pause. -/
def State.roundAgain (s : State) : State :=
  { s with
    dc := { s.dc with state := .presenting }
    ae := ⟨s.ae.a.rePrompted (s.races .a), s.ae.b.rePrompted (s.races .b)⟩ }

theorem State.rePromptRound_eq {s : State} {k : TargetCopy} (copy : s.dc.copy = some k) :
    s.rePromptRound = (s.roundAgain, [.takeKeys .a, .takeKeys .b, .duelFirm .prompt [k.wordClip]]) := by
  have again : s.roundAgain.dc.copy = some k := copy
  show (s.roundAgain, [Task.takeKeys .a, Task.takeKeys .b, Task.duelFirm .prompt (match s.roundAgain.dc.copy with
    | some t => [t.wordClip]
    | none => [])]) = _
  rw [again]

theorem State.ctx_roundAgain (s : State) (x : Seat) : s.roundAgain.ctx x = if (s.round x).status = some .typing
    then { s.ctx x with state := .prompting, pauseCause := none, idleRunning := false }
    else { s.ctx x with state := .feedback, pauseCause := none, idleRunning := false, firm := none } := by
  have again : s.roundAgain.ctx x = (s.ctx x).rePrompted (s.races x) := by cases x <;> rfl
  rw [again]
  by_cases typing : (s.round x).status = some .typing
  · have races : s.races x = true := beq_iff_eq.2 typing
    rw [races, if_pos typing]
    rfl
  · have out : s.races x = false := beq_eq_false_iff_ne.2 typing
    rw [out, if_neg typing]
    rfl

theorem Leads.roundAgain {s : State} {n : Nat} {e : WordEntry} {k : TargetCopy} (normal : s.fb.condition = .normal)
    (held : s.duelHeld = true) (state : s.dc.state = .presenting ∨ s.dc.state = .racing) (target : s.dc.target = some n)
    (copy : s.dc.copy = some k) (slot : s.slot n = .occupied e true) (ready : s.clipReady k.wordClip = true)
    (quiet : s.speechQuiet) (keys : ∀ x, (s.seat x).keys = []) (thawed : s.fb.frozen = false) :
    Leads 6 s [.resumeDuel] (s.roundAgain.duelSpeaks .prompt [k.wordClip]) := by
  refine .acts thawed ((State.resumeDuel_read normal held state target slot).trans (State.rePromptRound_eq copy)) ?_
  exact (Leads.noKeys (s := s.roundAgain) (keys .a)).cons ((Leads.noKeys (s := s.roundAgain) (keys .b)).cons
    (Leads.duelFirm (s := s.roundAgain) (State.speechQuiet_congr quiet rfl) thawed (List.cons_ne_nil _ _)
      (State.all_ready_one (s := s) ready)))

/-! ### A settled round goes to its close -/

/-- Both contexts in FEEDBACK. -/
def State.bothFeedback (s : State) : State := { s with ae := ⟨s.ae.a.toFeedback, s.ae.b.toFeedback⟩ }

theorem State.closeAfterHold_eq (s : State) :
    s.closeAfterHold = (s.bothFeedback, [.takeKeys .a, .takeKeys .b, .closeRound]) := rfl

theorem State.ctx_bothFeedback (s : State) (x : Seat) : s.bothFeedback.ctx x = (s.ctx x).toFeedback := by
  cases x <;> rfl

theorem ResultRecord.ofRound_bothFeedback {s : State} {r : ResultRecord} {x : Seat} (h : r.ofRound s.bothFeedback x) :
    r.ofRound s x := by
  unfold ResultRecord.ofRound at h ⊢
  rw [State.ctx_bothFeedback] at h
  exact h

theorem Leads.closesHeld {s : State} (normal : s.fb.condition = .normal) (settling : s.dc.state = .settling)
    (notBuilt : ∀ x, (s.round x).record = .notBuilt) (firm : s.dc.firm = none) (room : s.rl.records.length ≤ 30)
    (last : s.dc.round = s.dc.total) (keys : ∀ x, (s.seat x).keys = []) (thawed : s.fb.frozen = false) :
    Leads 39 s [.resumeDuel] (s.bothFeedback.handBoth.staleJudgements.duelOver .rounds) := by
  have unbuilt : s.notBuilt = true := by rw [State.notBuilt, notBuilt, notBuilt]; rfl
  have held : s.duelHeld = true := by simp [State.duelHeld, settling, unbuilt, firm]
  refine .acts thawed ((State.resumeDuel_closes normal held settling unbuilt).trans s.closeAfterHold_eq) ?_
  exact (Leads.noKeys (s := s.bothFeedback) (keys .a)).cons ((Leads.noKeys (s := s.bothFeedback) (keys .b)).cons
    (Leads.closesLast (s := s.bothFeedback) settling notBuilt keys thawed room last))

/-! ### CLEAR_HOLD in a running duel -/

section RunningDuel

variable {s : State} {tag : Byte} (taken : s.takes (.clearHold tag)) (thawed : s.fb.frozen = false)
  (hold : s.fb.condition = .hold) (seats : ∀ x, (s.ctx x).mode = .duel ∧ (s.seat x).keys = []) (quiet : s.speechQuiet)
include taken thawed hold seats quiet

/-- A round in its race, or with its prompt to end, is prompted again. -/
theorem clearHold_rePrompts {n : Nat} {e : WordEntry} {k : TargetCopy}
    (state : s.dc.state = .presenting ∨ s.dc.state = .racing) (target : s.dc.target = some n) (copy : s.dc.copy = some k)
    (slot : s.slot n = .occupied e true) (ready : s.clipReady k.wordClip = true)
    (paused : ∃ y, (s.ctx y).state = .paused ∧ (s.ctx y).pauseCause = some .hold) :
    ∃ (t : State) (h : Nat), exec (.clearHold tag) s = .next (t.replied (.clearHold tag) .ok [0]) ∧
      t.fb = { s.fb with condition := .normal, holdDue := false } ∧
      t.dc = { s.dc with state := .presenting, firm := some h } ∧
      (∀ x, t.ctx x = if (s.round x).status = some .typing
        then { s.ctx x with state := .prompting, pauseCause := none, idleRunning := false }
        else { s.ctx x with state := .feedback, pauseCause := none, idleRunning := false, firm := none }) ∧
      t.se.v0 = some ⟨⟨h, .duel, .prompt, s.seatRoute .a ||| s.seatRoute .b, [k.wordClip]⟩, 0, 0, 0⟩ ∧
      t.se.v1 = none ∧ t.allWaiting = [] ∧ t.ps = s.ps ∧ t.wt = s.wt ∧ t.rl = s.rl ∧ t.fixed = s.fixed := by
  obtain ⟨y, pausedY, cause⟩ := paused
  have held : s.holdLeft.duelHeld = true := State.duelHeld_of_paused (s := s.holdLeft) (seats y).1 pausedY cause
  have leads := Leads.resumesDuel (s := s.holdLeft) thawed (fun x => (seats x).1)
    (Leads.roundAgain (s := s.holdLeft) rfl held state target copy slot ready (State.speechQuiet_congr quiet rfl)
      (fun x => (seats x).2) thawed)
  have fixed : (s.holdLeft.roundAgain.duelSpeaks .prompt [k.wordClip]).fixed = s.fixed := by
    rw [← leads.carryOut (by decide), State.fixed_carryOut]
    rfl
  obtain ⟨-, v1, -, -, -⟩ := (speechQuiet_iff s).1 quiet
  exact ⟨_, s.holdLeft.roundAgain.freeHandle, exec_clearHold_normal taken hold leads (by decide) rfl, rfl, rfl,
    fun x => s.holdLeft.ctx_roundAgain x, rfl, v1, quiet.2, rfl, rfl, rfl, fixed⟩

/-- A held presentation presents. -/
theorem clearHold_presents {n : Nat} {rest : List Nat} {e : WordEntry} (noRefill : s.cfg.refillMark = 0)
    (state : s.dc.state = .presenting) (target : s.dc.target = none)
    (paused : ∃ y, (s.ctx y).state = .paused ∧ (s.ctx y).pauseCause = some .hold) (queue : s.ps.duel = n :: rest)
    (slot : s.slot n = .occupied e true) (ready : s.clipReady e.wordClip = true) :
    ∃ t : State, exec (.clearHold tag) s = .next (t.replied (.clearHold tag) .ok [0]) ∧
      t.presents s n rest e ∧ t.rl = s.rl ∧ t.fb = { s.fb with condition := .normal, holdDue := false } ∧
      t.fixed = s.fixed := by
  obtain ⟨y, pausedY, cause⟩ := paused
  have held : s.holdLeft.duelHeld = true := State.duelHeld_of_paused (s := s.holdLeft) (seats y).1 pausedY cause
  have quiet' : s.holdLeft.speechQuiet := State.speechQuiet_congr quiet rfl
  have leads := Leads.resumesDuel (s := s.holdLeft) thawed (fun x => (seats x).1)
    (.acts thawed (State.resumeDuel_presents rfl held state target)
      (Leads.presentRound (s := s.holdLeft) rfl (State.refillDuel_off (s := s.holdLeft) noRefill) queue slot ready quiet'
        (fun x => .inl (seats x).2) thawed))
  have fixed : (s.holdLeft.roundPrompts n e rest).fixed = s.fixed := by
    rw [← leads.carryOut (by decide), State.fixed_carryOut]
    rfl
  have presents := State.presents_roundPrompts (s := s.holdLeft) rest quiet' slot
  exact ⟨_, exec_clearHold_normal taken hold leads (by decide) (State.fb_roundPrompts s.holdLeft n e rest),
    State.presents_congr presents rfl rfl rfl rfl, State.rl_roundPrompts s.holdLeft n e rest,
    State.fb_roundPrompts s.holdLeft n e rest, fixed⟩

/-- A settled last round is closed, which finishes the duel. -/
theorem clearHold_closes (settling : s.dc.state = .settling) (notBuilt : ∀ x, (s.round x).record = .notBuilt)
    (firm : s.dc.firm = none) (room : s.rl.records.length ≤ 30) (last : s.dc.round = s.dc.total) :
    ∃ t : State, exec (.clearHold tag) s = .next (t.replied (.clearHold tag) .ok [0]) ∧ t.hasRecordsOf s ∧
      t.dc.state = .finished ∧ t.dc.finish = some .rounds ∧ (∀ x, (t.ctx x).state = .idle ∧ (t.ctx x).mode = .off) ∧
      t.fb = { s.fb with condition := .normal, holdDue := false } ∧ t.speechQuiet ∧ t.fixed = s.fixed := by
  obtain ⟨u, hu⟩ : ∃ u, u = s.holdLeft.bothFeedback := ⟨_, rfl⟩
  have leads := Leads.resumesDuel (s := s.holdLeft) thawed (fun x => (seats x).1)
    (Leads.closesHeld (s := s.holdLeft) rfl settling notBuilt firm room last (fun x => (seats x).2) thawed)
  rw [← hu] at leads
  have roomU : u.rl.records.length ≤ 30 := by rw [hu]; exact room
  have fixed : (u.handBoth.staleJudgements.duelOver .rounds).fixed = s.fixed := by
    rw [← leads.carryOut (by decide), State.fixed_carryOut]
    rfl
  obtain ⟨ra, rb, records, ofA, ofB, rest⟩ := State.hasRecordsOf_handBoth roomU
  rw [hu] at ofA ofB
  have ofRound : (u.handBoth.staleJudgements.duelOver .rounds).hasRecordsOf s := by
    rw [State.hasRecordsOf]
    refine ⟨ra, rb, ?_, ResultRecord.ofRound_bothFeedback ofA, ResultRecord.ofRound_bothFeedback ofB, ?_⟩
    · exact records.trans (by rw [hu]; rfl)
    · rw [hu] at rest ⊢
      exact rest
  obtain ⟨au, handed⟩ := State.handBoth_room roomU
  obtain ⟨w, hw⟩ : ∃ w, w = u.handBoth := ⟨_, rfl⟩
  rw [← hw] at handed leads ofRound fixed
  have free (x : Seat) : (w.staleJudgements.ctx x).pendingRecord = none := by
    rw [handed]
    cases x <;> rfl
  have fb : (w.staleJudgements.duelOver .rounds).fb = s.holdLeft.fb := by
    show w.fb = _
    rw [handed, hu]
    rfl
  refine ⟨_, exec_clearHold_normal taken hold leads (by decide) fb, ofRound, rfl, rfl, fun x => ?_, fb, ?_, fixed⟩
  · rw [State.ctx_duelOver, Context.afterDuel_of_free (free x)]
    exact ⟨rfl, rfl⟩
  · refine State.speechQuiet_congr quiet ?_
    show w.se = _
    rw [handed, hu]
    rfl

end RunningDuel

end Sys2Proof.Machine
end

section
/-! CLEAR_HOLD on a damaged round target: both attempts end ABANDONED, and the fault holds the next presentation back (R92,
R195). -/

namespace Sys2Proof.Machine

/-! ### Faults that change the part condition (R194) -/

section Escalate

variable {s : State} {code : FaultCode} {context : FaultContext} {detail : Nat} {resumable : Option Bool}

/-- No fault freezes the lessons by itself. -/
theorem State.recordFault_frozen : (s.recordFault code context detail resumable).fb.frozen = s.fb.frozen := by
  have bank (v : FaultBank) : (s.fb.setBank code.bank v).frozen = s.fb.frozen := (s.fb.setBank_condition code.bank v).2.2.2
  have escalated (f : FaultBanks) : f.escalate.frozen = f.frozen := by
    unfold FaultBanks.escalate
    split <;> rfl
  unfold State.recordFault
  dsimp only
  split
  · split
    · exact (escalated _).trans (bank _)
    · exact bank _
  · exact bank _

variable (disruptive : code.disruptive = true) (enabled : s.faultEnabled code = true)
include disruptive enabled

theorem State.recordFault_entersHold (normal : s.fb.condition = .normal) :
    (s.recordFault code context detail resumable).fb.condition = .hold ∧
    (s.recordFault code context detail resumable).fb.holdDue = true := by
  obtain ⟨v, fb⟩ := s.recordFault_disruptive code context detail resumable disruptive enabled
  obtain ⟨condition, -, -, -⟩ := s.fb.setBank_condition code.bank v
  rw [fb]
  unfold FaultBanks.escalate
  rw [condition, normal]
  exact ⟨rfl, rfl⟩

theorem State.recordFault_entersLockdown (hold : s.fb.condition = .hold) :
    (s.recordFault code context detail resumable).fb.condition = .lockdown := by
  obtain ⟨v, fb⟩ := s.recordFault_disruptive code context detail resumable disruptive enabled
  obtain ⟨condition, -, -, -⟩ := s.fb.setBank_condition code.bank v
  rw [fb]
  unfold FaultBanks.escalate
  rw [condition, hold]

end Escalate

/-! ### The target is lost -/

/-- The round target read with its parity wrong: the slot is DAMAGED and TABLE_PARITY recorded (R9). -/
def State.targetLost (s : State) (n : Nat) : State := (s.setSlot n .damaged).recordFault .tableParity (.slot n) 0 (some false)

theorem State.readTarget_bad {s : State} {n : Nat} {e : WordEntry} (slot : s.slot n = .occupied e false) :
    s.readTarget n false = (s.targetLost n, none) := by
  unfold State.readTarget
  rw [slot]
  rfl

theorem State.targetLost_only (s : State) (n : Nat) :
    ∃ fb au, s.targetLost n = { s with wt := s.wt.set n .damaged, fb := fb, au := au } :=
  ⟨_, _, (s.setSlot n .damaged).recordFault_only .tableParity (.slot n) 0 (some false)⟩

theorem State.slot_targetLost {s : State} {n : Nat} {e : WordEntry} {p : Bool} (slot : s.slot n = .occupied e p) :
    (s.targetLost n).slot n = .damaged := by
  obtain ⟨fb, au, lost⟩ := s.targetLost_only n
  have inside : n < s.wt.length := by
    by_contra outside
    rw [State.slot, List.getD_eq_default _ _ (Nat.not_lt.1 outside)] at slot
    cases slot
  rw [lost, State.slot]
  simp [inside]

/-! ### The attempts end ABANDONED -/

/-- A context whose attempt of a round has ended (R76). -/
def Context.attemptOver (c : Context) : Context := { c with idleRunning := false, firm := none, state := c.leftRace }

/-- A seat's part of the duel record with outcome ABANDONED. -/
def SeatRound.abandoned (r : SeatRound) : SeatRound := { r with ended := some .abandoned }

/-- Both attempts have ended ABANDONED. -/
def State.bothAbandoned (s : State) : State :=
  { s with
    ae := ⟨s.ae.a.attemptOver, s.ae.b.attemptOver⟩
    dc := { s.dc with seats := ⟨s.dc.seats.a.abandoned, s.dc.seats.b.abandoned⟩ } }

theorem State.abandonSeat_of_typing {s : State} {x : Seat} (h : (s.round x).status = some .typing) :
    s.abandonSeat x = s.endDuelAttempt x .abandoned := if_pos (beq_iff_eq.2 h)

theorem State.abandonBoth {s : State} (typing : ∀ x, (s.round x).status = some .typing) :
    (s.abandonSeat .a).abandonSeat .b = s.bothAbandoned := by
  rw [State.abandonSeat_of_typing (typing .a),
    State.abandonSeat_of_typing (s := s.endDuelAttempt .a .abandoned) (x := .b) (typing .b)]
  rfl

/-- The round result is ABANDONED. -/
def State.resultAbandoned (s : State) : State := { s with dc := { s.dc with result := some .abandoned } }

/-- The round is over with result ABANDONED and no target. -/
def State.roundAbandoned (s : State) : State := s.resultAbandoned.clearRoundTarget

theorem State.abandonRound_target {s : State} {n : Nat} (result : s.dc.result = none) (target : s.dc.target = some n) :
    s.abandonRound = s.resultAbandoned.releaseRound n .abandoned := by
  have same : s.resultAbandoned.dc.target = some n := target
  unfold State.abandonRound
  rw [result]
  show (match s.resultAbandoned.dc.target with
    | some n => s.resultAbandoned.releaseRound n .abandoned
    | none => s.resultAbandoned) = _
  rw [same]

/-- A word that has gone from the table does not come back to the duel queue (R16). -/
theorem State.abandonRound_gone {s : State} {n : Nat} (result : s.dc.result = none) (target : s.dc.target = some n)
    (gone : s.entry n = none) (noRefill : s.cfg.refillMark = 0) : s.abandonRound = s.roundAbandoned := by
  have gone' : s.resultAbandoned.entry n = none := gone
  have back : s.resultAbandoned.reinsert .duel n RoundResult.abandoned.reinsert = s.resultAbandoned := by
    unfold State.reinsert
    rw [gone']
  rw [State.abandonRound_target result target, State.releaseRound_eq (s := s.resultAbandoned) noRefill, back,
    State.roundAbandoned]
  rfl

/-- The round as the loss of its target leaves it, at its close (R92). -/
def State.roundLost (s : State) : State :=
  ({ s.bothAbandoned.roundAbandoned with
    dc := { s.bothAbandoned.roundAbandoned.dc with state := .settling } } : State).staleJudgements.bothFeedback

theorem State.loseRound_eq {s : State} {n : Nat} (typing : ∀ x, (s.round x).status = some .typing)
    (result : s.dc.result = none) (target : s.dc.target = some n) (gone : s.entry n = none)
    (noRefill : s.cfg.refillMark = 0) :
    s.loseRound = (s.roundLost, [.takeKeys .a, .takeKeys .b, .closeRound]) := by
  have abandoned := State.abandonRound_gone (s := s.bothAbandoned) result target gone noRefill
  unfold State.loseRound
  rw [State.abandonBoth typing, abandoned]
  rfl

section RoundLost

variable (s : State) (x : Seat)

theorem State.round_roundLost : s.roundLost.round x = (s.round x).abandoned := by cases x <;> rfl

theorem State.roundLost_only : ∃ ae dc, s.roundLost = { s with ae := ae, dc := dc } := by
  obtain ⟨u, hu⟩ : ∃ u, u = s.bothAbandoned := ⟨_, rfl⟩
  rw [State.roundLost, ← hu]
  refine ⟨⟨u.roundAbandoned.ae.a.toFeedback, u.roundAbandoned.ae.b.toFeedback⟩,
    ({ u.roundAbandoned with dc := { u.roundAbandoned.dc with state := .settling } } : State).staleJudgements.dc, ?_⟩
  rw [hu]
  rfl

theorem State.dc_roundLost : s.roundLost.dc.state = .settling ∧ s.roundLost.dc.result = some .abandoned ∧
    s.roundLost.dc.round = s.dc.round ∧ s.roundLost.dc.total = s.dc.total := ⟨rfl, rfl, rfl, rfl⟩

end RoundLost

/-! ### The close in HOLD -/

theorem State.presentRound_hold {s : State} (hold : s.fb.condition = .hold) : s.presentRound = (s.holdPresentation, []) :=
  if_pos hold

/-- A close in HOLD hands the records and holds the next presentation back (R77, R86). -/
theorem Leads.closesIntoHold {s : State} (settling : s.dc.state = .settling) (notBuilt : ∀ x, (s.round x).record = .notBuilt)
    (thawed : s.fb.frozen = false) (room : s.rl.records.length ≤ 30) (more : s.dc.round ≠ s.dc.total)
    (hold : s.fb.condition = .hold) : Leads 3 s [.closeRound] s.handBoth.staleJudgements.holdPresentation := by
  obtain ⟨au, handed⟩ := State.handBoth_room room
  obtain ⟨u, hu⟩ : ∃ u, u = s.handBoth := ⟨_, rfl⟩
  rw [← hu] at handed ⊢
  have logged (x : Seat) : (u.round x).record = .inLog := by rw [handed]; cases x <;> rfl
  have runs : u.duelRuns = true := by
    rw [handed]
    simp [State.duelRuns, settling]
  have moreU : u.dc.round ≠ u.dc.total := by
    rw [handed]
    exact more
  have thawedU : u.fb.frozen = false := by rw [handed]; exact thawed
  have holdU : u.fb.condition = .hold := by rw [handed]; exact hold
  exact .acts thawed ((State.closeRound_hands settling notBuilt).trans (by rw [← hu]))
    (.acts (task := .afterRecords) thawedU (State.afterRecords_presents runs logged moreU)
      (.ends (s := u.staleJudgements) (task := .presentRound) thawedU
        (State.presentRound_hold (s := u.staleJudgements) holdU)))

theorem State.ctx_holdPresentation (s : State) (x : Seat) : s.holdPresentation.ctx x = (s.ctx x).heldPresentation := by
  cases x <;> rfl

/-- The outcome a round's record states (R86). -/
theorem State.outcome_duelRecord {s : State} {x : Seat} {o : AttemptEnd} (ended : (s.round x).ended = some o) :
    (s.duelRecord x).outcome = o := by
  show (s.round x).ended.getD .abandoned = o
  rw [ended]
  rfl

/-! ### CLEAR_HOLD on a damaged target -/

theorem State.resumeDuel_damaged {s : State} {n : Nat} {e : WordEntry} (normal : s.fb.condition = .normal)
    (held : s.duelHeld = true) (opened : s.roundOpen) (target : s.dc.target = some n) (slot : s.slot n = .occupied e false) :
    s.resumeDuel = ((s.targetLost n).roundLost, [.takeKeys .a, .takeKeys .b, .closeRound]) := by
  obtain ⟨state, -, -, seats, -, result, -, -, -, noRefill⟩ := opened
  obtain ⟨fb, au, lost⟩ := s.targetLost_only n
  have gone : (s.targetLost n).entry n = none := by rw [State.entry, State.slot_targetLost slot]
  have round (x : Seat) : (s.targetLost n).round x = s.round x := by rw [lost]; rfl
  refine (State.resumeDuel_open normal held state target (State.readTarget_bad slot)).trans ?_
  exact State.loseRound_eq (fun x => by rw [round]; exact (seats x).1) (by rw [lost]; exact result) (by rw [lost]; exact target)
    gone (by rw [lost]; exact noRefill)

/-- The round target fails its check, which brings about a new HOLD and ends the round (R92, R195). -/
theorem clearHold_loses {s : State} {tag : Byte} {n : Nat} {e : WordEntry} (taken : s.takes (.clearHold tag))
    (thawed : s.fb.frozen = false) (hold : s.fb.condition = .hold)
    (seats : ∀ x, (s.ctx x).mode = .duel ∧ (s.seat x).keys = []) (quiet : s.speechQuiet) (opened : s.roundOpen)
    (target : s.dc.target = some n) (slot : s.slot n = .occupied e false)
    (paused : ∃ y, (s.ctx y).state = .paused ∧ (s.ctx y).pauseCause = some .hold) (more : s.dc.round ≠ s.dc.total)
    (enabled : s.faultEnabled .tableParity = true) :
    ∃ (t : State) (ra rb : ResultRecord), exec (.clearHold tag) s = .next (t.replied (.clearHold tag) .ok [1]) ∧
      t.slot n = .damaged ∧ t.fb.condition = .hold ∧ t.rl.records = s.rl.records ++ [ra, rb] ∧
      ra.outcome = .abandoned ∧ rb.outcome = .abandoned ∧ t.dc.state = .presenting ∧ t.dc.target = none ∧
      t.dc.round = s.dc.round ∧ t.dc.result = some .abandoned ∧ t.ps = s.ps ∧
      (∀ x, (t.ctx x).state = .paused ∧ (t.ctx x).pauseCause = some .hold ∧ (t.ctx x).target = none) ∧
      t.speechQuiet ∧ t.fixed = s.fixed := by
  obtain ⟨y, pausedY, cause⟩ := paused
  have held : s.holdLeft.duelHeld = true := State.duelHeld_of_paused (s := s.holdLeft) (seats y).1 pausedY cause
  have resumed := State.resumeDuel_damaged (s := s.holdLeft) rfl held opened target slot
  obtain ⟨fb, au, lost⟩ := s.holdLeft.targetLost_only n
  obtain ⟨condition, -⟩ := State.recordFault_entersHold (s := s.holdLeft.setSlot n .damaged) (code := .tableParity)
    (context := .slot n) (detail := 0) (resumable := some false) rfl enabled rfl
  have frozen : (s.holdLeft.targetLost n).fb.frozen = s.fb.frozen := State.recordFault_frozen
  have damaged : (s.holdLeft.targetLost n).slot n = .damaged := State.slot_targetLost (s := s.holdLeft) slot
  have conditionHold : (s.holdLeft.targetLost n).fb.condition = .hold := condition
  obtain ⟨f, hf⟩ : ∃ f, f = s.holdLeft.targetLost n := ⟨_, rfl⟩
  rw [← hf] at lost resumed frozen damaged conditionHold
  obtain ⟨ae, dc, only⟩ := f.roundLost_only
  obtain ⟨settling, result, round, total⟩ := f.dc_roundLost
  have rounds := f.round_roundLost
  obtain ⟨l, hl⟩ : ∃ l, l = f.roundLost := ⟨_, rfl⟩
  rw [← hl] at only settling result round total rounds resumed
  obtain ⟨-, -, -, open', -, -, -, room, -, -⟩ := opened
  have thawedL : l.fb.frozen = false := by rw [only]; exact frozen.trans thawed
  have roomL : l.rl.records.length ≤ 30 := by rw [only, lost]; exact room
  have keysL (x : Seat) : (l.seat x).keys = [] := by rw [only, lost]; exact (seats x).2
  have moreL : l.dc.round ≠ l.dc.total := by rw [round, total, lost]; exact more
  have notBuilt (x : Seat) : (l.round x).record = .notBuilt := by rw [rounds, lost]; exact (open' x).2
  have ended (x : Seat) : (l.duelRecord x).outcome = .abandoned := State.outcome_duelRecord (by rw [rounds]; rfl)
  have leads := Leads.resumesDuel (s := s.holdLeft) thawed (fun x => (seats x).1)
    (.acts thawed resumed ((Leads.noKeys (keysL .a)).cons ((Leads.noKeys (keysL .b)).cons
      (Leads.closesIntoHold settling notBuilt thawedL roomL moreL (by rw [only]; exact conditionHold)))))
  obtain ⟨au', handed⟩ := State.handBoth_room roomL
  obtain ⟨w, hw⟩ : ∃ w, w = l.handBoth := ⟨_, rfl⟩
  rw [← hw] at handed leads
  have fixed : w.staleJudgements.holdPresentation.fixed = s.fixed := by
    rw [← leads.carryOut (by decide), State.fixed_carryOut]
    rfl
  have fbT : w.staleJudgements.holdPresentation.fb = f.fb := by
    show w.fb = _
    rw [handed, only]
  have answer := exec_clearHold taken hold leads (by decide)
  rw [fbT, conditionHold] at answer
  refine ⟨_, { l.duelRecord .a with number := some l.rl.counter }, { l.duelRecord .b with number := some (wrapSucc l.rl.counter) },
    answer, ?_, by rw [fbT]; exact conditionHold, ?_, ended .a, ended .b, rfl, rfl, ?_, ?_, ?_, fun x => ?_, ?_, fixed⟩
  · show w.slot n = _
    rw [handed, only]
    exact damaged
  · have log : l.rl = s.rl := by
      rw [only, lost]
      rfl
    show w.rl.records = _
    rw [handed, log]
  · show w.dc.round = _
    rw [handed]
    exact round.trans (by rw [lost]; rfl)
  · show w.dc.result = _
    rw [handed]
    exact result
  · show w.ps = _
    rw [handed, only, lost]
    rfl
  · rw [State.ctx_holdPresentation]
    exact ⟨rfl, rfl, rfl⟩
  · refine State.speechQuiet_congr quiet ?_
    show w.se = _
    rw [handed, only, lost]
    rfl

end Sys2Proof.Machine
end

section
/-! HOLD is entered and cleared (R54, R55, R91, R92, R161, R195 to R197). -/

namespace Sys2Proof.Machine

/-- The entries of HOLD and LOCKDOWN. -/
theorem entries_pauseAndFreeze (s : State) (released : s.resetHeld = false) :
    (s.fb.holdDue = false → exec .holdEntry s = .next s) ∧
    (s.fb.holdDue = true → s.fb.frozen = false →
      ∃ t : State, exec .holdEntry s = .next t ∧ t.fb = { s.fb with holdDue := false } ∧
        (∀ x, t.ctx x = if (s.ctx x).holdsSolo ∨ s.duelRuns = true ∧ (s.ctx x).holdsDuel (s.round x).record
          then (s.ctx x).held else s.ctx x) ∧
        t.dc = (if s.duelRuns = true then { s.dc with firm := none } else s.dc) ∧
        (∀ u ∈ t.allPlaying ++ t.allWaiting, u.requester = .announce) ∧
        (∀ v p, s.voice v = some p → p.utterance.requester = .announce → t.voice v = some p) ∧
        ((∀ u ∈ s.allPlaying ++ s.allWaiting, u.requester ≠ .announce) → t.speechQuiet) ∧
        (s.pinLaw → (∀ u ∈ s.allWaiting, u.requester = .announce → ∀ id ∈ u.clips, s.clipBad id = false) →
          ∀ u ∈ s.allWaiting, u.requester = .announce → u ∈ t.allPlaying ++ t.allWaiting) ∧
        t.rl = s.rl ∧ t.ps = s.ps ∧ t.wt = s.wt ∧ t.ks = s.ks ∧ t.fixed = s.fixed) ∧
    (s.fb.lockdownDue = false → exec .lockdownEntry s = .next s) ∧
    (s.fb.lockdownDue = true → ∃ t : State, exec .lockdownEntry s = .next t ∧
      t.tb = { s.tb with generator := .stopped } ∧ t.speechQuiet ∧
      t.fb = { s.fb with holdDue := false, lockdownDue := false, frozen := true } ∧
      t.ae = s.ae ∧ t.dc = s.dc ∧ t.rl = s.rl ∧ t.ps = s.ps ∧ t.wt = s.wt ∧ t.ks = s.ks ∧ t.lp = s.lp) := by
  refine ⟨exec_holdEntry_notDue released, fun due thawed => ?_, fun due => ?_, fun due => ?_⟩
  · exact ⟨s.holdEntered, exec_holdEntry_due released due thawed, s.fb_holdEntered, s.ctx_holdEntered, s.dc_holdEntered,
      s.announces_holdEntered, fun _ _ => State.voice_holdEntered, State.quiet_holdEntered,
      fun law good _ => State.waits_holdEntered law good, s.holdEntered_keeps⟩
  · rw [exec_lockdownEntry released, if_neg (by simp [due])]
  · exact ⟨s.enterLockdown, by rw [exec_lockdownEntry released, if_pos due], s.enterLockdown_freezes⟩

/-- Settles O48: the entries pause, cancel and freeze; CLEAR_HOLD resumes what HOLD paused, a duel by its state. -/
theorem holdIsEnteredAndCleared : Obligations.HoldIsEnteredAndCleared := by
  refine ⟨entries_pauseAndFreeze, clearHold_noDuel, fun s tag taken thawed hold seats quiet noRefill => ⟨?_, ?_, ?_, ?_⟩⟩
  · exact fun _ _ _ state target copy slot ready paused =>
      clearHold_rePrompts taken thawed hold seats quiet state target copy slot ready paused
  · exact fun _ _ _ state target paused queue slot ready =>
      clearHold_presents taken thawed hold seats quiet noRefill state target paused queue slot ready
  · exact clearHold_closes taken thawed hold seats quiet
  · exact fun _ _ opened target slot paused more enabled =>
      clearHold_loses taken thawed hold seats quiet opened target slot paused more enabled

end Sys2Proof.Machine
end

section
/-! A parity error in a sample: the clip is BAD, the utterance FAILED, and the fault leads to HOLD (R157, R158, R180). -/

namespace Sys2Proof.Machine

/-! ### The freed voice of a clip gone BAD (R157, R180) -/

/-- A clip that a parity error has made BAD. -/
def Clip.parityBad (c : Clip) : Clip := { c with state := .bad, badCause := some .parity }

theorem State.setClip_setClip (s : State) (id : Nat) (c d : Option Clip) : (s.setClip id c).setClip id d = s.setClip id d := by
  cases id with
  | zero => rfl
  | succ k => simp only [State.setClip, List.set_set]

/-- The state in which CLIP_PARITY is recorded, the voice FREE and its clip BAD. -/
def State.parityNoted (s : State) (v : Voice) (id : Nat) (c : Clip) : State :=
  (s.voiceFreed v id c.parityBad).recordFault .clipParity (.clip id) 0 (some true)

section SoloVoice

variable {s : State} {v : Voice} {p : Playing} {id : Nat} {c : Clip} (h : s.soloVoice v p id c)
include h

theorem State.parityFreed_eq :
    ((s.setVoice v none).reportClipParity id).unpinAll p.utterance.clips = s.voiceFreed v id c.parityBad := by
  have clip : (s.setVoice v none).clip id = some c := (State.clip_congr (by cases v <;> rfl) id).trans h.clip
  have bad : (s.setVoice v none).reportClipParity id = (s.setVoice v none).setClip id (some c.parityBad) := by
    rw [State.reportClipParity, clip]
    exact if_pos h.state
  have clipBad : ((s.setVoice v none).setClip id (some c.parityBad)).clip id = some c.parityBad := by
    rw [State.clip_setClip_present clip, if_pos rfl]
  rw [bad, h.clips]
  refine (State.unpin_kept clipBad (by exact nofun)).trans ?_
  rw [State.setClip_setClip]
  cases v <;> cases id <;> rfl

theorem State.parityError_solo (first : p.index = 0) (holdFirst : Bool) : s.parityError v holdFirst =
    (s.parityNoted v id c).carryOut ((s.parityNoted v id c).parityTasks p.utterance holdFirst) := by
  rw [State.parityError, h.playing]
  dsimp only
  rw [h.clips, first, List.getElem?_cons_zero]
  dsimp only
  rw [← h.clips, State.parityFreed_eq h]
  rfl

theorem exec_clipParity {holdFirst : Bool} {k : Nat} {t : State} (released : s.resetHeld = false) (first : p.index = 0)
    (leads : Leads k (s.parityNoted v id c) ((s.parityNoted v id c).parityTasks p.utterance holdFirst) t)
    (few : k ≤ Config.cascade) : exec (.clipParity v holdFirst) s = .next t := by
  refine (event_taken (act := fun s => s.parityError v holdFirst) released).trans ?_
  rw [State.parityError_solo h first, leads.carryOut few]

theorem State.clip_parityNoted :
    (s.parityNoted v id c).clip id = some { c with state := .bad, badCause := some .parity, pins := c.pins - 1 } := by
  refine (State.clip_congr (s := s.setClip id (some { c.parityBad with pins := c.pins - 1 }))
    (congrArg (·.directory) (State.recordFault_cs ..)) id).trans ?_
  rw [State.clip_setClip_present h.clip, if_pos rfl]
  rfl

theorem State.quiet_parityNoted : (s.parityNoted v id c).speechQuiet :=
  State.speechQuiet_congr (State.speechQuiet_voiceFreed h) (State.recordFault_se ..)

theorem State.fixed_parityNoted : (s.parityNoted v id c).fixed = s.fixed := by
  have bad : ((s.setVoice v none).reportClipParity id).fixed = s.fixed := by
    unfold State.reportClipParity
    split
    · split
      · rw [State.fixed_setClip, State.fixed_setVoice]
      · exact s.fixed_setVoice v none
    · exact s.fixed_setVoice v none
  rw [State.parityNoted, State.fixed_recordFault, ← State.parityFreed_eq h, State.fixed_unpinAll, bad]

end SoloVoice

section ParityNoted

variable (s : State) (v : Voice) (id : Nat) (c : Clip)

theorem State.parityNoted_only : ∃ fb au cs,
    s.parityNoted v id c = { s with se := (s.setVoice v none).se, cs := cs, fb := fb, au := au } := by
  have freed := s.voiceFreed_only v id c.parityBad
  have noted : ∃ fb au, s.parityNoted v id c = { s.voiceFreed v id c.parityBad with fb := fb, au := au } :=
    ⟨_, _, State.recordFault_only ..⟩
  obtain ⟨fb, au, noted⟩ := noted
  obtain ⟨cs, hcs⟩ : ∃ cs, cs = (s.voiceFreed v id c.parityBad).cs := ⟨_, rfl⟩
  rw [← hcs] at freed
  exact ⟨fb, au, cs, noted.trans (by rw [freed])⟩

theorem State.fb_voiceFreed : (s.voiceFreed v id c).fb = s.fb := by rw [State.voiceFreed_only]

theorem State.faultEnabled_voiceFreed : (s.voiceFreed v id c.parityBad).faultEnabled .clipParity = s.fb.audio.mask.getLsbD 9 := by
  rw [State.faultEnabled, State.fb_voiceFreed]
  rfl

theorem State.held_parityNoted : (s.parityNoted v id c).fb.audio.held = some (holdFault s.fb.audio.held
    ⟨false, .clipParity, s.fb.audio.mask.getLsbD 9, .clip id, 0, some true⟩) := by
  have held := (s.voiceFreed v id c.parityBad).recordFault_bank .clipParity (.clip id) 0 (some true)
  rw [State.faultEnabled_voiceFreed, State.fb_voiceFreed] at held
  exact held

theorem State.frozen_parityNoted : (s.parityNoted v id c).fb.frozen = s.fb.frozen :=
  State.recordFault_frozen.trans (congrArg (·.frozen) (s.fb_voiceFreed v id _))

variable {s}

theorem State.parityNoted_entersHold (enabled : s.fb.audio.mask.getLsbD 9 = true) (normal : s.fb.condition = .normal) :
    (s.parityNoted v id c).fb.condition = .hold ∧ (s.parityNoted v id c).fb.holdDue = true :=
  State.recordFault_entersHold rfl ((s.faultEnabled_voiceFreed v id c).trans enabled)
    ((congrArg (·.condition) (s.fb_voiceFreed v id _)).trans normal)

theorem State.parityNoted_entersLockdown (enabled : s.fb.audio.mask.getLsbD 9 = true) (hold : s.fb.condition = .hold) :
    (s.parityNoted v id c).fb.condition = .lockdown :=
  State.recordFault_entersLockdown rfl ((s.faultEnabled_voiceFreed v id c).trans enabled)
    ((congrArg (·.condition) (s.fb_voiceFreed v id _)).trans hold)

theorem State.parityNoted_mild (disabled : s.fb.audio.mask.getLsbD 9 = false) :
    (s.parityNoted v id c).fb.condition = s.fb.condition := by
  obtain ⟨condition, -, -⟩ := (s.voiceFreed v id c.parityBad).recordFault_mild .clipParity (.clip id) 0 (some true)
    (.inr ((s.faultEnabled_voiceFreed v id c).trans disabled))
  exact condition.trans (congrArg (·.condition) (s.fb_voiceFreed v id _))

end ParityNoted

/-! ### What follows (R157, R158) -/

theorem State.parityTasks_reportFirst {s : State} {u : Utterance} {holdFirst : Bool}
    (h : holdFirst = false ∨ u.requester = .announce) :
    s.parityTasks u holdFirst = [.report u.requester u.cls u.handle .failed, .arbitrate] := by
  refine if_neg fun ⟨first, _, other⟩ => ?_
  obtain h | h := h
  · rw [first] at h
    cases h
  · exact other h

theorem State.parityTasks_holdFirst {s : State} {u : Utterance} (due : s.fb.holdDue = true) (other : u.requester ≠ .announce) :
    s.parityTasks u true = [.arbitrate, .holdEntry, .report u.requester u.cls u.handle .failed] := if_pos ⟨rfl, due, other⟩

/-- The hold entry in quiet speech pauses the lessons and no more. -/
theorem Leads.holdEntry_quiet {s : State} (due : s.fb.holdDue = true) (thawed : s.fb.frozen = false) (quiet : s.speechQuiet) :
    Leads 2 s [.holdEntry] s.contextsHeld := by
  have quiet' : s.contextsHeld.speechQuiet := State.speechQuiet_congr quiet s.se_contextsHeld
  have still : s.contextsHeld.cancelLessons = s.contextsHeld := cancel_quiet quiet' _
  exact .acts thawed ((runLessonTask_holdEntry due).trans (by rw [still])) (.arbitrate_quiet quiet')

/-- A report to a context that has dropped its handle is ignored (R30). -/
theorem Leads.reportIgnored {s : State} {x : Seat} {cls : SpeechClass} {k : Nat} {st : EndStatus} (thawed : s.fb.frozen = false)
    (dropped : (s.ctx x).firm = none) : Leads 1 s [.report (.seat x) cls k st] s :=
  .ends thawed (if_neg (by simp [dropped]))

section Ends

variable {s : State} {v : Voice} {p : Playing} {id : Nat} {c : Clip} (released : s.resetHeld = false)
  (h : s.soloVoice v p id c) (first : p.index = 0)
include released h first

/-- An announcement ends FAILED. -/
theorem clipParity_announcement (holdFirst : Bool) (own : p.utterance.requester = .announce) :
    ∃ t : State, exec (.clipParity v holdFirst) s = .next t ∧ t.speechQuiet ∧
      t.clip id = some { c with state := .bad, badCause := some .parity, pins := c.pins - 1 } ∧
      t.se.lastAnnounce = some ⟨p.utterance.handle, .failed⟩ ∧
      t.fb.audio.held = some (holdFault s.fb.audio.held
        ⟨false, .clipParity, s.fb.audio.mask.getLsbD 9, .clip id, 0, some true⟩) ∧
      (s.fb.audio.mask.getLsbD 9 = true → s.fb.condition = .normal → t.fb.condition = .hold ∧ t.fb.holdDue = true) ∧
      (s.fb.audio.mask.getLsbD 9 = true → s.fb.condition = .hold → t.fb.condition = .lockdown) ∧
      (s.fb.audio.mask.getLsbD 9 = false → t.fb.condition = s.fb.condition) ∧
      t.ae = s.ae ∧ t.dc = s.dc ∧ t.fixed = s.fixed := by
  obtain ⟨fb, au, cs, only⟩ := s.parityNoted_only v id c
  have quiet : ((s.parityNoted v id c).noteAnnouncement p.utterance.handle .failed).speechQuiet := by
    have noted := (speechQuiet_iff _).1 (State.quiet_parityNoted h)
    exact (speechQuiet_iff _).2 noted
  have leads : Leads 2 (s.parityNoted v id c) ((s.parityNoted v id c).parityTasks p.utterance holdFirst)
      ((s.parityNoted v id c).noteAnnouncement p.utterance.handle .failed) := by
    rw [State.parityTasks_reportFirst (.inr own), own]
    exact (Leads.announcementEnds _ _ _ _).cons (.arbitrate_quiet quiet)
  exact ⟨_, exec_clipParity h released first leads (by decide), quiet, State.clip_parityNoted h, rfl, s.held_parityNoted v id c,
    State.parityNoted_entersHold v id c, State.parityNoted_entersLockdown v id c, State.parityNoted_mild v id c,
    by exact (congrArg (·.ae) only), by exact (congrArg (·.dc) only), State.fixed_parityNoted h⟩

end Ends

section PromptEnds

variable {s : State} {v : Voice} {p : Playing} {id : Nat} {c : Clip} {x : Seat}


/-- With HOLD taken first the context is paused and ignores the report. -/
theorem clipParity_promptHeld (released : s.resetHeld = false) (h : s.soloVoice v p id c) (first : p.index = 0)
    (own : p.utterance.requester = .seat x) (solo : (s.ctx x).mode = .solo) (prompting : (s.ctx x).state = .prompting)
    (thawed : s.fb.frozen = false) (normal : s.fb.condition = .normal) (enabled : s.fb.audio.mask.getLsbD 9 = true) :
    ∃ t : State, exec (.clipParity v true) s = .next t ∧ t.speechQuiet ∧
      t.clip id = some { c with state := .bad, badCause := some .parity, pins := c.pins - 1 } ∧
      t.fb.condition = .hold ∧ t.fb.holdDue = false ∧
      t.ctx x = { s.ctx x with state := .paused, pauseCause := some .hold, firm := none, idleRunning := false } ∧
      t.rl = s.rl ∧ t.ps = s.ps ∧ t.wt = s.wt ∧ t.se.lastAnnounce = s.se.lastAnnounce ∧ t.fixed = s.fixed := by
  obtain ⟨z, hz⟩ : ∃ z, z = s.parityNoted v id c := ⟨_, rfl⟩
  obtain ⟨fb, au, cs, only⟩ := s.parityNoted_only v id c
  obtain ⟨hold, due⟩ := State.parityNoted_entersHold v id c enabled normal
  have thawedZ := (s.frozen_parityNoted v id c).trans thawed
  have quietZ := State.quiet_parityNoted h
  have clipZ := State.clip_parityNoted h
  have fixedZ := State.fixed_parityNoted h
  have acted {k : Nat} {t : State} := exec_clipParity (holdFirst := true) (k := k) (t := t) h released first
  rw [← hz] at only hold due thawedZ quietZ clipZ fixedZ
  simp only [← hz] at acted
  have ctxZ : z.ctx x = s.ctx x := by rw [only]; rfl
  obtain ⟨ae, held⟩ := z.contextsHeld_only
  have ctx := z.ctx_contextsHeld x
  rw [ctxZ, if_pos (Or.inl ⟨solo, Or.inl prompting⟩)] at ctx
  have leads : Leads 4 z (z.parityTasks p.utterance true) z.contextsHeld := by
    rw [State.parityTasks_holdFirst due (by rw [own]; exact nofun), own]
    exact (Leads.arbitrate_quiet quietZ).cons ((Leads.holdEntry_quiet due thawedZ quietZ).cons
      (.reportIgnored (by rw [held]; exact thawedZ) (by rw [ctx]; rfl)))
  have fixed : z.contextsHeld.fixed = s.fixed := by
    rw [← leads.carryOut (by decide), State.fixed_carryOut, fixedZ]
  have lastAnnounce : z.se.lastAnnounce = s.se.lastAnnounce := by
    rw [only]
    cases v <;> rfl
  refine ⟨_, acted leads (by decide), State.speechQuiet_congr quietZ z.se_contextsHeld,
    (State.clip_congr (congrArg (·.directory) z.cs_contextsHeld) id).trans clipZ, ?_, ?_, ctx, ?_, ?_, ?_, ?_, fixed⟩
  · rw [held]
    exact hold
  · rw [held]
  · rw [held, only]
  · rw [held, only]
  · rw [held, only]
  · rw [z.se_contextsHeld, lastAnnounce]

/-- With the report taken first the context goes to TYPING, and the hold entry is outstanding. -/
theorem clipParity_promptFailed (released : s.resetHeld = false) (h : s.soloVoice v p id c) (first : p.index = 0)
    (own : p.utterance.requester = .seat x) (prompt : p.utterance.cls = .prompt)
    (firm : (s.ctx x).firm = some p.utterance.handle) (prompting : (s.ctx x).state = .prompting)
    (idle : s.inFlight x = false) (keys : (s.seat x).keys = []) (thawed : s.fb.frozen = false)
    (normal : s.fb.condition = .normal) (enabled : s.fb.audio.mask.getLsbD 9 = true) :
    ∃ t : State, exec (.clipParity v false) s = .next t ∧ t.speechQuiet ∧
      t.clip id = some { c with state := .bad, badCause := some .parity, pins := c.pins - 1 } ∧
      t.fb.condition = .hold ∧ t.fb.holdDue = true ∧ t.ctx x.other = s.ctx x.other ∧
      t.ctx x = ({ s.ctx x with firm := none } : Context).prompted s.cfg.idleLimit s.tb.counter false ∧
      t.rl = s.rl ∧ t.ps = s.ps ∧ t.wt = s.wt ∧ t.se.lastAnnounce = s.se.lastAnnounce ∧ t.fixed = s.fixed := by
  obtain ⟨z, hz⟩ : ∃ z, z = s.parityNoted v id c := ⟨_, rfl⟩
  obtain ⟨fb, au, cs, only⟩ := s.parityNoted_only v id c
  obtain ⟨hold, due⟩ := State.parityNoted_entersHold v id c enabled normal
  have thawedZ := (s.frozen_parityNoted v id c).trans thawed
  have quietZ := State.quiet_parityNoted h
  have clipZ := State.clip_parityNoted h
  have fixedZ := State.fixed_parityNoted h
  have acted {k : Nat} {t : State} := exec_clipParity (holdFirst := false) (k := k) (t := t) h released first
  rw [← hz] at only hold due thawedZ quietZ clipZ fixedZ
  simp only [← hz] at acted
  have ctxZ (y : Seat) : z.ctx y = s.ctx y := by rw [only]; rfl
  have ended := Leads.promptEnds (s := z) (x := x) (k := p.utterance.handle) (st := .failed) (by rw [ctxZ]; exact firm)
    (by rw [ctxZ]; exact prompting) (by rw [only]; exact keys) thawedZ
  have timing : z.cfg.idleLimit = s.cfg.idleLimit ∧ z.tb.counter = s.tb.counter ∧ z.inFlight x = false := by
    rw [only]
    exact ⟨rfl, rfl, idle⟩
  rw [ctxZ, timing.1, timing.2.1, timing.2.2] at ended
  obtain ⟨t, ht⟩ : ∃ t, t = z.setCtx x (({ s.ctx x with firm := none } : Context).prompted s.cfg.idleLimit s.tb.counter false) :=
    ⟨_, rfl⟩
  rw [← ht] at ended
  have quietT : t.speechQuiet := State.speechQuiet_congr quietZ (by rw [ht]; rfl)
  have leads : Leads 4 z (z.parityTasks p.utterance false) t := by
    rw [State.parityTasks_reportFirst (.inl rfl), own, prompt]
    exact ended.cons (.arbitrate_quiet quietT)
  have fixed : t.fixed = s.fixed := by rw [← leads.carryOut (by decide), State.fixed_carryOut, fixedZ]
  have lastAnnounce : z.se.lastAnnounce = s.se.lastAnnounce := by
    rw [only]
    cases v <;> rfl
  refine ⟨t, acted leads (by decide), quietT, ?_, ?_, ?_, ?_, ?_, ?_, ?_, ?_, ?_, fixed⟩
  · rw [ht]
    exact clipZ
  · rw [ht]
    exact hold
  · rw [ht]
    exact due
  · rw [ht, State.ctx_setCtx_other, ctxZ]
  · rw [ht, State.ctx_setCtx_self]
  · rw [ht, State.setCtx_rl, only]
  · rw [ht, State.setCtx_ps, only]
  · rw [ht, State.setCtx_wt, only]
  · rw [ht]
    exact lastAnnounce

end PromptEnds

/-- Settles O40: CLIP_PARITY makes the clip BAD and fails the utterance, and the operand says what the context hears first. -/
theorem parityErrorFailsTheUtterance : Obligations.ParityErrorFailsTheUtterance := by
  intro s v holdFirst p id c released playing other waiting first clips clip ready
  have h : s.soloVoice v p id c := ⟨playing, other, waiting, clips, clip, ready⟩
  refine ⟨clipParity_announcement released h first holdFirst,
    fun x own prompt firm solo prompting idle keys thawed normal enabled => ?_⟩
  cases holdFirst with
  | true =>
    obtain ⟨t, acted, quiet, bad, hold, due, ctx, kept⟩ :=
      clipParity_promptHeld released h first own solo prompting thawed normal enabled
    exact ⟨t, acted, quiet, bad, hold, fun _ => ⟨due, ctx⟩, nofun, kept⟩
  | false =>
    obtain ⟨t, acted, quiet, bad, hold, due, others, ctx, kept⟩ :=
      clipParity_promptFailed released h first own prompt firm prompting idle keys thawed normal enabled
    refine ⟨t, acted, quiet, bad, hold, nofun, fun _ => ⟨due, others, ctx.trans ?_⟩, kept⟩
    unfold Context.prompted
    cases (s.ctx x).startTick <;> rfl

end Sys2Proof.Machine
end

section
/-! What follows a finished duel: the acts of SE and of the seats, which leave the duel record and the pending causes (R30, R87). -/

namespace Sys2Proof.Machine

/-! ### What a cascade of the seats keeps -/

/-- The duel record but for judgements in flight is as it was, and no pending cause has gone. -/
structure Aside (s t : State) : Prop where
  dc : ∃ j, t.dc = { s.dc with judgements := j }
  pending : ∀ k, s.isPending k = true → t.isPending k = true

theorem Aside.of {s t : State} (dc : t.dc = s.dc) (au : t.au = s.au) : Aside s t where
  dc := ⟨s.dc.judgements, dc⟩
  pending k h := by rwa [State.isPending, au]

theorem Aside.refl (s : State) : Aside s s := .of rfl rfl

theorem Aside.trans {s t u : State} (h : Aside s t) (g : Aside t u) : Aside s u where
  dc := by
    obtain ⟨i, first⟩ := h.dc
    obtain ⟨j, second⟩ := g.dc
    exact ⟨j, second.trans (by rw [first])⟩
  pending k p := g.pending k (h.pending k p)

theorem Aside.raises {s t : State} {P : Cause → Prop} (dc : t.dc = s.dc) (h : Raises P s t) : Aside s t :=
  ⟨⟨s.dc.judgements, dc⟩, h.1⟩

theorem Aside.keep {s t u : State} (h : Aside s t) (dc : u.dc = t.dc) (au : u.au = t.au) : Aside s u := h.trans (.of dc au)

theorem Aside.raise (s : State) (c : Cause) : Aside s (s.raise c) := .raises rfl (Raises.raise s c)

/-- A task of SE or of a seat in solo practice or at its keys. -/
def Task.ofSeat : Task → Bool
  | .arbitrate | .report .. | .say .. | .firm .. | .completed .. | .takeKeys _ | .judge .. | .endSolo .. | .append _
  | .goOn _ | .present _ => true
  | _ => false

/-- An act that leaves the duel aside and leads to tasks that do. -/
def Act.aside (s : State) (a : Act) : Prop := Aside s a.1 ∧ a.2.all Task.ofSeat = true

/-! ### Speech -/

theorem Aside.unpinAll (s : State) (clips : List Nat) : Aside s (s.unpinAll clips) :=
  .raises (SpeechOnly.unpinAll clips s).dc ((Released.refl s).unpinAll clips).raises

theorem Aside.enqueue (s : State) (r : Requester) (cls : SpeechClass) (route : BitVec 3) (clips : List Nat) :
    Aside s (s.enqueue r cls route clips).2 := by
  refine .of (SpeechOnly.enqueue s r cls route clips).dc ?_
  rw [← s.au_pinAll clips]
  unfold State.enqueue
  rcases r with (_ | _) | _ | _ <;> rfl

theorem Aside.cancel (s : State) (p : Utterance → Bool) : Aside s (s.cancel p) := by
  have silent : Aside s { s with se := s.se.without p } := .of rfl rfl
  rw [State.cancel_eq]
  split
  · exact (silent.trans (.unpinAll _ _)).trans (.of rfl rfl)
  · exact silent.trans (.unpinAll _ _)

theorem Aside.cancelHandle (s : State) (h : Option Nat) : Aside s (s.cancelHandle h) := by
  cases h with
  | none => exact .refl s
  | some k => exact .cancel s _

theorem Aside.freeVoice (s : State) (v : Voice) : Aside s (s.freeVoice v) := by
  unfold State.freeVoice
  split
  · exact Aside.trans (t := s.setVoice v none) (.of (by cases v <;> rfl) (by cases v <;> rfl)) (.unpinAll _ _)
  · exact .refl s

theorem Aside.startUtterance (s : State) (v : Voice) (u : Utterance) : Aside s (s.startUtterance v u) := by
  rw [State.startUtterance_eq]
  rcases u.requester with (_ | _) | _ | _ <;> cases v <;> exact .of rfl rfl

theorem Aside.acceptSeat {s t : State} {x : Seat} {cls : SpeechClass} {clips : List Nat} {k : Nat}
    (accepted : s.acceptSeat x cls clips = some (k, t)) : Aside s t := by
  unfold State.acceptSeat at accepted
  split at accepted
  · split at accepted
    · rename_i u room
      cases accepted
      refine Aside.trans (t := u) ?_ (.enqueue _ _ _ _ _)
      obtain ⟨-, same⟩ | ⟨w, -, rfl⟩ := State.makeRoom_cases room
      · rw [same]
        exact .refl s
      · exact Aside.trans (t := s.setSpeechQueue (.seat x) ((s.speechQueue (.seat x)).erase w))
          (.of (by cases x <;> rfl) (by cases x <;> rfl)) (.unpinAll _ _)
    · cases accepted
  · cases accepted

section Acts

variable (s : State) (x : Seat)

theorem State.arbitrate_aside : Act.aside s s.arbitrate := by
  obtain idle | ⟨v, u, -, -, starts | ⟨-, fails⟩⟩ := s.arbitrate_cases
  · rw [idle]
    exact ⟨.refl s, rfl⟩
  · rw [starts]
    exact ⟨.startUtterance s v u, rfl⟩
  · rw [fails]
    exact ⟨(Aside.startUtterance s v u).trans (.freeVoice _ v), rfl⟩

theorem State.reportToSeat_aside (cls : SpeechClass) (k : Nat) : Act.aside s (s.reportToSeat x cls k) := by
  unfold State.reportToSeat
  split
  · exact ⟨.of rfl rfl, rfl⟩
  · exact ⟨.refl s, rfl⟩

theorem State.reportToDuel_aside {s : State} (dropped : s.dc.firm = none) (cls : SpeechClass) (k : Nat) :
    Act.aside s (s.reportToDuel cls k) := by
  have ignored : s.reportToDuel cls k = (s, []) := if_neg (by simp [dropped])
  rw [ignored]
  exact ⟨.refl s, rfl⟩

theorem State.placeDisposable_aside (cls : SpeechClass) (clips : List Nat) : Act.aside s (s.placeDisposable x cls clips) := by
  unfold State.placeDisposable
  split
  · exact ⟨.refl s, rfl⟩
  · split
    · rename_i accepted
      exact ⟨.acceptSeat accepted, rfl⟩
    · exact ⟨.refl s, rfl⟩

theorem State.placeFirm_aside (cls : SpeechClass) (clips : List Nat) : Act.aside s (s.placeFirm x cls clips) := by
  unfold State.placeFirm
  split
  · exact ⟨.refl s, rfl⟩
  · split
    · rename_i accepted
      exact ⟨(Aside.acceptSeat accepted).trans (.of rfl rfl), rfl⟩
    · exact ⟨.refl s, rfl⟩

/-! ### Prompts and keys -/

theorem Aside.completePrompt : Aside s (s.completePrompt x) := by
  unfold State.completePrompt
  dsimp only
  split
  · exact .of rfl rfl
  · exact .refl s

theorem Aside.bargeIn : Aside s (s.bargeIn x) := by
  have cancelled := Aside.cancelHandle s (s.ctx x).firm
  unfold State.bargeIn
  refine Aside.trans ?_ (Aside.completePrompt _ x)
  exact cancelled.keep rfl rfl

theorem State.completeFirm_aside (cls : SpeechClass) : Act.aside s (s.completeFirm x cls) := by
  unfold State.completeFirm
  split
  · split
    · exact ⟨.refl s, rfl⟩
    · exact ⟨.refl s, rfl⟩
  · exact ⟨.completePrompt s x, rfl⟩

theorem Aside.dropKey : Aside s (s.dropKey x) := .of rfl rfl

theorem State.takeKey_aside : Act.aside s (s.takeKey x) := by
  unfold State.takeKey
  split
  · exact ⟨.refl s, rfl⟩
  · split
    · exact ⟨.refl s, rfl⟩
    · exact ⟨.dropKey s x, rfl⟩
    · exact ⟨.dropKey s x, rfl⟩
    · exact ⟨(Aside.dropKey s x).trans (.bargeIn _ x), rfl⟩

theorem State.advanceCursor_aside (c : Context) {said : List Task} (h : said.all Task.ofSeat = true) :
    Act.aside s (s.advanceCursor x c said) := by
  refine ⟨.of rfl rfl, ?_⟩
  unfold State.advanceCursor
  dsimp only
  split
  · rw [List.all_append, h]
    rfl
  · exact h

theorem State.letterwiseLetter_aside (l : Nat) : Act.aside s (s.letterwiseLetter x l) := by
  unfold State.letterwiseLetter
  dsimp only
  split
  · exact ⟨.refl s, rfl⟩
  · split
    · refine State.advanceCursor_aside s x _ ?_
      split <;> rfl
    · split
      · exact State.advanceCursor_aside s x _ rfl
      · exact ⟨.of rfl rfl, rfl⟩

theorem State.repeatKey_aside : Act.aside s (s.repeatKey x) := by
  unfold State.repeatKey
  dsimp only
  split
  · exact ⟨.of rfl rfl, rfl⟩
  · exact ⟨.refl s, rfl⟩

theorem State.wordwiseLetter_aside (l : Nat) : Act.aside s (s.wordwiseLetter x l) := by
  unfold State.wordwiseLetter
  dsimp only
  split
  · refine ⟨.of rfl rfl, ?_⟩
    dsimp only
    split <;> rfl
  · exact ⟨.refl s, rfl⟩

theorem State.wordwiseBack_aside : Act.aside s (s.wordwiseBack x) := by
  unfold State.wordwiseBack
  dsimp only
  split
  · exact ⟨.refl s, rfl⟩
  · exact ⟨.of rfl rfl, rfl⟩

theorem State.wordwiseHint_aside : Act.aside s (s.wordwiseHint x) := by
  unfold State.wordwiseHint
  dsimp only
  split
  · exact ⟨.of rfl rfl, rfl⟩
  · split
    · exact ⟨.of rfl rfl, rfl⟩
    · exact ⟨.refl s, rfl⟩

/-- A submission of a seat in a duel is the one act at a seat that writes to the duel record: a judgement in flight. -/
theorem Aside.handJudgement (c : Context) (equal : Bool) : Aside s (s.handJudgement x c equal) := ⟨⟨_, rfl⟩, fun _ h => h⟩

theorem State.wordwiseEnter_aside : Act.aside s (s.wordwiseEnter x) := by
  unfold State.wordwiseEnter
  dsimp only
  split
  · exact ⟨.refl s, rfl⟩
  · split
    · exact ⟨.handJudgement s x _ _, rfl⟩
    · split
      · exact ⟨.of rfl rfl, rfl⟩
      · split
        · exact ⟨.of rfl rfl, rfl⟩
        · exact ⟨.of rfl rfl, rfl⟩

theorem State.handleKey_aside (k : KeyCode) : Act.aside s (s.handleKey x k) := by
  unfold State.handleKey
  split
  · exact ⟨.refl s, rfl⟩
  · exact s.repeatKey_aside x
  · exact s.letterwiseLetter_aside x _
  · exact ⟨.refl s, rfl⟩
  · exact ⟨.refl s, rfl⟩
  · exact ⟨.of rfl rfl, rfl⟩
  · exact s.wordwiseLetter_aside x _
  · exact s.wordwiseBack_aside x
  · exact s.wordwiseEnter_aside x
  · exact s.wordwiseHint_aside x

theorem State.judgeKey_aside (k : KeyCode) : Act.aside s (s.judgeKey x k) := by
  obtain ⟨handled, tasks⟩ := (s.consumeKey x).handleKey_aside x k
  have done : Aside s ((s.consumeKey x).handleKey x k).1 := Aside.trans (t := s.consumeKey x) (.of rfl rfl) handled
  unfold State.judgeKey afterKey
  split
  · exact ⟨done.trans (.of rfl rfl), tasks⟩
  · exact ⟨done, tasks⟩

/-! ### Solo practice -/

theorem Aside.applyUpdate (n : Nat) (u : Option ProgressUpdate) : Aside s (s.applyUpdate n u) := by
  rw [State.applyUpdate_only]
  exact .of rfl rfl

theorem Aside.reinsert (q : WordQueue) (n : Nat) (r : Reinsert) : Aside s (s.reinsert q n r) := by
  rw [State.reinsert_only]
  exact .of rfl rfl

theorem Aside.setWordQueue (q : WordQueue) (l : List Nat) : Aside s (s.setWordQueue q l) := by
  cases q <;> exact .of rfl rfl

theorem Aside.draw (q : WordQueue) (limit : Nat) : ∀ (k : Nat) (s : State), Aside s (State.draw q limit k s)
  | 0, s => .refl s
  | k + 1, s => by
    unfold State.draw
    split
    · split
      · exact (Aside.setWordQueue s q _).trans (Aside.draw q limit k _)
      · exact .refl s
    · exact .refl s

theorem Aside.refillSeat : Aside s (s.refillSeat x) := by
  unfold State.refillSeat
  split
  · exact .draw _ _ _ s
  · exact .refl s

theorem Aside.recordFault (code : FaultCode) (context : FaultContext) (detail : Nat) (r : Option Bool) :
    Aside s (s.recordFault code context detail r) := by
  refine ⟨⟨s.dc.judgements, s.recordFault_dc code context detail r⟩, fun k h => ?_⟩
  unfold State.recordFault
  dsimp only
  split
  · exact (Raises.raise _ .fault).1 k h
  · exact h

theorem Aside.appendRecord (r : ResultRecord) : Aside s (s.appendRecord r) := by
  have evaluated (t : State) (dc : t.dc = s.dc) (au : t.au = s.au) : Aside s t.evaluateThreshold := by
    unfold State.evaluateThreshold
    dsimp only
    split
    · exact Aside.trans (t := { t with rl := { t.rl with threshold := decide (t.cfg.logThreshold < t.rl.records.length) } })
        (.of dc au) (.raise _ _)
    · exact .of dc au
  unfold State.appendRecord
  dsimp only
  split
  · refine Aside.trans ?_ (Aside.raise _ _)
    exact evaluated _ rfl rfl
  · exact evaluated _ rfl rfl

theorem State.idleSeat_aside : Act.aside s (s.idleSeat x) := ⟨.of rfl rfl, rfl⟩

theorem State.endSolo_aside (o : AttemptEnd) : Act.aside s (s.endSolo x o) := by
  unfold State.endSolo
  dsimp only
  split
  · rename_i n _ _ _
    have released (t : State) (r : Reinsert) : Aside t (t.releaseTarget x n r) := by
      unfold State.releaseTarget
      refine Aside.trans ?_ (Aside.refillSeat _ x)
      refine Aside.trans ?_ (Aside.reinsert _ _ _ _)
      exact .of rfl rfl
    have updated : Aside s (((s.setCtx x { s.ctx x with idleRunning := false, firm := none }).applyUpdate n
        (s.progressFor n o (s.ctx x).lastMistake)).releaseTarget x n o.reinsert) := by
      refine Aside.trans ?_ (released _ _)
      refine Aside.trans ?_ (Aside.applyUpdate _ _ _)
      exact .of rfl rfl
    split
    · exact ⟨updated.trans (.of rfl rfl), rfl⟩
    · exact ⟨updated.trans (.of rfl rfl), rfl⟩
  · exact ⟨.refl s, rfl⟩

theorem State.appendSolo_aside : Act.aside s (s.appendSolo x) := by
  unfold State.appendSolo
  split
  · exact ⟨.refl s, rfl⟩
  · rename_i r _
    split
    · exact ⟨Aside.trans (t := s.setCtx x { s.ctx x with pendingRecord := none }) (.of rfl rfl) (.appendRecord _ r), rfl⟩
    · exact ⟨.of rfl rfl, rfl⟩

theorem State.goOnSolo_aside : Act.aside s (s.goOnSolo x) := by
  unfold State.goOnSolo
  split
  · exact s.idleSeat_aside x
  · exact ⟨.refl s, rfl⟩

theorem Aside.readTarget (n : Nat) (b : Bool) : Aside s (s.readTarget n b).1 := by
  unfold State.readTarget
  split
  · exact .refl s
  · exact Aside.trans (t := s.setSlot n .damaged) (.of rfl rfl) (.recordFault _ _ _ _ _)
  · exact .refl s
  · exact .refl s

theorem State.startAttempt_aside (n : Nat) (e : WordEntry) : Act.aside s (s.startAttempt x n e) := by
  unfold State.startAttempt
  dsimp only
  split
  · exact ⟨.of rfl rfl, rfl⟩
  · exact ⟨Aside.trans (t := (s.updateRests n e.owner).setCtx x
      { ((s.updateRests n e.owner).ctx x).newAttempt n e with state := .prompting }) (.of rfl rfl) (.recordFault _ _ _ _ _), rfl⟩

theorem State.presentSolo_aside : Act.aside s (s.presentSolo x) := by
  unfold State.presentSolo
  dsimp only
  split
  · exact ⟨.of rfl rfl, rfl⟩
  · have filled := Aside.refillSeat s x
    split
    · exact ⟨filled.trans (Aside.trans (t := (s.refillSeat x).setCtx x { (s.refillSeat x).ctx x with
        state := .done, pauseCause := none, idleRunning := false }) (.of rfl rfl) (.raise _ _)), rfl⟩
    · rename_i n rest _
      have drawn := filled.trans (.setWordQueue _ (.practice x) rest)
      have read := drawn.trans (.readTarget _ n true)
      split
      · rename_i s2 result
        rw [result] at read
        exact ⟨read, rfl⟩
      · rename_i s2 e result
        rw [result] at read
        obtain ⟨started, tasks⟩ := s2.startAttempt_aside x n e
        exact ⟨read.trans started, tasks⟩

end Acts

/-! ### The cascade -/

theorem runTask_aside {s : State} {task : Task} (seat : task.ofSeat = true) (dropped : s.dc.firm = none) :
    Act.aside s (runTask task s) := by
  unfold runTask
  split
  · exact ⟨.refl s, rfl⟩
  · cases task with
    | arbitrate => exact s.arbitrate_aside
    | report r cls k st =>
      cases r with
      | seat x => exact s.reportToSeat_aside x cls k
      | duel => exact State.reportToDuel_aside dropped cls k
      | announce => exact ⟨.of rfl rfl, rfl⟩
    | say x cls clips => exact s.placeDisposable_aside x cls clips
    | firm x cls clips => exact s.placeFirm_aside x cls clips
    | completed x cls => exact s.completeFirm_aside x cls
    | takeKeys x => exact s.takeKey_aside x
    | judge x k => exact s.judgeKey_aside x k
    | endSolo x o => exact s.endSolo_aside x o
    | append x => exact s.appendSolo_aside x
    | goOn x => exact s.goOnSolo_aside x
    | present x => exact s.presentSolo_aside x
    | _ => cases seat

/-- A cascade that begins with tasks of SE and the seats, with no utterance of DC expected, leaves the duel record but for
judgements in flight, and the pending causes. -/
theorem Aside.drain {s : State} {ts : List Task} (seats : ts.all Task.ofSeat = true) (dropped : s.dc.firm = none) (k : Nat) :
    Aside s (drain k ts s) := by
  refine drain_keeps_tasks (P := Aside s) (Q := fun task => task.ofSeat = true) (fun task u seat on => ?_) k ts s
    (List.all_eq_true.1 seats) (.refl s)
  have droppedU : u.dc.firm = none := by
    obtain ⟨j, same⟩ := on.dc
    rw [same]
    exact dropped
  obtain ⟨ran, tasks⟩ := runTask_aside seat droppedU
  exact ⟨on.trans ran, List.all_eq_true.1 tasks⟩

end Sys2Proof.Machine
end

section
/-! Contexts at rest: in IDLE or WAITING_LOG with no utterance expected, they take no part in what follows (R25, R30, R87). -/

namespace Sys2Proof.Machine

/-- A context that expects no utterance and stands in IDLE or WAITING_LOG. -/
def Context.rests (c : Context) : Prop := c.firm = none ∧ (c.state = .idle ∨ c.state = .waitingLog)

/-- SE has gone on, and keys have been taken from the heads of the key queues; nothing else has changed. -/
structure Rested (s t : State) : Prop where
  only : ∃ ks se cs au, t = { s with ks := ks, se := se, cs := cs, au := au }
  seats : ∀ x, ∃ n, t.seat x = { s.seat x with keys := (s.seat x).keys.drop n }

/-- A task that a context at rest ignores or that empties its key queue. -/
def Task.ofRest : Task → Bool
  | .arbitrate | .report .. | .takeKeys _ => true
  | _ => false

section

variable {s t u : State}

theorem Rested.refl (s : State) : Rested s s := ⟨⟨_, _, _, _, rfl⟩, fun _ => ⟨0, rfl⟩⟩

theorem Rested.trans (h : Rested s t) (g : Rested t u) : Rested s u where
  only := by
    obtain ⟨ks, se, cs, au, first⟩ := h.only
    obtain ⟨ks', se', cs', au', second⟩ := g.only
    exact ⟨ks', se', cs', au', second.trans (by rw [first])⟩
  seats x := by
    obtain ⟨n, first⟩ := h.seats x
    obtain ⟨m, second⟩ := g.seats x
    refine ⟨n + m, second.trans ?_⟩
    rw [first, List.drop_drop]

theorem Rested.of_speech (h : SpeechOnly s t) : Rested s t where
  only := ⟨s.ks, t.se, t.cs, t.au, h⟩
  seats x := ⟨0, by rw [State.seat, h.ks]; rfl⟩

theorem Rested.dropKey (s : State) (x : Seat) : Rested s (s.dropKey x) where
  only := ⟨_, _, _, _, rfl⟩
  seats y := by
    by_cases same : y = x
    · rw [same]
      exact ⟨1, State.seat_setSeat_self s x _⟩
    · exact ⟨0, (State.seat_setSeat s x y _).trans (if_neg same)⟩

variable (h : Rested s t)
include h

theorem Rested.ctx (x : Seat) : t.ctx x = s.ctx x := by
  obtain ⟨ks, se, cs, au, only⟩ := h.only
  rw [only]
  rfl

theorem Rested.dc : t.dc = s.dc := by
  obtain ⟨ks, se, cs, au, only⟩ := h.only
  rw [only]

theorem Rested.keeps : t.rl = s.rl ∧ t.ps = s.ps ∧ t.wt = s.wt ∧ t.fb = s.fb := by
  obtain ⟨ks, se, cs, au, only⟩ := h.only
  rw [only]
  exact ⟨rfl, rfl, rfl, rfl⟩

theorem Rested.keys {x : Seat} (empty : (s.seat x).keys = []) : (t.seat x).keys = [] := by
  obtain ⟨n, seat⟩ := h.seats x
  rw [seat, empty, List.drop_nil]

end

theorem State.takeKey_rests {s : State} {x : Seat} (rests : (s.ctx x).rests) :
    Rested s (s.takeKey x).1 ∧ (s.takeKey x).2.all Task.ofRest = true := by
  obtain ⟨-, idle | waiting⟩ := rests
  · cases queue : (s.seat x).keys with
    | nil =>
      rw [State.takeKey, queue]
      exact ⟨.refl s, rfl⟩
    | cons k ks =>
      rw [State.takeKey_discards (.inl idle) queue]
      exact ⟨.dropKey s x, rfl⟩
  · rw [State.takeKey_keep (.inl waiting)]
    exact ⟨.refl s, rfl⟩

theorem State.arbitrate_rests (s : State) : s.arbitrate.2.all Task.ofRest = true := by
  obtain idle | ⟨v, u, -, -, starts | ⟨-, fails⟩⟩ := s.arbitrate_cases
  · rw [idle]
    rfl
  · rw [starts]
    rfl
  · rw [fails]
    rfl

theorem runTask_rests {s : State} {task : Task} (rest : task.ofRest = true) (rests : ∀ x, (s.ctx x).rests)
    (dropped : s.dc.firm = none) : Rested s (runTask task s).1 ∧ (runTask task s).2.all Task.ofRest = true := by
  unfold runTask
  split
  · exact ⟨.refl s, rfl⟩
  · cases task with
    | arbitrate => exact ⟨.of_speech (.arbitrate s), s.arbitrate_rests⟩
    | report r cls k st =>
      cases r with
      | seat x =>
        have ignored : s.reportToSeat x cls k = (s, []) := if_neg (by simp [(rests x).1])
        rw [show runLessonTask (.report (.seat x) cls k st) s = (s, []) from ignored]
        exact ⟨.refl s, rfl⟩
      | duel =>
        have ignored : s.reportToDuel cls k = (s, []) := if_neg (by simp [dropped])
        rw [show runLessonTask (.report .duel cls k st) s = (s, []) from ignored]
        exact ⟨.refl s, rfl⟩
      | announce => exact ⟨.of_speech rfl, rfl⟩
    | takeKeys x => exact State.takeKey_rests (rests x)
    | _ => cases rest

/-- Where both contexts are at rest and DC expects no utterance, SE goes on by itself and keys are discarded or kept. -/
theorem Rested.drain {s : State} {ts : List Task} (tasks : ts.all Task.ofRest = true) (rests : ∀ x, (s.ctx x).rests)
    (dropped : s.dc.firm = none) (k : Nat) : Rested s (drain k ts s) := by
  refine drain_keeps_tasks (P := Rested s) (Q := fun task => task.ofRest = true) (fun task u rest on => ?_) k ts s
    (List.all_eq_true.1 tasks) (.refl s)
  obtain ⟨ran, next⟩ := runTask_rests rest (fun x => by rw [on.ctx]; exact rests x) (by rw [on.dc]; exact dropped)
  exact ⟨on.trans ran, List.all_eq_true.1 next⟩

end Sys2Proof.Machine
end

section
/-! A round is broken off: what each step leaves of the contexts, the duel record, the keys and the log (R88). -/

namespace Sys2Proof.Machine

/-! ### The utterances are cancelled (R88 step 1) -/

/-- A context that expects no utterance. -/
def Context.dropped (c : Context) : Context := { c with firm := none }

theorem State.cancelRound_only (s : State) : ∃ se cs au, s.cancelRound =
    { s with dc := { s.dc with firm := none }, ae := ⟨s.ae.a.dropped, s.ae.b.dropped⟩, se := se, cs := cs, au := au } := by
  obtain ⟨u, hu⟩ : ∃ u, u = ({ s with dc := { s.dc with firm := none }, ae := ⟨s.ae.a.dropped, s.ae.b.dropped⟩ } : State) :=
    ⟨_, rfl⟩
  have cancelled : s.cancelRound = ((u.cancelHandle s.dc.firm).cancelSeat .a).cancelSeat .b := by
    rw [hu]
    rfl
  have only : SpeechOnly u s.cancelRound := by
    rw [cancelled]
    exact ((SpeechOnly.cancelHandle u _).trans (.cancel _ _)).trans (.cancel _ _)
  rw [SpeechOnly] at only
  refine ⟨s.cancelRound.se, s.cancelRound.cs, s.cancelRound.au, only.trans ?_⟩
  rw [hu]

theorem State.pending_cancelRound (s : State) (k : Cause) (h : s.isPending k = true) : s.cancelRound.isPending k = true := by
  refine (Aside.cancel _ _).pending k ((Aside.cancel _ _).pending k ((Aside.cancelHandle _ _).pending k h))

/-! ### The attempts end (R88 step 2) -/

/-- A context whose attempt was broken off: in FEEDBACK, with nothing typed. -/
def Context.broken (c : Context) : Context :=
  { c with typed := [], idleRunning := false, firm := none, state := .feedback, pauseCause := none }

section BreakAttempt

variable (s : State) (x : Seat)

/-- The state in which a seat's attempt has been broken off. -/
def State.attemptBroken : State :=
  { s with
    ae := s.ae.set x (s.ctx x).broken
    dc := { s.dc with seats := s.dc.seats.set x (s.round x).abandoned }
    ks := (s.clearKeys x).ks }

variable {s x}

theorem State.breakAttempt_races (typing : (s.round x).status = some .typing) : s.breakAttempt x = s.attemptBroken x := by
  have races : s.races x = true := beq_iff_eq.2 typing
  have emptied : s.emptyTyped x = s.setCtx x { s.ctx x with typed := [] } := if_pos races
  obtain ⟨c, hc⟩ : ∃ c : Context, c = { s.ctx x with
    typed := [], idleRunning := false, firm := none, state := (s.ctx x).leftRace } := ⟨_, rfl⟩
  obtain ⟨d, hd⟩ : ∃ d, d = { s.dc with seats := s.dc.seats.set x (s.round x).abandoned } := ⟨_, rfl⟩
  obtain ⟨u, hu⟩ : ∃ u : State, u = { s with ae := s.ae.set x c, dc := d } := ⟨_, rfl⟩
  have ended : (s.setCtx x { s.ctx x with typed := [] }).endDuelAttempt x .abandoned = u := by
    rw [hu, hc, hd]
    cases x <;> rfl
  have ctx : u.ctx x = c := by
    rw [hu]
    cases x <;> rfl
  have feedback : c.toFeedback = (s.ctx x).broken := by
    rw [hc]
    rfl
  unfold State.breakAttempt
  rw [if_pos races, emptied, State.abandonSeat_of_typing (s := s.setCtx x { s.ctx x with typed := [] }) typing, ended]
  dsimp only
  rw [ctx, feedback, State.attemptBroken, ← hd, hu]
  cases x <;> rfl

theorem State.breakAttempt_out (out : (s.round x).status ≠ some .typing) : s.breakAttempt x = s :=
  if_neg fun races => out (beq_iff_eq.1 races)

variable (s x)

theorem State.breakAttempt_only : ∃ ae seats ks, s.breakAttempt x =
    { s with ae := ae, dc := { s.dc with seats := seats }, ks := ks } := by
  by_cases typing : (s.round x).status = some .typing
  · rw [State.breakAttempt_races typing]
    exact ⟨_, _, _, rfl⟩
  · rw [State.breakAttempt_out typing]
    exact ⟨s.ae, s.dc.seats, s.ks, rfl⟩

theorem State.breakAttempt_other : (s.breakAttempt x).ctx x.other = s.ctx x.other ∧
    (s.breakAttempt x).round x.other = s.round x.other ∧ (s.breakAttempt x).seat x.other = s.seat x.other := by
  by_cases typing : (s.round x).status = some .typing
  · rw [State.breakAttempt_races typing]
    cases x <;> exact ⟨rfl, rfl, rfl⟩
  · rw [State.breakAttempt_out typing]
    exact ⟨rfl, rfl, rfl⟩

variable {s x}

theorem State.breakAttempt_self (typing : (s.round x).status = some .typing) :
    (s.breakAttempt x).ctx x = (s.ctx x).broken ∧ (s.breakAttempt x).round x = (s.round x).abandoned ∧
    (s.breakAttempt x).seat x = { s.seat x with keys := [] } := by
  rw [State.breakAttempt_races typing]
  cases x <;> exact ⟨rfl, rfl, rfl⟩

end BreakAttempt

/-- Both attempts end, if they still race. -/
def State.attemptsBroken (s : State) : State := (s.breakAttempt .a).breakAttempt .b

section AttemptsBroken

variable (s : State)

theorem State.attemptsBroken_only : ∃ ae seats ks, s.attemptsBroken =
    { s with ae := ae, dc := { s.dc with seats := seats }, ks := ks } := by
  obtain ⟨ae, seats, ks, first⟩ := s.breakAttempt_only .a
  obtain ⟨ae', seats', ks', second⟩ := (s.breakAttempt .a).breakAttempt_only .b
  exact ⟨ae', seats', ks', second.trans (by rw [first])⟩

variable {s} {x : Seat}

theorem State.attemptsBroken_self (typing : (s.round x).status = some .typing) :
    s.attemptsBroken.ctx x = (s.ctx x).broken ∧ s.attemptsBroken.round x = (s.round x).abandoned ∧
    s.attemptsBroken.seat x = { s.seat x with keys := [] } := by
  cases x with
  | a =>
    obtain ⟨ctx, round, seat⟩ := (s.breakAttempt .a).breakAttempt_other .b
    obtain ⟨ctx', round', seat'⟩ := State.breakAttempt_self typing
    exact ⟨ctx.trans ctx', round.trans round', seat.trans seat'⟩
  | b =>
    obtain ⟨ctx, round, seat⟩ := s.breakAttempt_other .a
    obtain ⟨ctx', round', seat'⟩ := State.breakAttempt_self (s := s.breakAttempt .a) (x := .b)
      ((congrArg (·.status) round).trans typing)
    exact ⟨ctx'.trans (congrArg Context.broken ctx), round'.trans (congrArg SeatRound.abandoned round),
      seat'.trans (congrArg (fun r : SeatRecord => { r with keys := [] }) seat)⟩

theorem State.firm_breakAttempt (firm : ∀ y, (s.ctx y).firm = none) (x y : Seat) : ((s.breakAttempt x).ctx y).firm = none := by
  by_cases typing : (s.round x).status = some .typing
  · by_cases same : y = x
    · rw [same, (State.breakAttempt_self typing).1]
      rfl
    · have other : y = x.other := (seat_eq_or_eq_other x y).resolve_left same
      rw [other, (s.breakAttempt_other x).1]
      exact firm _
  · rw [State.breakAttempt_out typing]
    exact firm y

theorem State.firm_attemptsBroken (firm : ∀ y, (s.ctx y).firm = none) (y : Seat) : (s.attemptsBroken.ctx y).firm = none :=
  State.firm_breakAttempt (State.firm_breakAttempt firm .a) .b y

end AttemptsBroken

/-! ### The round result and the word (R88 step 3) -/

theorem State.draw_only (q : WordQueue) (limit : Nat) : ∀ (k : Nat) (s : State), ∃ ps, State.draw q limit k s = { s with ps := ps }
  | 0, s => ⟨s.ps, rfl⟩
  | k + 1, s => by
    unfold State.draw
    split
    · split
      · rename_i n _
        obtain ⟨ps, drawn⟩ := State.draw_only q limit k (s.setWordQueue q (s.wordQueue q ++ [n]))
        exact ⟨ps, drawn.trans (by cases q <;> rfl)⟩
      · exact ⟨s.ps, rfl⟩
    · exact ⟨s.ps, rfl⟩

theorem State.releaseRound_only (s : State) (n : Nat) (r : RoundResult) :
    ∃ ps, s.releaseRound n r = { s.clearRoundTarget with ps := ps } := by
  have back := s.clearRoundTarget.reinsert_only .duel n r.reinsert
  obtain ⟨u, hu⟩ : ∃ u, u = s.clearRoundTarget.reinsert .duel n r.reinsert := ⟨_, rfl⟩
  rw [← hu] at back
  have filled : ∃ ps, u.refillDuel = { u with ps := ps } := by
    unfold State.refillDuel
    split
    · exact State.draw_only _ _ _ u
    · exact ⟨u.ps, rfl⟩
  obtain ⟨ps, filled⟩ := filled
  exact ⟨ps, (congrArg State.refillDuel hu.symm).trans (filled.trans (by rw [back]))⟩

theorem State.ctx_clearRoundTarget (s : State) (x : Seat) : s.clearRoundTarget.ctx x = (s.ctx x).untargeted := by
  cases x <;> rfl

/-- The round result and the target, and the contexts' targets, are what changes beside the word queues. -/
theorem State.abandonRound_only (s : State) : ∃ ae result target ps, s.abandonRound =
      { s with ae := ae, dc := { s.dc with result := result, target := target }, ps := ps } ∧
    ∀ x, s.abandonRound.ctx x = s.ctx x ∨ s.abandonRound.ctx x = (s.ctx x).untargeted := by
  cases result : s.dc.result with
  | some r =>
    have same : s.abandonRound = s := by rw [State.abandonRound, result]
    rw [same]
    exact ⟨s.ae, s.dc.result, s.dc.target, s.ps, rfl, fun _ => .inl rfl⟩
  | none =>
    cases target : s.dc.target with
    | none =>
      have same : s.abandonRound = s.resultAbandoned := by
        have none' : s.resultAbandoned.dc.target = none := target
        unfold State.abandonRound
        rw [result]
        show (match s.resultAbandoned.dc.target with
          | some n => s.resultAbandoned.releaseRound n .abandoned
          | none => s.resultAbandoned) = _
        rw [none']
      rw [same]
      exact ⟨s.ae, some .abandoned, s.dc.target, s.ps, rfl, fun _ => .inl rfl⟩
    | some n =>
      obtain ⟨ps, released⟩ := s.resultAbandoned.releaseRound_only n .abandoned
      rw [State.abandonRound_target result target, released]
      exact ⟨_, some .abandoned, none, ps, rfl, fun x => .inr (s.resultAbandoned.ctx_clearRoundTarget x)⟩

end Sys2Proof.Machine
end

section
/-! A round is broken off and the duel finishes: the records are handed, both contexts are at rest (R86 to R89). -/

namespace Sys2Proof.Machine

/-! ### Both records are handed, however the log stands (R86, R97) -/

/-- A context whose record has been handed: it expects no utterance, and a record it still holds waits for room. -/
def Context.handed (c : Context) : Prop := c.firm = none ∧ (c.pendingRecord = none ∨ c.state = .waitingLog)

section HandRecord

variable (s : State) (x : Seat) (r : ResultRecord)

theorem State.handRecord_changes : ∃ ae seats rl au, s.handRecord x r =
    { s with ae := ae, dc := { s.dc with seats := seats }, rl := rl, au := au } := by
  by_cases room : s.rl.records.length < 32
  · obtain ⟨au, logged⟩ := State.recordInLog_eq (s := s) (x := x) (r := r)
    rw [State.handRecord_room room, logged]
    exact ⟨_, _, _, _, rfl⟩
  · rw [State.handRecord_full (Nat.not_lt.1 room)]
    exact ⟨_, _, _, s.au, rfl⟩

theorem State.ctx_recordWaits : (s.recordWaits x r).ctx x = { s.ctx x with
    pendingRecord := some r, state := .waitingLog, pauseCause := none, idleRunning := false, firm := none } := by
  cases x <;> rfl

theorem State.ctx_recordInLog : (s.recordInLog x r).ctx x = { s.ctx x with pendingRecord := none } := by
  obtain ⟨au, logged⟩ := State.recordInLog_eq (s := s) (x := x) (r := r)
  rw [logged]
  cases x <;> rfl

theorem State.ctx_handRecord_other : (s.handRecord x r).ctx x.other = s.ctx x.other := by
  by_cases room : s.rl.records.length < 32
  · obtain ⟨au, logged⟩ := State.recordInLog_eq (s := s) (x := x) (r := r)
    rw [State.handRecord_room room, logged]
    cases x <;> rfl
  · rw [State.handRecord_full (Nat.not_lt.1 room)]
    cases x <;> rfl

theorem State.ctx_handRecord_handed (firm : (s.ctx x).firm = none) : ((s.handRecord x r).ctx x).handed := by
  by_cases room : s.rl.records.length < 32
  · rw [State.handRecord_room room, State.ctx_recordInLog]
    exact ⟨firm, .inl rfl⟩
  · rw [State.handRecord_full (Nat.not_lt.1 room), State.ctx_recordWaits]
    exact ⟨rfl, .inr rfl⟩

theorem State.pending_handRecord (k : Cause) (h : s.isPending k = true) : (s.handRecord x r).isPending k = true := by
  by_cases room : s.rl.records.length < 32
  · rw [State.handRecord_room room]
    exact (Aside.appendRecord (s.setCtx x { s.ctx x with pendingRecord := none }) r).pending k h
  · rw [State.handRecord_full (Nat.not_lt.1 room)]
    exact h

end HandRecord

/-- Both contexts hold their record of the round. -/
def State.recordsBuilt (s : State) : State :=
  { s with ae := ⟨{ s.ae.a with pendingRecord := some (s.duelRecord .a) },
    { s.ae.b with pendingRecord := some (s.duelRecord .b) }⟩ }

theorem State.handBoth_eq (s : State) :
    s.handBoth = (s.recordsBuilt.handRecord .a (s.duelRecord .a)).handRecord .b (s.duelRecord .b) := rfl

section HandBoth

variable (s : State)

theorem State.handBoth_changes : ∃ ae seats rl au, s.handBoth =
    { s with ae := ae, dc := { s.dc with seats := seats }, rl := rl, au := au } := by
  obtain ⟨ae, seats, rl, au, first⟩ := s.recordsBuilt.handRecord_changes .a (s.duelRecord .a)
  obtain ⟨u, hu⟩ : ∃ u, u = s.recordsBuilt.handRecord .a (s.duelRecord .a) := ⟨_, rfl⟩
  obtain ⟨ae', seats', rl', au', second⟩ := u.handRecord_changes .b (s.duelRecord .b)
  refine ⟨ae', seats', rl', au', ?_⟩
  rw [State.handBoth_eq, ← hu, second, hu, first]
  rfl

theorem State.pending_handBoth (k : Cause) (h : s.isPending k = true) : s.handBoth.isPending k = true := by
  rw [State.handBoth_eq]
  exact State.pending_handRecord _ _ _ k (State.pending_handRecord _ _ _ k h)

variable {s}

theorem State.ctx_handBoth_handed (firm : ∀ x, (s.ctx x).firm = none) (x : Seat) : (s.handBoth.ctx x).handed := by
  have firmBuilt (y : Seat) : (s.recordsBuilt.ctx y).firm = none := by
    cases y with
    | a => exact firm .a
    | b => exact firm .b
  obtain ⟨u, hu⟩ : ∃ u, u = s.recordsBuilt.handRecord .a (s.duelRecord .a) := ⟨_, rfl⟩
  rw [State.handBoth_eq, ← hu]
  cases x with
  | a =>
    rw [show (u.handRecord .b (s.duelRecord .b)).ctx .a = u.ctx .a from u.ctx_handRecord_other .b _, hu]
    exact State.ctx_handRecord_handed _ .a _ (firmBuilt .a)
  | b =>
    refine u.ctx_handRecord_handed .b _ ?_
    rw [hu, show (s.recordsBuilt.handRecord .a (s.duelRecord .a)).ctx .b = s.recordsBuilt.ctx .b from
      State.ctx_handRecord_other _ .a _]
    exact firmBuilt .b

/-- With the log full both records wait. -/
theorem State.ctx_handBoth_full (full : 32 ≤ s.rl.records.length) (x : Seat) :
    (s.handBoth.ctx x).state = .waitingLog ∧ (s.handBoth.ctx x).pendingRecord = some (s.duelRecord x) := by
  obtain ⟨u, hu⟩ : ∃ u, u = s.recordsBuilt.recordWaits .a (s.duelRecord .a) := ⟨_, rfl⟩
  have fullU : 32 ≤ u.rl.records.length := by
    rw [hu]
    exact full
  rw [State.handBoth_eq, State.handRecord_full (s := s.recordsBuilt) full, ← hu, State.handRecord_full fullU]
  cases x with
  | a =>
    rw [hu]
    exact ⟨rfl, rfl⟩
  | b => exact ⟨rfl, rfl⟩

end HandBoth

/-! ### The break-off (R88) -/

/-- A round stands that a break-off ends: no presentation is held, and no record is built. -/
def State.breaks (s : State) : Prop := (s.dc.state ≠ .presenting ∨ s.dc.target ≠ none) ∧ ∀ y, (s.round y).record = .notBuilt

theorem State.breakOff_breaks {s : State} (h : s.breaks) :
    s.breakOff = s.cancelRound.attemptsBroken.abandonRound.handBoth := by
  obtain ⟨stands, unbuilt⟩ := h
  have notHeld : s.presentationHeld = false := by
    unfold State.presentationHeld
    obtain other | target := stands
    · rw [beq_eq_false_iff_ne.2 other]
      rfl
    · rw [Option.isNone_eq_false_iff.2 (Option.isSome_iff_ne_none.2 target), Bool.and_false]
  have built : s.notBuilt = true := by rw [State.notBuilt, unbuilt, unbuilt]; rfl
  have test : ¬ (s.presentationHeld || !s.notBuilt) = true := by
    rw [notHeld, built]
    decide
  rw [State.breakOff, State.attemptsBroken]
  exact if_neg test

theorem State.breakOff_not {s : State} (h : ¬ s.breaks) : s.breakOff = s := by
  refine if_pos ?_
  by_contra neither
  rw [Bool.or_eq_true, not_or, Bool.not_eq_true, Bool.not_eq_true', Bool.not_eq_false] at neither
  obtain ⟨notHeld, unbuilt⟩ := neither
  refine h ⟨?_, fun y => ?_⟩
  · by_contra both
    obtain ⟨presenting, target⟩ := not_or.1 both
    rw [not_not] at presenting target
    unfold State.presentationHeld at notHeld
    rw [presenting, target] at notHeld
    cases notHeld
  · rw [State.notBuilt, Bool.and_eq_true, beq_iff_eq, beq_iff_eq] at unbuilt
    cases y with
    | a => exact unbuilt.1
    | b => exact unbuilt.2

theorem State.pending_breakOff (s : State) (k : Cause) (h : s.isPending k = true) : s.breakOff.isPending k = true := by
  by_cases breaks : s.breaks
  · rw [State.breakOff_breaks breaks]
    refine State.pending_handBoth _ k ?_
    obtain ⟨ae, result, target, ps, abandoned, -⟩ := s.cancelRound.attemptsBroken.abandonRound_only
    obtain ⟨ae', seats, ks, broken⟩ := s.cancelRound.attemptsBroken_only
    rw [abandoned, broken]
    exact s.pending_cancelRound k h
  · rwa [State.breakOff_not breaks]

section Broken

variable {s : State} (breaks : s.breaks)
include breaks

/-- After the break-off both records have been handed. -/
theorem State.ctx_breakOff_handed (x : Seat) : (s.breakOff.ctx x).handed := by
  rw [State.breakOff_breaks breaks]
  obtain ⟨se, cs, au, cancelled⟩ := s.cancelRound_only
  have dropped (y : Seat) : (s.cancelRound.ctx y).firm = none := by rw [cancelled]; cases y <;> rfl
  obtain ⟨ae, result, target, ps, -, ctx⟩ := s.cancelRound.attemptsBroken.abandonRound_only
  refine State.ctx_handBoth_handed (fun y => ?_) x
  have firm := State.firm_attemptsBroken dropped y
  obtain same | cleared := ctx y
  · rw [same]
    exact firm
  · rw [cleared]
    exact firm

variable {x : Seat} (typing : (s.round x).status = some .typing)
include typing

theorem State.seat_breakOff : s.breakOff.seat x = { s.seat x with keys := [] } := by
  rw [State.breakOff_breaks breaks]
  obtain ⟨se, cs, au, cancelled⟩ := s.cancelRound_only
  have typing' : (s.cancelRound.round x).status = some .typing := by rw [cancelled]; exact typing
  obtain ⟨-, -, seat⟩ := State.attemptsBroken_self typing'
  obtain ⟨ae, seats, rl, au', handed⟩ := s.cancelRound.attemptsBroken.abandonRound.handBoth_changes
  obtain ⟨ae', result, target, ps, abandoned, -⟩ := s.cancelRound.attemptsBroken.abandonRound_only
  rw [State.seat, handed, abandoned]
  exact seat.trans (by rw [cancelled]; rfl)

/-- With the log full the record of a seat that raced waits, with outcome ABANDONED. -/
theorem State.ctx_breakOff_full (full : 32 ≤ s.rl.records.length) : (s.breakOff.ctx x).state = .waitingLog ∧
    ∃ r, (s.breakOff.ctx x).pendingRecord = some r ∧ r.outcome = .abandoned ∧ r.seat = x := by
  rw [State.breakOff_breaks breaks]
  obtain ⟨se, cs, au, cancelled⟩ := s.cancelRound_only
  have typing' : (s.cancelRound.round x).status = some .typing := by rw [cancelled]; exact typing
  obtain ⟨-, round, -⟩ := State.attemptsBroken_self typing'
  obtain ⟨ae, seats, ks, broken⟩ := s.cancelRound.attemptsBroken_only
  obtain ⟨ae', result, target, ps, abandoned, -⟩ := s.cancelRound.attemptsBroken.abandonRound_only
  obtain ⟨u, hu⟩ : ∃ u, u = s.cancelRound.attemptsBroken.abandonRound := ⟨_, rfl⟩
  rw [← hu] at abandoned ⊢
  have fullU : 32 ≤ u.rl.records.length := by
    rw [abandoned, broken, cancelled]
    exact full
  have ended : (u.round x).ended = some .abandoned := by
    have same : u.round x = s.cancelRound.attemptsBroken.round x := by rw [abandoned]; rfl
    rw [same, round]
    rfl
  obtain ⟨state, pending⟩ := State.ctx_handBoth_full fullU x
  exact ⟨state, _, pending, State.outcome_duelRecord ended, rfl⟩

end Broken

/-! ### The duel finishes with contexts at rest (R87) -/

theorem Context.rests_afterDuel {c : Context} (h : c.handed) : c.afterDuel.rests := by
  obtain ⟨firm, pending⟩ := h
  unfold Context.afterDuel
  split
  · rename_i holds
    refine ⟨firm, .inr (pending.resolve_left fun none' => ?_)⟩
    rw [none'] at holds
    cases holds
  · exact ⟨rfl, .inl rfl⟩

theorem Context.rests_afterDuel_of_free {c : Context} (free : c.pendingRecord = none) : c.afterDuel.rests := by
  rw [Context.afterDuel_of_free free]
  exact ⟨rfl, .inl rfl⟩

section DuelOver

variable (s : State) (r : FinishReason)

theorem State.dc_duelOver : (s.duelOver r).dc.state = .finished ∧ (s.duelOver r).dc.finish = some r ∧
    (s.duelOver r).dc.duelWinner = r.winner s.dc.scores ∧ (s.duelOver r).dc.scores = s.dc.scores ∧
    (s.duelOver r).dc.target = none ∧ (s.duelOver r).dc.firm = none ∧ (s.duelOver r).dc.result = s.dc.result ∧
    (s.duelOver r).dc.seats = s.dc.seats := ⟨rfl, rfl, rfl, rfl, rfl, rfl, rfl, rfl⟩

theorem State.duelOver_keeps : (s.duelOver r).rl = s.rl ∧ (s.duelOver r).ps = s.ps ∧ (s.duelOver r).wt = s.wt ∧
    (s.duelOver r).ks = s.ks ∧ (s.duelOver r).fb = s.fb := ⟨rfl, rfl, rfl, rfl, rfl⟩

theorem State.pending_duelOver (k : Cause) (h : k = .duelEnd ∨ s.isPending k = true) : (s.duelOver r).isPending k = true := by
  obtain ⟨u, hu⟩ : ∃ u : State, u = ({ s with dc := { s.dc with
    state := .finished, finish := some r, duelWinner := r.winner s.dc.scores, target := none, firm := none } } : State).staleJudgements :=
    ⟨_, rfl⟩
  have same : (s.duelOver r).au = (u.raise .duelEnd).au := by
    rw [hu]
    rfl
  rw [State.isPending, same]
  obtain rfl | was := h
  · exact u.isPending_raise .duelEnd
  · exact (Raises.raise u .duelEnd).1 k (by rw [hu]; exact was)

end DuelOver

/-- What a duel's end leads to in `k` tasks: SE goes on and the key queues are emptied or kept. -/
def State.duelEnded (s : State) (r : FinishReason) (k : Nat) : State :=
  drain k [.arbitrate, .takeKeys .a, .takeKeys .b] (s.duelOver r)

/-- The duel record and the pending causes after a finish, whatever the contexts and the speech are. -/
theorem State.duelEnded_finished (s : State) (r : FinishReason) (k : Nat) :
    (s.duelEnded r k).dc.state = .finished ∧ (s.duelEnded r k).dc.finish = some r ∧
    (s.duelEnded r k).dc.duelWinner = r.winner s.dc.scores ∧ (s.duelEnded r k).dc.scores = s.dc.scores ∧
    (s.duelEnded r k).dc.target = none ∧ (s.duelEnded r k).duelRuns = false ∧ (s.duelEnded r k).isPending .duelEnd = true ∧
    (∀ c, s.isPending c = true → (s.duelEnded r k).isPending c = true) ∧ (s.duelEnded r k).dc.result = s.dc.result ∧
    (s.duelEnded r k).dc.seats = s.dc.seats := by
  obtain ⟨state, finish, winner, scores, target, firm, result, seats⟩ := s.dc_duelOver r
  have aside : Aside (s.duelOver r) (s.duelEnded r k) := Aside.drain rfl firm k
  have pending := aside.pending
  obtain ⟨j, dc⟩ := aside.dc
  have state' : (s.duelEnded r k).dc.state = .finished := by rw [dc]; exact state
  refine ⟨state', ?_, ?_, ?_, ?_, by rw [State.duelRuns, state'], pending .duelEnd (s.pending_duelOver r _ (.inl rfl)),
    fun c h => pending c (s.pending_duelOver r c (.inr h)), ?_, ?_⟩
  all_goals
    rw [dc]
    assumption

/-- With both contexts at rest nothing but speech and keys follows. -/
theorem State.duelEnded_rested {s : State} {r : FinishReason} (rests : ∀ x, (s.ctx x).afterDuel.rests) (k : Nat) :
    Rested (s.duelOver r) (s.duelEnded r k) :=
  Rested.drain rfl (fun x => by rw [State.ctx_duelOver]; exact rests x) rfl k

end Sys2Proof.Machine
end

section
/-! STOP_DUEL: an open round is broken off, and the duel finishes whatever the round and the speech were (R87 to R89). -/

namespace Sys2Proof.Machine

/-! ### An open round broken off (R88) -/

/-- A word that is still in the table goes to the front of a duel queue with room (R16, R17). -/
theorem State.reinsert_front {s : State} {n : Nat} {e : WordEntry} (entry : s.entry n = some e) (room : s.ps.duel.length < 8) :
    (s.reinsert .duel n .front).ps = { s.ps with duel := n :: s.ps.duel } := by
  have front : putBack s.ps.duel n 0 = n :: s.ps.duel := by
    rw [putBack_eq n 0 (Nat.le_of_lt room), List.take_zero, List.drop_zero, List.nil_append,
      List.take_of_length_le (Nat.le_of_lt_succ room)]
  unfold State.reinsert
  rw [entry]
  show ({ s.ps with duel := putBack s.ps.duel n 0 } : WordQueues) = _
  rw [front]

section RoundOpen

variable {s : State} (opened : s.roundOpen)
include opened

theorem State.breaks_of_roundOpen : s.breaks := by
  obtain ⟨-, -, ⟨n, e, target, -⟩, seats, -⟩ := opened
  refine ⟨.inr fun none' => ?_, fun y => (seats y).2⟩
  rw [target] at none'
  cases none'

/-- The part as the records of the broken-off round are built. -/
theorem State.openRound_broken : ∃ (u : State) (n : Nat), s.breakOff = u.handBoth ∧ s.dc.target = some n ∧
    u.dc.result = some .abandoned ∧ u.dc.target = none ∧ u.dc.winner = none ∧ u.dc.update = none ∧ u.dc.copy = s.dc.copy ∧
    u.dc.round = s.dc.round ∧ u.wt = s.wt ∧ u.ps = { s.ps with duel := n :: s.ps.duel } ∧ u.rl = s.rl ∧
    ∀ x, u.ctx x = (s.ctx x).dropped.broken.untargeted ∧ (u.round x).ended = some .abandoned := by
  have breaks := State.breaks_of_roundOpen opened
  obtain ⟨-, -, ⟨n, e, target, entry⟩, seats, winner, result, update, room, queue, noRefill⟩ := opened
  obtain ⟨se, cs, au, cancelled⟩ := s.cancelRound_only
  obtain ⟨c, hc⟩ : ∃ c, c = s.cancelRound := ⟨_, rfl⟩
  rw [← hc] at cancelled
  have ctxC (x : Seat) : c.ctx x = (s.ctx x).dropped := by
    rw [cancelled]
    cases x <;> rfl
  have typing (x : Seat) : (c.round x).status = some .typing := by
    rw [cancelled]
    exact (seats x).1
  have self (x : Seat) := State.attemptsBroken_self (typing x)
  obtain ⟨ae, dcSeats, ks, broken⟩ := c.attemptsBroken_only
  obtain ⟨b, hb⟩ : ∃ b, b = c.attemptsBroken := ⟨_, rfl⟩
  rw [← hb] at broken self
  have resultB : b.dc.result = none := by rw [broken, cancelled]; exact result
  have targetB : b.dc.target = some n := by rw [broken, cancelled]; exact target
  have noRefillB : b.resultAbandoned.cfg.refillMark = 0 := by
    show b.cfg.refillMark = 0
    rw [broken, cancelled]
    exact noRefill
  have back : (b.resultAbandoned.reinsert .duel n RoundResult.abandoned.reinsert).ps =
      { s.ps with duel := n :: s.ps.duel } := by
    refine (State.reinsert_congr (s := s) (t := b.resultAbandoned) ?_ ?_ ?_ .duel n .front).trans
      (State.reinsert_front entry queue)
    · show b.wt = s.wt
      rw [broken, cancelled]
    · show b.ps = s.ps
      rw [broken, cancelled]
    · show b.cfg = s.cfg
      rw [broken, cancelled]
  obtain ⟨u, hu⟩ : ∃ u : State, u = { b.resultAbandoned.clearRoundTarget with ps := { s.ps with duel := n :: s.ps.duel } } :=
    ⟨_, rfl⟩
  have abandoned : b.abandonRound = u := by
    rw [State.abandonRound_target resultB targetB, State.releaseRound_eq noRefillB, back, hu]
  refine ⟨u, n, ?_, target, ?_, ?_, ?_, ?_, ?_, ?_, ?_, ?_, ?_, fun x => ⟨?_, ?_⟩⟩
  · rw [State.breakOff_breaks breaks, ← hc, ← hb, abandoned]
  · rw [hu]
    rfl
  · rw [hu]
    rfl
  · rw [hu]
    show b.dc.winner = none
    rw [broken, cancelled]
    exact winner
  · rw [hu]
    show b.dc.update = none
    rw [broken, cancelled]
    exact update
  · rw [hu]
    show b.dc.copy = s.dc.copy
    rw [broken, cancelled]
  · rw [hu]
    show b.dc.round = s.dc.round
    rw [broken, cancelled]
  · rw [hu]
    show b.wt = s.wt
    rw [broken, cancelled]
  · rw [hu]
  · rw [hu]
    show b.rl = s.rl
    rw [broken, cancelled]
  · rw [hu]
    refine (b.resultAbandoned.ctx_clearRoundTarget x).trans (congrArg Context.untargeted ?_)
    exact (self x).1.trans (congrArg Context.broken (ctxC x))
  · rw [hu]
    exact congrArg SeatRound.ended (self x).2.1

end RoundOpen

/-- A record of a broken-off round (R86, R88). -/
theorem ResultRecord.brokenOff {s u : State} {x : Seat} (n : Option Nat) (winner : u.dc.winner = none) (update : u.dc.update = none)
    (copy : u.dc.copy = s.dc.copy) (round : u.dc.round = s.dc.round)
    (ctx : u.ctx x = (s.ctx x).dropped.broken.untargeted) (ended : (u.round x).ended = some .abandoned) :
    let r := { u.duelRecord x with number := n }
    r.outcome = .abandoned ∧ r.won = false ∧ r.duel = true ∧ r.round = s.dc.round ∧
      r.masteredNow = false ∧ r.tries = (s.ctx r.seat).tries ∧ r.keys = (s.ctx r.seat).keys ∧
      r.mistake = (s.ctx r.seat).lastMistake ∧
      ∀ k, s.dc.copy = some k → r.wordId = k.wordId ∧ r.boxBefore = k.box ∧ r.boxAfter = k.box := by
  refine ⟨State.outcome_duelRecord ended, ?_, rfl, round, ?_, ?_, ?_, ?_, fun k hk => ⟨?_, ?_, ?_⟩⟩
  · show (u.dc.winner == some x) = false
    rw [winner]
    rfl
  · simp [State.duelRecord, update]
  · show (u.ctx x).tries = _
    rw [ctx]
    rfl
  · show (u.ctx x).keys = _
    rw [ctx]
    rfl
  · show (u.ctx x).lastMistake = _
    rw [ctx]
    rfl
  all_goals simp [State.duelRecord, copy, hk, update]

/-- An open round that is broken off leaves its records in the log, its word at the front and both contexts free (R88). -/
theorem State.brokenOff_duelEnded {s v : State} {r : FinishReason} {k : Nat} (opened : s.roundOpen)
    (same : ∃ seats, v = { s.breakOff with dc := { s.breakOff.dc with seats := seats } }) : (v.duelEnded r k).brokenOff s := by
  obtain ⟨u, n, handing, target, result, gone, winner, update, copy, round, wt, ps, rl, seats⟩ := State.openRound_broken opened
  obtain ⟨-, -, -, -, -, -, -, room, -, -⟩ := opened
  obtain ⟨au, handed⟩ := State.handBoth_room (s := u) (by rw [rl]; exact room)
  obtain ⟨w, hw⟩ : ∃ w, w = u.handBoth := ⟨_, rfl⟩
  rw [← hw] at handed handing
  obtain ⟨dcSeats, same⟩ := same
  rw [handing] at same
  have ctx (x : Seat) : v.ctx x = { (s.ctx x).dropped.broken.untargeted with pendingRecord := none } := by
    have inLog : v.ctx x = { u.ctx x with pendingRecord := none } := by
      rw [same, handed]
      cases x <;> rfl
    rw [inLog, (seats x).1]
  have free (x : Seat) : (v.ctx x).pendingRecord = none := by rw [ctx]
  have rested := State.duelEnded_rested (s := v) (r := r) (fun x => Context.rests_afterDuel_of_free (free x)) k
  obtain ⟨log, queues, words, -⟩ := rested.keeps
  obtain ⟨-, -, -, -, targetT, -, -, -, resultT, -⟩ := v.duelEnded_finished r k
  refine ⟨⟨{ u.duelRecord .a with number := some s.rl.counter }, { u.duelRecord .b with number := some (wrapSucc s.rl.counter) },
    ?_, rfl, rfl, rfl, rfl, fun q hq => ?_⟩, ?_, targetT, ?_, fun m hm => ?_, fun x => ?_⟩
  · have records : v.rl.records = u.rl.records ++ [{ u.duelRecord .a with number := some u.rl.counter },
        { u.duelRecord .b with number := some (wrapSucc u.rl.counter) }] := by rw [same, handed]
    rw [log]
    show v.rl.records = _
    rw [records, rl]
  · obtain rfl | rfl := hq
    · exact ResultRecord.brokenOff _ winner update copy round (seats .a).1 (seats .a).2
    · exact ResultRecord.brokenOff _ winner update copy round (seats .b).1 (seats .b).2
  · rw [resultT, same, handed]
    exact result
  · rw [words]
    show v.wt = s.wt
    rw [same, handed]
    exact wt
  · rw [target] at hm
    cases hm
    rw [queues]
    show v.ps = _
    rw [same, handed]
    exact ps
  · rw [rested.ctx, State.ctx_duelOver, Context.afterDuel_of_free (free x)]
    exact ⟨rfl, rfl, rfl⟩

/-! ### STOP_DUEL (R89) -/

theorem State.stopDuelNow_done (s : State) : s.stopDuelNow.done = s.breakOff.duelEnded .stopped Config.cascade := rfl

theorem exec_stopDuel_runs {s : State} {tag : Byte} (taken : s.takes (.stopDuel tag)) (runs : s.duelRuns = true) :
    exec (.stopDuel tag) s = .next ((s.breakOff.duelEnded .stopped Config.cascade).replied (.stopDuel tag) .ok []) := by
  refine exec_answer rfl taken (?_ : stopDuelOwner s = _)
  rw [stopDuelOwner, runs, State.stopDuelNow_done]
  rfl

theorem exec_stopDuel_off {s : State} {tag : Byte} (taken : s.takes (.stopDuel tag)) (off : s.duelRuns = false) :
    exec (.stopDuel tag) s = .next (s.replied (.stopDuel tag) .wrongState []) := by
  refine exec_answer rfl taken (?_ : stopDuelOwner s = _)
  rw [stopDuelOwner, off]
  rfl

/-- STOP_DUEL of a running duel. -/
theorem stopDuel_finishes {s : State} {tag : Byte} (taken : s.takes (.stopDuel tag)) (runs : s.duelRuns = true) :
    ∃ t : State, exec (.stopDuel tag) s = .next (t.replied (.stopDuel tag) .ok []) ∧
      t.dc.state = .finished ∧ t.dc.finish = some .stopped ∧ t.dc.duelWinner = none ∧ t.dc.scores = s.dc.scores ∧
      t.dc.target = none ∧ t.isPending .duelEnd = true ∧ t.duelRuns = false ∧ t.fixed = s.fixed ∧
      (s.roundOpen → t.brokenOff s) ∧
      (s.dc.state = .presenting → s.dc.target = none → (∀ x, (s.ctx x).pendingRecord = none) →
        t.rl = s.rl ∧ t.ps = s.ps ∧ t.wt = s.wt) ∧
      ∀ x, s.dc.state ≠ .presenting ∨ s.dc.target ≠ none → (∀ y, (s.round y).record = .notBuilt) →
        (s.round x).status = some .typing → (t.seat x).keys = [] ∧
        (32 ≤ s.rl.records.length → (t.ctx x).state = .waitingLog ∧
          ∃ r, (t.ctx x).pendingRecord = some r ∧ r.outcome = .abandoned ∧ r.seat = x) := by
  obtain ⟨state, finish, winner, scores, target, off, pending, -, -, -⟩ := s.breakOff.duelEnded_finished .stopped Config.cascade
  have kept : s.breakOff.dc.scores = s.dc.scores := Moves.scores (Moves.breakOff .refl)
  have fixed : (s.breakOff.duelEnded .stopped Config.cascade).fixed = s.fixed := by
    rw [← State.stopDuelNow_done, Act.fixed_done, State.fixed_stopDuelNow]
  refine ⟨_, exec_stopDuel_runs taken runs, state, finish, winner, scores.trans kept, target, pending, off, fixed,
    fun opened => State.brokenOff_duelEnded opened ⟨s.breakOff.dc.seats, rfl⟩, fun presenting held free => ?_,
    fun x stands unbuilt typing => ?_⟩
  · have same : s.breakOff = s := State.breakOff_not fun ⟨stands, _⟩ => stands.elim (fun h => h presenting) fun h => h held
    rw [same]
    obtain ⟨log, queues, words, -⟩ :=
      (State.duelEnded_rested (s := s) (r := .stopped) (fun x => Context.rests_afterDuel_of_free (free x)) Config.cascade).keeps
    exact ⟨log, queues, words⟩
  · have breaks : s.breaks := ⟨stands, unbuilt⟩
    have rested := State.duelEnded_rested (s := s.breakOff) (r := .stopped)
      (fun y => Context.rests_afterDuel (State.ctx_breakOff_handed breaks y)) Config.cascade
    have keys : ((s.breakOff.duelOver .stopped).seat x).keys = [] := by
      show (s.breakOff.seat x).keys = []
      rw [State.seat_breakOff breaks typing]
    refine ⟨rested.keys keys, fun full => ?_⟩
    obtain ⟨waiting, record, holds, abandoned⟩ := State.ctx_breakOff_full breaks typing full
    have ctx : (s.breakOff.duelEnded .stopped Config.cascade).ctx x = s.breakOff.ctx x := by
      rw [rested.ctx, State.ctx_duelOver]
      exact if_pos (by rw [holds]; rfl)
    rw [ctx]
    exact ⟨waiting, record, holds, abandoned⟩

end Sys2Proof.Machine
end

section
/-! A seat that leaves READY forfeits the duel (R53, R90). -/

namespace Sys2Proof.Machine

/-! ### The seat goes to EMPTY (R125, R130) -/

/-- A seat that goes to EMPTY changes the scanner's state and the pending causes; its key queue is empty and SEAT_CHANGE
pending. -/
theorem State.seatToEmpty_changes (s : State) (x : Seat) : (∃ ks au, (s.seatToEmpty x).1 = { s with ks := ks, au := au }) ∧
    ((s.seatToEmpty x).1.seat x).state = .empty ∧ ((s.seatToEmpty x).1.seat x).keys = [] ∧
    (s.seatToEmpty x).1.isPending (.seatChange x) = true := by
  obtain ⟨-, -, given⟩ := s.giveAllDue_alertsOnly x
  obtain ⟨u, hu⟩ : ∃ u, u = s.giveAllDue x := ⟨_, rfl⟩
  rw [← hu] at given
  obtain ⟨ks, scan⟩ : ∃ ks, u.mapScan (·.seatLeft x) = { u with ks := ks } := ⟨_, rfl⟩
  have emptied : (s.seatToEmpty x).1 = (({ u with ks := ks } : State).setSeat x
      { (({ u with ks := ks } : State).seat x).forgotten with state := .empty }).raise (.seatChange x) := by
    rw [← scan, hu]
    rfl
  obtain ⟨ks', au, changes⟩ : ∃ ks' au, (({ u with ks := ks } : State).setSeat x
      { (({ u with ks := ks } : State).seat x).forgotten with state := .empty }).raise (.seatChange x) =
        { u with ks := ks', au := au } := ⟨_, _, rfl⟩
  rw [emptied]
  refine ⟨⟨ks', au, changes.trans (by rw [given])⟩, ?_, ?_, State.isPending_raise _ _⟩
  · exact congrArg SeatRecord.state (State.seat_setSeat_self _ _ _)
  · exact congrArg SeatRecord.keys (State.seat_setSeat_self _ _ _)

theorem exec_senseSettled_leaves {s : State} {x : Seat} {periods : Nat} (released : s.resetHeld = false)
    (ready : (s.seat x).state = .ready) (runs : (s.seat x).settleTimer = some periods) (absent : (s.seat x).senseLine = false) :
    exec (.senseSettled x) s =
      .next (((s.setSeat x { s.seat x with settled := false, settleTimer := none }).seatToEmpty x).1.carryOut [.seatLost x]) := by
  have settled : exec (.senseSettled x) s = .next (s.senseDone x) := event_taken (act := fun s => s.senseDone x) released
  have left : ((s.setSeat x { s.seat x with settled := false, settleTimer := none }).seatToEmpty x).2 = [.seatLost x] := by
    show departure ((s.setSeat x { s.seat x with settled := false, settleTimer := none }).seat x).state x = _
    rw [State.seat_setSeat_self]
    exact if_pos ready
  rw [settled, State.senseDone, runs]
  dsimp only
  rw [State.settleSense_absent absent (by rw [ready]; decide), Act.done, left]

/-! ### The forfeit (R90) -/

/-- The duel record after the break-off, with the absent seat's status GONE. -/
def State.seatGone (s : State) (x : Seat) : State := s.breakOff.setRound x { s.breakOff.round x with status := some .gone }

theorem State.carryOut_forfeit {s : State} {x : Seat} (thawed : s.fb.frozen = false) (duel : (s.ctx x).mode = .duel)
    (runs : s.duelRuns = true) : s.carryOut [.seatLost x] = (s.seatGone x).duelEnded (forfeitReason x) 19999 := by
  have lost : s.loseSeat x = s.forfeit x := by
    rw [State.loseSeat, duel]
    exact if_pos runs
  have forfeits : s.forfeit x = ((s.seatGone x).duelOver (forfeitReason x), [.arbitrate, .takeKeys .a, .takeKeys .b]) := rfl
  have ran : runTask (.seatLost x) s = ((s.seatGone x).duelOver (forfeitReason x), [.arbitrate, .takeKeys .a, .takeKeys .b]) :=
    (runTask_thawed thawed _).trans (lost.trans forfeits)
  rw [State.carryOut, Config.cascade, drain_cons, ran]
  rfl

theorem State.runs_of_roundOpen {s : State} (opened : s.roundOpen) : s.duelRuns = true := by
  obtain ⟨state | state, -⟩ := opened
  all_goals rw [State.duelRuns, state]

/-- The absent seat's status is all that differs from the break-off. -/
theorem State.seatGone_only (s : State) (x : Seat) : (∃ seats, s.seatGone x =
      { s.breakOff with dc := { s.breakOff.dc with seats := seats } }) ∧
    ((s.seatGone x).round x).status = some .gone := by
  obtain ⟨u, hu⟩ : ∃ u, u = s.breakOff := ⟨_, rfl⟩
  rw [State.seatGone, ← hu]
  exact ⟨⟨_, rfl⟩, by cases x <;> rfl⟩

theorem forfeitReason_winner (x : Seat) (scores : Pair Nat) : (forfeitReason x).winner scores = some x.other := by
  cases x <;> rfl

/-- A forfeit of an open round (R88, R90). -/
theorem State.forfeit_ends {s t : State} {x : Seat} {k : Nat} (opened : s.roundOpen)
    (ends : t = (s.seatGone x).duelEnded (forfeitReason x) k) :
    t.brokenOff s ∧ t.dc.state = .finished ∧ t.dc.finish = some (forfeitReason x) ∧ t.dc.duelWinner = some x.other ∧
      t.dc.scores = s.dc.scores ∧ (t.round x).status = some .gone ∧ t.isPending .duelEnd = true ∧
      (∀ c, s.isPending c = true → t.isPending c = true) ∧ (t.seat x).state = (s.seat x).state ∧ (t.seat x).keys = [] := by
  have breaks := State.breaks_of_roundOpen opened
  obtain ⟨⟨seats, only⟩, gone⟩ := s.seatGone_only x
  have broken := State.brokenOff_duelEnded (r := forfeitReason x) (k := k) opened ⟨seats, only⟩
  obtain ⟨v, hv⟩ : ∃ v, v = s.seatGone x := ⟨_, rfl⟩
  rw [← hv] at only gone broken ends
  obtain ⟨state, finish, winner, scores, -, -, ended, pending, -, seats'⟩ := v.duelEnded_finished (forfeitReason x) k
  have handed (y : Seat) : (v.ctx y).handed := by
    have handed := State.ctx_breakOff_handed breaks y
    rw [only]
    exact handed
  have rested := State.duelEnded_rested (r := forfeitReason x) (fun y => Context.rests_afterDuel (handed y)) k
  have typing : (s.round x).status = some .typing := by
    obtain ⟨-, -, -, open', -⟩ := opened
    exact (open' x).1
  have seat : (v.duelOver (forfeitReason x)).seat x = { s.seat x with keys := [] } := by
    have left := State.seat_breakOff breaks typing
    show v.seat x = _
    rw [only]
    exact left
  have kept : v.dc.scores = s.dc.scores := by
    have scores : s.breakOff.dc.scores = s.dc.scores := Moves.scores (Moves.breakOff .refl)
    rw [only]
    exact scores
  have status : (t.round x).status = some .gone := by
    rw [ends, State.round, seats', ← State.round, gone]
  have pendings (c : Cause) (h : s.isPending c = true) : v.isPending c = true := by
    have still := s.pending_breakOff c h
    rw [only]
    exact still
  obtain ⟨n, same⟩ := rested.seats x
  rw [← ends] at broken state finish winner scores ended pending rested same
  refine ⟨broken, state, finish, winner.trans (forfeitReason_winner x _), scores.trans kept, status, ended,
    fun c h => pending c (pendings c h), ?_, rested.keys (by rw [seat])⟩
  rw [same, seat]

theorem senseSettled_forfeits {s : State} {x : Seat} {periods : Nat} (released : s.resetHeld = false)
    (thawed : s.fb.frozen = false) (opened : s.roundOpen) (duel : (s.ctx x).mode = .duel) (ready : (s.seat x).state = .ready)
    (runs : (s.seat x).settleTimer = some periods) (absent : (s.seat x).senseLine = false) :
    ∃ t : State, exec (.senseSettled x) s = .next t ∧ t.brokenOff s ∧ t.dc.state = .finished ∧
      t.dc.finish = some (forfeitReason x) ∧ t.dc.duelWinner = some x.other ∧
      t.dc.scores = s.dc.scores ∧ (t.round x).status = some .gone ∧ t.isPending .duelEnd = true ∧
      t.isPending (.seatChange x) = true ∧ (t.seat x).state = .empty ∧ (t.seat x).keys = [] := by
  obtain ⟨⟨ks, au, changes⟩, empty, -, pending⟩ :=
    (s.setSeat x { s.seat x with settled := false, settleTimer := none }).seatToEmpty_changes x
  have acted := exec_senseSettled_leaves released ready runs absent
  obtain ⟨e, he⟩ : ∃ e, e = ((s.setSeat x { s.seat x with settled := false, settleTimer := none }).seatToEmpty x).1 := ⟨_, rfl⟩
  rw [← he] at changes empty pending acted
  have only : e = { s with ks := ks, au := au } := changes
  have openedE : e.roundOpen := by
    rw [only]
    exact opened
  rw [State.carryOut_forfeit (by rw [only]; exact thawed) (by rw [only]; exact duel) (State.runs_of_roundOpen openedE)] at acted
  obtain ⟨broken, state, finish, winner, scores, status, ended, pendings, seat, keys⟩ :=
    State.forfeit_ends (x := x) (k := 19999) openedE rfl
  refine ⟨_, acted, ?_, state, finish, winner, scores.trans (by rw [only]), status, ended, pendings _ pending, seat.trans empty,
    keys⟩
  rw [only] at broken ⊢
  exact broken

/-- Settles O27: STOP_DUEL and a forfeit break the open round off, and leave contexts that take no part in what follows. -/
theorem stopDuelFinishesTheDuel : Obligations.StopDuelFinishesTheDuel := by
  refine ⟨fun s tag taken _ => ⟨stopDuel_finishes taken, exec_stopDuel_off taken⟩,
    fun s x periods released thawed opened duel ready runs absent => ?_⟩
  obtain ⟨t, acted, broken, state, finish, rest⟩ := senseSettled_forfeits released thawed opened duel ready runs absent
  refine ⟨t, acted, broken, state, finish.trans ?_, rest⟩
  cases x <;> rfl

end Sys2Proof.Machine
end
